-- ==== Sys2Proof/Word.lean ====
section
/-! DEFINITION. The byte, the unit in which every frame of the part is made (spec 10 R185). Amounts, counts and
numbers of records are natural numbers: the manual adds and compares them exactly (04 R55, R56). -/

namespace Sys2Proof

/-- One byte of a frame. -/
abbrev Byte := BitVec 8

end Sys2Proof
end

