-- ==== Sys2Proof/Config.lean ====
section
/-! DEFINITION. The fixed sizes and limits of the part, and the values the manual leaves open (opaque, so that
nothing can be proved about them). -/

namespace Sys2Proof.Config

/-- The greatest amount of money, in cents (00, Money; 04 R56). -/
def maxAmount : Nat := 99999999
/-- The divisor D of every rate (00, Rates). -/
def rateUnit : Nat := 100000
/-- Check slots (01 R1). -/
def slotCount : Nat := 192
/-- The greatest check number (01 R2). -/
def maxCheckNumber : Nat := 9999
/-- Table entries (02, 2.1). -/
def tableCount : Nat := 400
/-- Checks in one open-check list (02 R25). -/
def tableListMax : Nat := 4
/-- Terminal entries (02, 2.3). -/
def terminalCount : Nat := 48
/-- Line records of the pool (03 R39). -/
def lineRecords : Nat := 3072
/-- The greatest line number (03 R41). -/
def maxLineNumber : Nat := 120
/-- Tender records of the pool (06 R96). -/
def tenderRecords : Nat := 320
/-- Entries of one tender list (06 R97). -/
def tenderListMax : Nat := 16
/-- Exchange entries (07 R134). -/
def exchangeEntries : Nat := 8
/-- Approval records (08 R150). -/
def approvalRecords : Nat := 16
/-- Watch entries (09 R159). -/
def watchEntries : Nat := 96
/-- Watch entries plus unwatched hit entries of one terminal (09 R163). -/
def watchLimit : Nat := 8
/-- Places of an output list (10 R179). -/
def outputPlaces : Nat := 32
/-- Free places a request needs to be taken (10 R179). -/
def answerPlaces : Nat := 12
/-- Where the error counts stop (10 R175, R176, R179; 07 R126). -/
def countMax : Nat := 65535
/-- The greatest version (01 R4). -/
def maxVersion : Nat := 65534
/-- The expected version that asks for no comparison (01 R5). -/
def anyVersion : Nat := 65535
/-- The greatest rate a RATE tip may name (04 R74). -/
def maxTipRate : Nat := 200000

/-- DESIGN CHOICE (log entry 11), a free value: the byte sent for a count above 255 where the layout has one byte. -/
opaque wideCountByte : Nat → Byte
/-- DESIGN CHOICE (log entry 12), a free value: the byte that stands for the outcome RETIRED in an answer. -/
opaque retiredByte : Byte
/-- DESIGN CHOICE (log entry 13), a free value: the level of NOTE_N (true is low) while the part is halted. -/
opaque noteLowHalted : Bool

end Sys2Proof.Config
end

