-- ==== Sys2Proof/Machine/Bytes.lean ====
section
/-! DEFINITION. Bytes of frames: big-endian fields (10 R185), the frame CRC-16 (10 R176) and the CRC-32 of the
stored areas (11 R191). -/

namespace Sys2Proof.Machine

/-- A number as n bytes, most significant first (10 R185). -/
def be : Nat → Nat → List Byte
  | 0, _ => []
  | n + 1, v => be n (v / 256) ++ [BitVec.ofNat 8 v]

/-- A one-byte field. -/
def be1 (v : Nat) : List Byte := be 1 v
/-- A two-byte field. -/
def be2 (v : Nat) : List Byte := be 2 v
/-- A three-byte field. -/
def be3 (v : Nat) : List Byte := be 3 v
/-- A four-byte field. -/
def be4 (v : Nat) : List Byte := be 4 v

/-- The number spelled by bytes, most significant first (10 R185). -/
def ofBe (bs : List Byte) : Nat := bs.foldl (fun acc b => acc * 256 + b.toNat) 0

/-- An optional amount: absent is 0xFFFFFFFF (10 R185). -/
def amountOr (v : Option Nat) : List Byte := be4 (v.getD 0xFFFFFFFF)

/-- An optional one-byte value: absent is 0xFF (10 R185). -/
def byteOr (v : Option Nat) : List Byte := be1 (v.getD 0xFF)

/-- A count in one byte (10 R185); above 255 the layout has no room and the byte is free (log entry 11). -/
def countByte (n : Nat) : List Byte := if n < 256 then be1 n else [Config.wideCountByte n]

/-- A flag or level: clear or low 0, set or high 1 (10 R185). -/
def flagByte (b : Bool) : List Byte := be1 b.toNat

/-- Optional bytes of a fixed length: absent is all 0. 10 R184 states so for the frames of the Acquirer Port; in a tender
status body it is the model's choice (log entry 37). -/
def bytesOr (n : Nat) (v : Option (List Byte)) : List Byte := v.getD (List.replicate n 0)

/-- One bit of the CRC-16 with generator 0x1021, most significant bit first (10 R176). -/
def crc16Bit (c : Nat) : Nat :=
  bif 0x8000 ≤ c then Nat.xor (2 * c % 0x10000) 0x1021 else 2 * c

/-- One byte of the CRC-16. -/
def crc16Byte (c : Nat) (b : Byte) : Nat :=
  Nat.repeat crc16Bit 8 (Nat.xor c (b.toNat * 256))

/-- The CRC-16 of a frame's bytes: initial value 0xFFFF, no final inversion (10 R176). -/
def crc16 (bs : List Byte) : Nat := bs.foldl crc16Byte 0xFFFF

/-- A whole frame on the wire from the bytes TERM to the last body byte: LEN, content, CRC (10 R176, R185). -/
def frameWire (content : List Byte) : List Byte :=
  let body := be2 content.length ++ content
  body ++ be2 (crc16 body)

/-- One bit of the reflected CRC-32 with generator 0x04C11DB7 (11 R191). -/
def crc32Bit (c : Nat) : Nat :=
  bif c % 2 == 1 then Nat.xor (c / 2) 0xEDB88320 else c / 2

/-- One byte of the CRC-32. -/
def crc32Byte (c : Nat) (b : Byte) : Nat := Nat.repeat crc32Bit 8 (Nat.xor c b.toNat)

/-- The CRC-32 of an area: reflected, initial value 0xFFFFFFFF, final inversion (11 R191). -/
def crc32 (bs : List Byte) : Nat := Nat.xor (bs.foldl crc32Byte 0xFFFFFFFF) 0xFFFFFFFF

/-- A count that stops at 65,535 (10 R175, R176, R179; 07 R126). -/
def satSucc (n : Nat) : Nat := if n < Config.countMax then n + 1 else n

/-- The number after n in a range 1 to top, top being followed by 1. -/
def cycleSucc (top n : Nat) : Nat := if n < top then n + 1 else 1

/-- The first number from n on, in a range 1 to top, that is not in use, looking at most fuel further numbers. -/
def firstFree (inUse : List Nat) (top : Nat) : Nat → Nat → Nat
  | 0, n => n
  | fuel + 1, n => if inUse.contains n then firstFree inUse top fuel (cycleSucc top n) else n

end Sys2Proof.Machine
end

