-- ==== Sys2Proof/Syntax.lean ====
section
/-! DEFINITION. The commands the block takes: one constructor per row of spec/opcode_table.json, with the fields of
its frame (10.6) or of its event. -/

namespace Sys2Proof

/-- The ports that carry requests (10.1). -/
inductive ReqPort where
  | flp
  | fhp
  deriving DecidableEq, Repr

/-- The ports with a byte stream and a frame assembler (10 R175). -/
inductive StreamPort where
  | flp
  | aqp
  deriving DecidableEq, Repr

/-- The three ports (10.1). -/
inductive Port where
  | flp
  | fhp
  | aqp
  deriving DecidableEq, Repr

/-- The header of a request frame: the port it came by, TERM, TAG and VER (10 R185). -/
structure Hdr where
  port : ReqPort
  term : Nat
  tag : Nat
  ver : Nat
  deriving DecidableEq, Repr

/-- One entry of an ADD LINES body (10.6). -/
structure LineEntry where
  item : Nat
  seat : Nat
  quantity : Nat
  price : Nat
  cls : Nat
  deriving DecidableEq, Repr

/-- What halts the part (11 R196). -/
inductive HaltCause where
  | resetPin
  | mainPower
  deriving DecidableEq, Repr

/-- The commands, one per row of the opcode table. -/
inductive Instr where
  | hello (h : Hdr)
  | openCheck (h : Hdr) (table covers owner : Nat)
  | readCheck (h : Hdr) (check : Nat)
  | updateCheck (h : Hdr) (check covers : Nat)
  | presentCheck (h : Hdr) (check : Nat)
  | transferCheck (h : Hdr) (check table owner : Nat)
  | voidCheck (h : Hdr) (check : Nat)
  | closeCheck (h : Hdr) (check : Nat)
  | addLines (h : Hdr) (check : Nat) (entries : List LineEntry)
  | voidLine (h : Hdr) (check line : Nat)
  | discountLine (h : Hdr) (check line amount : Nat)
  | readLines (h : Hdr) (check first last : Nat)
  | setSplit (h : Hdr) (check kind count : Nat)
  | setPortion (h : Hdr) (check portion amount : Nat)
  | lockSplit (h : Hdr) (check : Nat)
  | startTender (h : Hdr) (check portion kind amount : Nat) (token : List Byte)
  | submitTip (h : Hdr) (check tender form figure : Nat)
  | withdrawTender (h : Hdr) (check tender : Nat)
  | fetchStatus (h : Hdr) (check tender : Nat)
  | abandonTender (h : Hdr) (check tender : Nat)
  | holdCheck (h : Hdr) (check : Nat)
  | releaseCheck (h : Hdr) (check : Nat)
  | approve (h : Hdr) (check number : Nat)
  | reject (h : Hdr) (check number : Nat)
  | setWatch (h : Hdr) (check mask : Nat)
  | dropWatch (h : Hdr) (check : Nat)
  | fetchHits (h : Hdr)
  | fetchNextPending (h : Hdr)
  /-- ACK NOTICE naming any source but AGED: STARTUP (13) is the row's own, another answers RANGE (09 R172). -/
  | ackNoticeStartup (h : Hdr) (source : Nat)
  /-- ACK NOTICE naming AGED (12). -/
  | ackNoticeAged (h : Hdr)
  | setTable (h : Hdr) (first last sect : Nat)
  | setTerminal (h : Hdr) (terminal role mask : Nat)
  | forgetTerminal (h : Hdr) (terminal : Nat)
  | readTable (h : Hdr) (table : Nat)
  | setSetting (h : Hdr) (number value : Nat)
  | readSetting (h : Hdr) (number : Nat)
  | saveSettings (h : Hdr)
  | loadSettings (h : Hdr) (source : Nat)
  | setClock (h : Hdr) (day minute : Nat)
  | readPartStatus (h : Hdr)
  | clearLinkFault (h : Hdr)
  /-- A taken frame with a wrong requester number, an unknown kind or a body of a wrong length. -/
  | malformedRequest (h : Hdr) (kind bodyLen : Nat)
  | tagZeroFrame (port : ReqPort)
  | crcErrorFrame (port : Port)
  /-- Two LEN bytes that spell len arrive at an assembler. -/
  | frameLenError (port : StreamPort) (len : Nat)
  /-- The line is idle for 4 character times after count bytes of a frame. -/
  | frameIdleTimeout (port : StreamPort) (count : Nat)
  | requestOverrun (port : ReqPort)
  /-- One SPI transaction; bytes are those on FH_SDI, one FH_SDO byte leaving for each. -/
  | fhpTransaction (bytes : List Byte)
  | outputFrameSent (port : StreamPort)
  /-- A RESULT frame with its TAG and its body bytes. -/
  | result (tag : Nat) (body : List Byte)
  | nonResultFrame (kind : Nat)
  | exchangeTimeout (tag : Nat)
  | grant
  | noLinkCompletion
  | linkOkFall
  | linkOkRise
  | leaseExpiry (check tender : Nat)
  | approvalExpiry (number : Nat)
  | terminalSilence (terminal : Nat)
  | checkAged (check : Nat)
  | secondTick
  | minuteTick
  /-- A save ends; matched says that the site area reads back equal to the copy and its CRC matches. -/
  | saveEnd (matched : Bool)
  | resetAssert (cause : HaltCause)
  /-- A start; selLow says that FH_SEL_N is low as the start ends (10 R187). -/
  | coldStart (selLow : Bool)
  | warmStart (selLow : Bool)
  | clockAdvanceWithoutPower (seconds : Nat)
  | retentionIndicatorLost
  deriving DecidableEq, Repr

end Sys2Proof
end

