-- ==== Sys2Proof/Machine/State.lean ====
section
/-! DEFINITION. The state of the part, block by block as the manual names them (00, Functional blocks), and the state
right after reset. Plain data throughout. -/

namespace Sys2Proof.Machine

/-- The part has no fault stop: every refusal of a request is an answer, which is a next state (10 R181). So no
constructor is needed and none is raised. -/
inductive Fault where
  deriving DecidableEq, Repr

/-- Why a command has no meaning. -/
inductive Refusal where
  /-- Raised by an arm of exec whose command has no meaning yet; safe, since it only stops. No arm raises it. -/
  | notModelled (mnemonic : String)
  deriving DecidableEq, Repr

/-! ## Check Table, Line Pool, Split Unit -/

/-- Check states (01, 1.4). -/
inductive CheckState where
  | opened
  | presented
  | settling
  | paid
  | closing
  | closeFault
  deriving DecidableEq, Repr

/-- The hold reasons of a check, a set drawn from MANAGER and APPROVAL (08 R144). -/
structure Holds where
  manager : Bool
  approval : Bool
  deriving DecidableEq, Repr

/-- One hold reason. -/
inductive HoldReason where
  | manager
  | approval
  deriving DecidableEq, Repr

/-- A line record (03, 3.2). -/
structure Line where
  number : Nat
  item : Nat
  seat : Nat
  quantity : Nat
  price : Nat
  cls : Nat
  discount : Nat
  /-- The state is VOID (else ACTIVE). -/
  void : Bool
  addedBy : Nat
  deriving DecidableEq, Repr

/-- Split plan kinds; unsplit is the manual's NONE (05 R80). -/
inductive PlanKind where
  | unsplit
  | even
  | bySeat
  | custom
  deriving DecidableEq, Repr

/-- Split plan states (05 R80). -/
inductive PlanState where
  | locked
  | draft
  deriving DecidableEq, Repr

/-- A portion record (05 R81); its balance is computed, see Portion.balance. -/
structure Portion where
  number : Nat
  share : Nat
  seat : Option Nat
  counted : Nat
  /-- The pool index of the tender that claims the portion. -/
  claim : Option Nat
  deriving DecidableEq, Repr

/-- A split plan with its portions (05 R80). -/
structure Plan where
  kind : PlanKind
  count : Nat
  state : PlanState
  portions : List Portion
  deriving DecidableEq, Repr

/-- The totals of a check; taxes holds those of classes 1 to 8 in order (01 1.1). -/
structure Totals where
  subtotal : Nat
  taxes : List Nat
  service : Nat
  total : Nat
  deriving DecidableEq, Repr

/-- The split-fault record (04 R70); isOver is direction OVER (else SHORT). -/
structure SplitFault where
  sum : Nat
  total : Nat
  isOver : Bool
  difference : Nat
  deriving DecidableEq, Repr

/-- A live check (01, 1.1). -/
structure Check where
  number : Nat
  table : Nat
  covers : Nat
  owner : Nat
  state : CheckState
  holds : Holds
  version : Nat
  openedDay : Nat
  openedMinute : Nat
  aged : Bool
  agedAck : Bool
  nextLine : Nat
  lines : List Line
  plan : Plan
  /-- Pool indexes in order of START TENDER (06 R97). -/
  tenders : List Nat
  totals : Totals
  closeFault : Option Nat
  splitFault : Option SplitFault
  deriving DecidableEq, Repr

/-- The Check Table: the slots by number and the next-number counter (01 R1, R2). -/
structure CheckTable where
  slots : List (Option Check)
  nextNumber : Nat
  deriving DecidableEq, Repr

/-! ## Tender Unit -/

/-- Tender kinds (06, 6.1). -/
inductive TenderKind where
  | cash
  | tipFirst
  | tipLater
  deriving DecidableEq, Repr

/-- Sub-kinds of AUTHORIZING. -/
inductive SubKind where
  | auth
  | increment
  deriving DecidableEq, Repr

/-- Outcomes of DONE. -/
inductive TenderEnd where
  | paidCash
  | captured
  | declined
  | withdrawn
  | reversed
  | reverseUnconfirmed
  | noLink
  | writtenOff
  deriving DecidableEq, Repr

/-- Tender states (06, 6.2). -/
inductive TenderState where
  | tipWait
  | authorizing (sub : SubKind)
  | authorized
  | reversing
  | capturing
  | done (outcome : TenderEnd)
  deriving DecidableEq, Repr

/-- Pending statuses (06 R117). -/
inductive Status where
  | declined
  | noLink
  | timeout
  | tipRefused
  | reversed
  | reverseUnconfirmed
  | leaseExpired
  | restart
  deriving DecidableEq, Repr

/-- A claim lease: absent, running to a deadline, or paused with its remaining time (05 R91, R92). -/
inductive Lease where
  | absent
  | running (deadline : Nat)
  | paused (remaining : Nat)
  deriving DecidableEq, Repr

/-- A tender record (06, 6.1; authTag is 07 R125's AUTH tag). -/
structure Tender where
  slot : Nat
  number : Nat
  portion : Nat
  kind : TenderKind
  state : TenderState
  holder : Option Nat
  noticeClass : Nat
  amount : Nat
  tip : Nat
  heldTip : Option Nat
  authTotal : Option Nat
  tolerance : Option Nat
  authAmount : Option Nat
  acqRef : Option (List Byte)
  approvalCode : Option (List Byte)
  token : Option (List Byte)
  cashGiven : Option Nat
  change : Option Nat
  withdrawRequested : Bool
  deferredWithdraw : Bool
  sent : Bool
  captureFault : Bool
  attempts : Nat
  primary : Option Status
  latest : Option Status
  authTag : Option Nat
  lease : Lease
  deriving DecidableEq, Repr

/-- The tender pool by index and the pending-status list, oldest first (06 R96, R119). -/
structure TenderUnit where
  pool : List (Option Tender)
  pendingList : List Nat
  deriving DecidableEq, Repr

/-! ## Floor Map -/

/-- The open-check lists by table, and presence and last-heard by terminal (02 R25, R28). -/
structure FloorMap where
  lists : List (List Nat)
  present : List Bool
  lastHeard : List Nat
  deriving DecidableEq, Repr

/-! ## Acquirer Port -/

/-- Link states (07 R127). -/
inductive LinkState where
  | up
  | down
  | failed
  deriving DecidableEq, Repr

/-- The kinds of need and of message (07 R125, R132). -/
inductive NeedKind where
  | auth
  | increment
  | reverse
  | capture
  deriving DecidableEq, Repr

/-- A need in the wait queue (07 R132). -/
structure Need where
  tender : Nat
  kind : NeedKind
  deriving DecidableEq, Repr

/-- An exchange entry in use (07 R134). -/
structure Exchange where
  tag : Nat
  tender : Nat
  kind : NeedKind
  amount : Nat
  deadline : Nat
  deriving DecidableEq, Repr

/-- The Acquirer Port's own state (07). -/
structure Acquirer where
  linkOk : Bool
  link : LinkState
  timeouts : Nat
  entries : List (Option Exchange)
  queue : List Need
  tagCounter : Nat
  discarded : Nat
  deriving DecidableEq, Repr

/-! ## Approval Unit -/

/-- Parked changes (08 R150). -/
inductive Parked where
  | voidLine (line : Nat)
  | discountLine (line applied : Nat)
  | voidCheck
  | transferCheck (table owner : Nat)
  deriving DecidableEq, Repr

/-- An approval record (08 R150). -/
structure Approval where
  number : Nat
  slot : Nat
  requester : Option Nat
  change : Parked
  deadline : Nat
  deriving DecidableEq, Repr

/-- The approval table in parking order and the approval counter (08 R150). -/
structure ApprovalUnit where
  table : List Approval
  counter : Nat
  deriving DecidableEq, Repr

/-! ## Watch and Notice Unit -/

/-- Event kinds of a check (01 R10, 09 R159). -/
inductive EventKind where
  | presented
  | settling
  | paid
  | reopened
  | held
  | released
  | closeFault
  | retired
  deriving DecidableEq, Repr

/-- A watch entry (09 R159). -/
structure Watch where
  terminal : Nat
  check : Nat
  mask : BitVec 8
  deriving DecidableEq, Repr

/-- A hit entry (09 R163). -/
structure Hit where
  check : Nat
  kinds : BitVec 8
  deriving DecidableEq, Repr

/-- Kinds of start (09 R171). -/
inductive StartKind where
  | cold
  | warm
  deriving DecidableEq, Repr

/-- A push raised by the event in progress (09 R165, R166). -/
inductive Push where
  | statusReady (terminal : Nat)
  | hitsReady (terminal : Nat)
  | approvalWaiting (terminal : Nat)
  | approvalDone (terminal number check change outcome : Nat)
  deriving DecidableEq, Repr

/-- The Watch and Notice Unit (09). -/
structure WatchUnit where
  watches : List Watch
  hits : List (List Hit)
  pendCounts : List Nat
  startup : Bool
  startKind : StartKind
  /-- Pushes of the event in progress; empty between commands. -/
  pushes : List Push
  deriving DecidableEq, Repr

/-! ## Settings Store and Floor Clock -/

/-- Terminal roles (02, 2.3). -/
inductive Role where
  | off
  | server
  | manager
  deriving DecidableEq, Repr

/-- The working copy (11 R188): the values of settings 1 to 23 in order, the table sections, the terminal roles and
sections masks. -/
structure Settings where
  values : List Nat
  sections : List Nat
  roles : List Role
  masks : List (BitVec 8)
  deriving DecidableEq, Repr

/-- The contents of a stored area as they stand in it, before any clamping (11 R191). -/
structure RawCopy where
  values : List Nat
  sections : List Nat
  roles : List Nat
  masks : List (BitVec 8)
  deriving DecidableEq, Repr

/-- A stored area: its contents and its CRC-32 (11 R191). -/
structure Area where
  contents : RawCopy
  crc : Nat
  deriving DecidableEq, Repr

/-- Save states (11 R192). -/
inductive SaveState where
  | idle
  | saving
  | failed
  deriving DecidableEq, Repr

/-- The area loaded (11 R197). -/
inductive LoadedFrom where
  | site
  | factory
  | defaults
  deriving DecidableEq, Repr

/-- The Settings Store; a site area of none is one whose writing has not been verified (11 R191, R192). -/
structure SettingsStore where
  work : Settings
  site : Option Area
  factory : Option Area
  save : SaveState
  saveCopy : Option Settings
  loaded : LoadedFrom
  deriving DecidableEq, Repr

/-- The floor clock: the minute clock and the second timebase (11 R194). -/
structure FloorClock where
  day : Nat
  minute : Nat
  second : Nat
  unset : Bool
  timebase : Nat
  deriving DecidableEq, Repr

/-! ## Ports and power -/

/-- Answer codes (10 R181). -/
inductive Code where
  | taken
  | pending
  | busy
  | absent
  | denied
  | range
  | stale
  | claimed
  | full
  | parked
  | deferred
  | held
  | malformed
  deriving DecidableEq, Repr

/-- A whole frame in an output list (10 R180, R183, R184, R185). -/
inductive Frame where
  | answer (term tag kind : Nat) (code : Code) (seq : Nat) (body : List Byte)
  | push (term kind : Nat) (body : List Byte)
  | message (tag kind : Nat) (body : List Byte)
  deriving DecidableEq, Repr

/-- Frame assembler states (10 R175). -/
inductive Assembler where
  | idle
  | header
  | body
  | skip
  deriving DecidableEq, Repr

/-- The Floor Link Port; sent is the last frame that left it, as bytes. -/
structure FloorPort where
  assembler : Assembler
  out : List Frame
  crcErrors : Nat
  framingErrors : Nat
  overruns : Nat
  pushDrops : Nat
  sent : List Byte
  deriving DecidableEq, Repr

/-- The Front-of-House Port; sdo is what the last transaction shifted out. -/
structure HousePort where
  out : List Frame
  crcErrors : Nat
  framingErrors : Nat
  overruns : Nat
  ignore : Bool
  sdo : List Byte
  deriving DecidableEq, Repr

/-- The frame side of the Acquirer Port; txd is the last frame that left it, as bytes. -/
structure GatewayPort where
  assembler : Assembler
  out : List Frame
  crcErrors : Nat
  framingErrors : Nat
  txd : List Byte
  deriving DecidableEq, Repr

/-- Power, reset and the retention indicator (11 R196). -/
structure Power where
  resetLow : Bool
  mainLow : Bool
  retention : Bool
  deriving DecidableEq, Repr

/-- The tests that the ticks found due and no event has carried out (log entry 6): exchange tags, pool indexes of
leased tenders, approval numbers, terminals, and check numbers of the minute tick. -/
structure Due where
  exchanges : List Nat
  leases : List Nat
  approvals : List Nat
  silences : List Nat
  ages : List Nat
  deriving DecidableEq, Repr

/-- The state of the part and the queue of commands that wait for it. -/
structure State where
  ckt : CheckTable
  freeLines : Nat
  tdu : TenderUnit
  fmp : FloorMap
  aqp : Acquirer
  apu : ApprovalUnit
  wnu : WatchUnit
  sst : SettingsStore
  fck : FloorClock
  flp : FloorPort
  fhp : HousePort
  gwp : GatewayPort
  power : Power
  due : Due
  pending : List Instr
  deriving DecidableEq, Repr

/-! ## Reset -/

/-- The default values of settings 1 to 23 (11 R188). -/
def defaultValues : List Nat :=
  [0, 0, 0, 0, 0, 0, 0, 0, 0, 0, 0, 100000, 20000, 20000, 90, 30, 3, 3, 300, 120, 180, 0, 0]

/-- The built-in defaults (11 R188). -/
def Settings.defaults : Settings where
  values := defaultValues
  sections := List.replicate Config.tableCount 0
  roles := List.replicate Config.terminalCount .off
  masks := List.replicate Config.terminalCount 0

/-- The built-in defaults as the contents of an area. -/
def RawCopy.defaults : RawCopy where
  values := defaultValues
  sections := List.replicate Config.tableCount 0
  roles := List.replicate Config.terminalCount 0
  masks := List.replicate Config.terminalCount 0

/-- The CRC-32 of RawCopy.defaults over the image of log entry 21 (Laws prove that the area is valid). -/
def factoryCrc : Nat := 0xDB29B63A

/-- The state right after reset: a cold start on a factory area that holds the built-in defaults, with LINK_OK low and
FH_SEL_N high, so that no transaction is in progress to be ignored (10 R187; log entries 3, 4 and 38). -/
def State.reset : State where
  ckt := { slots := List.replicate Config.slotCount none, nextNumber := 1 }
  freeLines := Config.lineRecords
  tdu := { pool := List.replicate Config.tenderRecords none, pendingList := [] }
  fmp := { lists := List.replicate Config.tableCount [],
           present := List.replicate Config.terminalCount false,
           lastHeard := List.replicate Config.terminalCount 0 }
  aqp := { linkOk := false, link := .down, timeouts := 0,
           entries := List.replicate Config.exchangeEntries none, queue := [], tagCounter := 1, discarded := 0 }
  apu := { table := [], counter := 1 }
  wnu := { watches := [], hits := List.replicate Config.terminalCount [],
           pendCounts := List.replicate Config.terminalCount 0, startup := true, startKind := .cold, pushes := [] }
  sst := { work := Settings.defaults, site := none,
           factory := some { contents := RawCopy.defaults, crc := factoryCrc },
           save := .idle, saveCopy := none, loaded := .factory }
  fck := { day := 0, minute := 0, second := 0, unset := true, timebase := 0 }
  flp := { assembler := .idle, out := [], crcErrors := 0, framingErrors := 0, overruns := 0, pushDrops := 0, sent := [] }
  fhp := { out := [], crcErrors := 0, framingErrors := 0, overruns := 0, ignore := false, sdo := [] }
  gwp := { assembler := .idle, out := [], crcErrors := 0, framingErrors := 0, txd := [] }
  power := { resetLow := false, mainLow := false, retention := true }
  due := { exchanges := [], leases := [], approvals := [], silences := [], ages := [] }
  pending := []

end Sys2Proof.Machine
end

