-- ==== Sys2Proof/Machine/Ops.lean ====
section
/-! DEFINITION. The named operations over the records of the part: reading and changing settings, terminals, checks,
tenders, lists and counts; hits, statuses and pushes; placing frames in the output lists. -/

namespace Sys2Proof.Machine

/-! ## Lists numbered from 1 (00, Counts and numbering) -/

/-- The entry numbered n of a list numbered from 1; d where there is none. -/
def get1 {α : Type} (l : List α) (n : Nat) (d : α) : α := if n = 0 then d else l.getD (n - 1) d

/-- The list with its entry numbered n replaced. -/
def set1 {α : Type} (l : List α) (n : Nat) (v : α) : List α := if n = 0 then l else l.set (n - 1) v

/-- The list with its entry numbered n changed. -/
def mod1 {α : Type} (l : List α) (n : Nat) (f : α → α) : List α := if n = 0 then l else l.modify (n - 1) f

/-! ## Power -/

/-- Frames are taken and timers tick: RESET_N is high and main power is present (10 R187, 11 R196). -/
def State.running (s : State) : Bool := !s.power.resetLow && !s.power.mainLow

/-- Main power is present: the minute clock gives minute ticks, also while RESET_N is low (11 R194). -/
def State.powered (s : State) : Bool := !s.power.mainLow

/-! ## Settings -/

/-- The value of setting number n in the working copy (11 R188). -/
def Settings.value (w : Settings) (n : Nat) : Nat := get1 w.values n 0

/-- The value of setting number n, read at the moment of use. -/
def State.setting (s : State) (n : Nat) : Nat := s.sst.work.value n

/-- The low and high bound of setting number n (11 R188); for the masks 0 and all ones (11 R190). -/
def settingBounds (n : Nat) : Nat × Nat :=
  get1 [(0, 30000), (0, 30000), (0, 30000), (0, 30000), (0, 30000), (0, 30000), (0, 30000), (0, 30000),
    (0, 1), (0, 30000), (0, 30), (0, 200000), (0, 50000), (0, 100000), (15, 600), (5, 120), (1, 5),
    (1, 10), (60, 1800), (10, 600), (0, 720), (0, 255), (0, 8191)] n (0, 0)

/-- The value a setting takes when v is written: clamped to its range, or for a mask cut to its width (11 R189). -/
def clampSetting (n v : Nat) : Nat :=
  let b := settingBounds n
  if n = 22 ∨ n = 23 then v % (b.2 + 1) else max b.1 (min v b.2)

/-- The settings with setting number n written (11 R189). -/
def Settings.write (w : Settings) (n v : Nat) : Settings :=
  { w with values := set1 w.values n (clampSetting n v) }

/-- The state with a new working copy. -/
def State.setWork (s : State) (w : Settings) : State := { s with sst := { s.sst with work := w } }

/-- Roles as bytes name them (10 R185). -/
def Role.toNat : Role → Nat
  | .off => 0
  | .server => 1
  | .manager => 2

/-- The role a byte names, if any. -/
def Role.ofNat? : Nat → Option Role
  | 0 => some .off
  | 1 => some .server
  | 2 => some .manager
  | _ => none

/-- The role of terminal t (02 R27); a number that is no terminal has none, read as OFF. -/
def State.role (s : State) (t : Nat) : Role := get1 s.sst.work.roles t .off

/-- The sections mask of terminal t. -/
def State.sectionsMask (s : State) (t : Nat) : BitVec 8 := get1 s.sst.work.masks t 0

/-- The section of a table (02 R24); a number that names no table has section 0. -/
def State.sectionOf (s : State) (table : Nat) : Nat := get1 s.sst.work.sections table 0

/-- A section is a member of a terminal's sections mask (10 R185: bit n − 1 for member n). -/
def State.works (s : State) (t sect : Nat) : Bool := sect != 0 && (s.sectionsMask t).getLsbD (sect - 1)

/-- The sharing bit of a section (02 R26). -/
def State.shares (s : State) (sect : Nat) : Bool := sect != 0 && (s.setting 22).testBit (sect - 1)

/-! ## Terminals -/

/-- Terminal t is PRESENT (02, 2.3). -/
def State.isPresent (s : State) (t : Nat) : Bool := get1 s.fmp.present t false

/-- The second at which the last frame from t was taken. -/
def State.lastHeard (s : State) (t : Nat) : Nat := get1 s.fmp.lastHeard t 0

/-- Terminal t becomes PRESENT or SILENT. -/
def State.setPresent (s : State) (t : Nat) (b : Bool) : State :=
  { s with fmp := { s.fmp with present := set1 s.fmp.present t b } }

/-- The current second of the second timebase. -/
def State.now (s : State) : Nat := s.fck.timebase

/-- The pending count of terminal t (06 R120). -/
def State.pendCount (s : State) (t : Nat) : Nat := get1 s.wnu.pendCounts t 0

/-- The hit set of terminal t (09 R163). -/
def State.hitSet (s : State) (t : Nat) : List Hit := get1 s.wnu.hits t []

/-- Writes the hit set of terminal t. -/
def State.setHits (s : State) (t : Nat) (hs : List Hit) : State :=
  { s with wnu := { s.wnu with hits := set1 s.wnu.hits t hs } }

/-- Writes the pending count of terminal t. -/
def State.setPendCount (s : State) (t n : Nat) : State :=
  { s with wnu := { s.wnu with pendCounts := set1 s.wnu.pendCounts t n } }

/-! ## Pushes -/

/-- The terminal a push goes to. -/
def Push.terminal : Push → Nat
  | .statusReady t => t
  | .hitsReady t => t
  | .approvalWaiting t => t
  | .approvalDone t _ _ _ _ => t

/-- A push falls due for its terminal when that is PRESENT, and is dropped otherwise (09 R165). -/
def State.raise (s : State) (p : Push) : State :=
  if s.isPresent p.terminal then { s with wnu := { s.wnu with pushes := s.wnu.pushes ++ [p] } } else s

/-- The frame of a push, its body taken at the moment of sending (09 R165, 10 R185). -/
def State.pushFrame (s : State) : Push → Frame
  | .statusReady t => .push t 0xA0 (countByte (s.pendCount t))
  | .hitsReady t => .push t 0xA1 (countByte (s.hitSet t).length)
  | .approvalWaiting t => .push t 0xA2 (countByte s.apu.table.length)
  | .approvalDone t number check change outcome =>
    .push t 0xA3 (be1 number ++ be2 check ++ be1 change ++ be1 outcome)

/-- A push frame joins the Floor Link Port's output list, or is dropped and counted when the list is full
(10 R179, R183). -/
def FloorPort.place (p : FloorPort) (f : Frame) : FloorPort :=
  if p.out.length < Config.outputPlaces then { p with out := p.out ++ [f] }
  else { p with pushDrops := satSucc p.pushDrops }

/-- The event has finished: the pushes it raised are placed, after its answer (09 R166). DESIGN CHOICE (log entry 33):
they are placed in the order raised, so that where places run out the last raised are dropped. R166 gives the order no
meaning. -/
def State.flushPushes (s : State) : State :=
  { s with
    flp := s.wnu.pushes.foldl (fun p push => p.place (s.pushFrame push)) s.flp
    wnu := { s.wnu with pushes := [] } }

/-! ## The minute clock (11 R194) -/

/-- The minute clock after a number of seconds: the seconds pass 59 to 0 and advance the minute, minute 1,439 passes to
minute 0 of the next day, and day 65,535 to day 0 (11 R194). -/
def FloorClock.advance (c : FloorClock) (seconds : Nat) : FloorClock :=
  let total := c.second + seconds
  let minutes := c.minute + total / 60
  { c with second := total % 60, minute := minutes % 1440, day := (c.day + minutes / 1440) % 65536 }

/-- The next second passes 59, so that the minute advances with it (11 R194). -/
def FloorClock.minuteEnds (c : FloorClock) : Bool := decide (59 ≤ c.second)

/-! ## Checks -/

/-- The live check in slot i, if any. -/
def State.check? (s : State) (i : Nat) : Option Check := (s.ckt.slots[i]?).join

/-- The slot of the live check that carries number n (01 R3). -/
def State.findSlot (s : State) (n : Nat) : Option Nat :=
  s.ckt.slots.findIdx? fun o => o.any fun c => c.number == n

/-- The live check that carries number n. -/
def State.checkNumbered (s : State) (n : Nat) : Option Check := (s.findSlot n).bind s.check?

/-- Changes the live check in slot i. -/
def State.modCheck (s : State) (i : Nat) (f : Check → Check) : State :=
  { s with ckt := { s.ckt with slots := s.ckt.slots.modify i (Option.map f) } }

/-- The live checks. -/
def State.liveChecks (s : State) : List Check := s.ckt.slots.filterMap id

/-- Some check is live. -/
def State.anyLive (s : State) : Bool := s.ckt.slots.any Option.isSome

/-- The version after v (01 R4). -/
def nextVersion (v : Nat) : Nat := if v < Config.maxVersion then v + 1 else 0

/-- One step of the version. -/
def Check.stepVersion (c : Check) : Check := { c with version := nextVersion c.version }

/-- The check holds some hold reason (01 R7). -/
def Holds.any (h : Holds) : Bool := h.manager || h.approval

/-- The check is held (01 R7). -/
def Check.held (c : Check) : Bool := c.holds.any

/-- OPEN or PRESENTED. -/
def Check.orderable (c : Check) : Bool := decide (c.state = .opened) || decide (c.state = .presented)

/-- CLOSING or CLOSE_FAULT. -/
def Check.closeRunning (c : Check) : Bool := decide (c.state = .closing) || decide (c.state = .closeFault)

/-- The balance of a portion: share less counted sum (05 R81, R87). -/
def Portion.balance (p : Portion) : Nat := p.share - p.counted

/-- Portion number n of a plan. -/
def Plan.portion? (p : Plan) (n : Nat) : Option Portion := p.portions.find? fun q => q.number == n

/-- The open-check list of a table (02 R25). -/
def State.tableList (s : State) (table : Nat) : List Nat := get1 s.fmp.lists table []

/-- A slot joins the end of a table's open-check list (02 R25). -/
def State.seatAt (s : State) (table slot : Nat) : State :=
  { s with fmp := { s.fmp with lists := mod1 s.fmp.lists table (· ++ [slot]) } }

/-- A slot leaves a table's open-check list, the others keeping their order (02 R25). -/
def State.unseat (s : State) (table slot : Nat) : State :=
  { s with fmp := { s.fmp with lists := mod1 s.fmp.lists table (List.filter (· != slot)) } }

/-- The age in minutes of a check (01 R22). -/
def State.age (s : State) (c : Check) : Nat :=
  min 65535 (s.fck.day * 1440 + s.fck.minute - (c.openedDay * 1440 + c.openedMinute))

/-- The ageing that a minute tick found due for a check has taken place, or the check has retired (01 R22; log
entry 6). -/
def State.doneAge (s : State) (check : Nat) : State :=
  { s with due := { s.due with ages := s.due.ages.filter (· != check) } }

/-! ## Tenders -/

/-- The tender with pool index i, if the record is in use. -/
def State.tender? (s : State) (i : Nat) : Option Tender := (s.tdu.pool[i]?).join

/-- Changes the tender with pool index i. -/
def State.modTender (s : State) (i : Nat) (f : Tender → Tender) : State :=
  { s with tdu := { s.tdu with pool := s.tdu.pool.modify i (Option.map f) } }

/-- The pool index of tender number n of a check (06 R98). -/
def Check.tenderIndex? (c : Check) (n : Nat) : Option Nat := if n = 0 then none else c.tenders[n - 1]?

/-- The tenders of a check, in tender-list order. -/
def State.tendersOf (s : State) (c : Check) : List Tender := c.tenders.filterMap s.tender?

/-- The tender counts against its portion (06, 6.2; 05 R87). -/
def TenderState.counts : TenderState → Bool
  | .done .declined => false
  | .done .withdrawn => false
  | .done .reversed => false
  | .done .reverseUnconfirmed => false
  | .done .noLink => false
  | _ => true

/-- In flight: TIP_WAIT, AUTHORIZING or REVERSING (01 1.4). -/
def TenderState.inFlight : TenderState → Bool
  | .tipWait => true
  | .authorizing _ => true
  | .reversing => true
  | _ => false

/-- Holds the claim: TIP_WAIT or AUTHORIZING (05 R90). -/
def TenderState.claims : TenderState → Bool
  | .tipWait => true
  | .authorizing _ => true
  | _ => false

/-- DONE with any outcome. -/
def TenderState.isDone : TenderState → Bool
  | .done _ => true
  | _ => false

/-- AUTHORIZED with capture-fault set (01 R18). -/
def Tender.faulted (t : Tender) : Bool := decide (t.state = .authorized) && t.captureFault

/-- The tender holds a pending status (06 R118). -/
def Tender.hasStatus (t : Tender) : Bool := t.primary.isSome

/-- The hold ceiling: authorized total plus its tolerance, absent before approval (04 R76). -/
def Tender.ceiling (t : Tender) : Option Nat :=
  t.authTotal.map fun a => a + a * t.tolerance.getD 0 / Config.rateUnit

/-- Some tender of the check holds a pending status (06 R122). -/
def State.anyPending (s : State) (c : Check) : Bool := (s.tendersOf c).any Tender.hasStatus

/-! ## Watches and hits -/

/-- The bit of an event kind in a mask (10 R185). -/
def EventKind.bit : EventKind → Nat
  | .presented => 0
  | .settling => 1
  | .paid => 2
  | .reopened => 3
  | .held => 4
  | .released => 5
  | .closeFault => 6
  | .retired => 7

/-- The mask with one event kind. -/
def EventKind.mask (k : EventKind) : BitVec 8 := 1#8 <<< k.bit

/-- A kind joins the entry for its check number, or a new entry at the end (09 R162). -/
def joinHit (check : Nat) (k : EventKind) : List Hit → List Hit
  | [] => [{ check, kinds := k.mask }]
  | h :: hs => if h.check = check then { h with kinds := h.kinds ||| k.mask } :: hs else h :: joinHit check k hs

/-- A kind is recorded in a terminal's hit set; HITS_READY is due when the set was empty (09 R162, R167). -/
def State.recordHit (s : State) (t check : Nat) (k : EventKind) : State :=
  let old := s.hitSet t
  let s := s.setHits t (joinHit check k old)
  if old.isEmpty then s.raise (.hitsReady t) else s

/-- An event kind handed on by the check with this number reaches every watch that includes it (01 R10, 09 R162), the
watches taken in the order of the watch table. DESIGN CHOICE (log entry 33): no rule orders their HITS_READY pushes. -/
def State.handEvent (s : State) (check : Nat) (k : EventKind) : State :=
  s.wnu.watches.foldl
    (fun s w => if w.check = check ∧ w.mask.getLsbD k.bit then s.recordHit w.terminal check k else s) s

/-- The watch entries of terminal t. -/
def State.watchesOf (s : State) (t : Nat) : List Watch := s.wnu.watches.filter fun w => w.terminal == t

/-- Terminal t watches the check with this number. -/
def State.watchesCheck (s : State) (t check : Nat) : Bool :=
  s.wnu.watches.any fun w => w.terminal == t && w.check == check

/-- The number of hit entries of terminal t for checks it does not watch (09 R163). -/
def State.unwatchedHits (s : State) (t : Nat) : Nat :=
  (s.hitSet t).countP fun h => !s.watchesCheck t h.check

/-! ## Statuses -/

/-- The pending count of a holder rises by 1; STATUS_READY is due when it was 0 (06 R120, 09 R167). -/
def State.raiseCount (s : State) : Option Nat → State
  | none => s
  | some t =>
    let n := s.pendCount t
    let s := s.setPendCount t (n + 1)
    if n = 0 then s.raise (.statusReady t) else s

/-- The pending count of a holder falls by 1 (06 R120). -/
def State.lowerCount (s : State) : Option Nat → State
  | none => s
  | some t => s.setPendCount t (s.pendCount t - 1)

/-- A status is set on tender i: as primary, joining the pending-status list, or as latest (06 R118, R119). -/
def State.setStatus (s : State) (i : Nat) (st : Status) : State :=
  match s.tender? i with
  | none => s
  | some t =>
    if t.hasStatus then s.modTender i fun t => { t with latest := some st }
    else
      let s := s.modTender i fun t => { t with primary := some st, latest := none }
      let s := { s with tdu := { s.tdu with pendingList := s.tdu.pendingList ++ [i] } }
      s.raiseCount t.holder

/-- Tender i leaves the pending-status list and its holder's count falls (06 R119, R120). -/
def State.unlist (s : State) (i : Nat) (holder : Option Nat) : State :=
  ({ s with tdu := { s.tdu with pendingList := s.tdu.pendingList.filter (· != i) } }).lowerCount holder

/-- The status of tender i is collected: both parts are cleared and it leaves the list (06 R121). -/
def State.collect (s : State) (i : Nat) : State :=
  match s.tender? i with
  | none => s
  | some t =>
    if t.hasStatus then
      (s.modTender i fun t => { t with primary := none, latest := none }).unlist i t.holder
    else s

/-! ## Approval table -/

/-- The approval record of the check in a slot (08 R150: at most one). -/
def State.approvalOf (s : State) (slot : Nat) : Option Approval := s.apu.table.find? fun a => a.slot == slot

/-- Parked changes as bytes name them (10 R185). -/
def Parked.toNat : Parked → Nat
  | .voidLine _ => 0
  | .discountLine _ _ => 1
  | .voidCheck => 2
  | .transferCheck _ _ => 3

/-- An approval record leaves the table, the others keeping their order (08 R155 step 1). -/
def State.dropApproval (s : State) (a : Approval) : State :=
  { s with apu := { s.apu with table := s.apu.table.filter fun b => b.number != a.number } }

/-- The ending of an approval record is handed on: APPROVAL_DONE to its requester (08 R155 step 4, 09 R168). -/
def State.announceEnding (s : State) (a : Approval) (check outcome : Nat) : State :=
  match a.requester with
  | none => s
  | some t => s.raise (.approvalDone t a.number check a.change.toNat outcome)

/-- APPROVAL_WAITING to every terminal that is MANAGER and PRESENT (09 R168), in rising order of terminal number.
DESIGN CHOICE (log entry 33): no rule orders these pushes. -/
def State.announceWaiting (s : State) : State :=
  (List.range Config.terminalCount).foldl
    (fun s i => if s.role (i + 1) = .manager then s.raise (.approvalWaiting (i + 1)) else s) s

/-! ## Presence and leases (02 R28, R30; 05 R91, R92) -/

/-- A lease renewed by a frame of the holder: a running one gets a new deadline, a paused one its full time. -/
def Lease.renew (now span : Nat) : Lease → Lease
  | .absent => .absent
  | .running _ => .running (now + span)
  | .paused _ => .paused span

/-- The lease of every TIP_WAIT tender that t holds is renewed (05 R91). -/
def State.renewLeases (s : State) (t : Nat) : State :=
  let span := s.setting 15
  { s with tdu := { s.tdu with pool := s.tdu.pool.map (Option.map fun (x : Tender) =>
      if x.holder = some t ∧ x.state = .tipWait then { x with lease := x.lease.renew s.now span } else x) } }

/-- The conditions that still hold for a returned terminal are announced again (02 R30), STATUS_READY, then HITS_READY,
then APPROVAL_WAITING. DESIGN CHOICE (log entry 33): R166 gives their order no meaning. -/
def State.announceReturn (s : State) (t : Nat) : State :=
  let s := if 0 < s.pendCount t then s.raise (.statusReady t) else s
  let s := if (s.hitSet t).isEmpty then s else s.raise (.hitsReady t)
  if s.role t = .manager ∧ s.apu.table ≠ [] then s.raise (.approvalWaiting t) else s

/-- The silence that a tick found due for terminal t has taken place, or a frame has come before it (02 R29; log
entry 6). -/
def State.doneSilence (s : State) (t : Nat) : State :=
  { s with due := { s.due with silences := s.due.silences.filter (· != t) } }

/-- A frame from requester t is taken: presence, leases and, on a return, re-announcement (02 R28, R30). Frames from
the floor server change nothing. -/
def State.hear (s : State) (t : Nat) : State :=
  if t = 0 then s
  else
    let returned := !s.isPresent t
    let s := { s with fmp := { s.fmp with
      present := set1 s.fmp.present t true
      lastHeard := set1 s.fmp.lastHeard t s.now } }
    let s := (s.doneSilence t).renewLeases t
    if returned then s.announceReturn t else s

/-! ## Error counts and answers (10) -/

/-- The framing-error count of a request port rises (10 R175, R177, R178). -/
def State.countFraming (s : State) : ReqPort → State
  | .flp => { s with flp := { s.flp with framingErrors := satSucc s.flp.framingErrors } }
  | .fhp => { s with fhp := { s.fhp with framingErrors := satSucc s.fhp.framingErrors } }

/-- The overrun count of a request port rises (10 R179). -/
def State.countOverrun (s : State) : ReqPort → State
  | .flp => { s with flp := { s.flp with overruns := satSucc s.flp.overruns } }
  | .fhp => { s with fhp := { s.fhp with overruns := satSucc s.fhp.overruns } }

/-- The frames waiting in a request port's output list. -/
def State.outList (s : State) : ReqPort → List Frame
  | .flp => s.flp.out
  | .fhp => s.fhp.out

/-- Frames join the end of a request port's output list (10 R179). -/
def State.putOut (s : State) (p : ReqPort) (fs : List Frame) : State :=
  match p with
  | .flp => { s with flp := { s.flp with out := s.flp.out ++ fs } }
  | .fhp => { s with fhp := { s.fhp with out := s.fhp.out ++ fs } }

/-- An answer before it is framed: its code and the bodies of its frames, one or several (10 R180). -/
structure Reply where
  code : Code
  bodies : List (List Byte)
  deriving DecidableEq, Repr

/-- An answer in one frame. -/
def reply (code : Code) (body : List Byte) : Reply := { code, bodies := [body] }

/-- SEQ of part n of an answer of the given number of frames: part number, FINAL on the last (10 R180). -/
def seqByte (n frames : Nat) : Nat := if n + 1 = frames then 128 + n else n

/-- The frames of an answer, copying TERM, TAG and KIND from the request (10 R180, R185). -/
def Reply.frames (r : Reply) (h : Hdr) (kind : Nat) : List Frame :=
  r.bodies.zipIdx.map fun (body, n) => .answer h.term h.tag kind r.code (seqByte n r.bodies.length) body

/-- The answer to a request is placed in the output list of the port it came by (10 R179). -/
def State.answer (s : State) (h : Hdr) (kind : Nat) (r : Reply) : State := s.putOut h.port (r.frames h kind)

/-! ## Wait queue (07 R132) -/

/-- The Tender Unit places a need at the end of the wait queue, which clears sent (06 R103). -/
def State.placeNeed (s : State) (i : Nat) (k : NeedKind) : State :=
  let s := s.modTender i fun t => { t with sent := false }
  { s with aqp := { s.aqp with queue := s.aqp.queue ++ [{ tender := i, kind := k }] } }

/-- The need of tender i leaves the wait queue, the others keeping their order (07 R132). -/
def State.removeNeed (s : State) (i : Nat) : State :=
  { s with aqp := { s.aqp with queue := s.aqp.queue.filter fun n => n.tender != i } }

end Sys2Proof.Machine
end

