-- ==== Sys2Proof/Machine/Flags.lean ====
section
/-! DEFINITION. What is computed from the records as they stand: the thirteen notice sources and NOTE_N (09 R169,
R170), and the derived check state (01 R9). -/

namespace Sys2Proof.Machine

/-! ## Derived check state (01 R9) -/

/-- Some tender of the list is in flight (01 1.4). -/
def someInFlight (ts : List Tender) : Bool := ts.any fun t => t.state.inFlight

/-- Some tender of the list is counted. -/
def someCounted (ts : List Tender) : Bool := ts.any fun t => t.state.counts

/-- Every portion balance is 0. -/
def Plan.settled (p : Plan) : Bool := p.portions.all fun q => q.balance == 0

/-- The state derived from the portions and tenders as they stand, the conditions tested in order (01 R9). -/
def derivedState (p : Plan) (ts : List Tender) : CheckState :=
  if p.settled && !someInFlight ts then .paid
  else if !someCounted ts && !someInFlight ts then .presented
  else .settling

/-- The event kind that a derivation hands on for the state it reaches (01 R10). -/
def derivedEvent : CheckState → EventKind
  | .paid => .paid
  | .settling => .settling
  | _ => .reopened

/-! ## Notice sources and NOTE_N (09 R169, R170) -/

/-- The number of live checks in CLOSE_FAULT. -/
def State.closeFaultChecks (s : State) : Nat := s.liveChecks.countP fun c => decide (c.state = .closeFault)

/-- The number of live checks aged and not acknowledged. -/
def State.agedChecks (s : State) : Nat := s.liveChecks.countP fun c => c.aged && !c.agedAck

/-- A source is pending: STATUS 1 to 8 as 1 to 8, APPROVAL 9, CLOSE_FAULT 10, LINK 11, AGED 12, STARTUP 13 (09 R169). -/
def State.sourcePending (s : State) (n : Nat) : Bool :=
  match n with
  | 9 => !s.apu.table.isEmpty
  | 10 => decide (0 < s.closeFaultChecks)
  | 11 => decide (s.aqp.link ≠ .up)
  | 12 => decide (0 < s.agedChecks)
  | 13 => s.wnu.startup
  | n => s.tdu.pendingList.any fun i => (s.tender? i).any fun t => t.noticeClass == n

/-- The enable of a source (09 R170). -/
def State.sourceEnabled (s : State) (n : Nat) : Bool := n != 0 && (s.setting 23).testBit (n - 1)

/-- The notice sources in order. -/
def noticeSources : List Nat := [1, 2, 3, 4, 5, 6, 7, 8, 9, 10, 11, 12, 13]

/-- NOTE_N is low: some source is pending and enabled (09 R170); free while the part is halted (log entry 13). -/
def State.noteLow (s : State) : Bool :=
  if s.running then noticeSources.any fun n => s.sourcePending n && s.sourceEnabled n else Config.noteLowHalted

/-- A mask of sources, bit n − 1 for source n (10 R185). -/
def sourceMask (p : Nat → Bool) : Nat := (noticeSources.map fun n => if p n then 2 ^ (n - 1) else 0).sum

end Sys2Proof.Machine
end

