-- ==== Sys2Proof/Machine/Tally.lean ====
section
/-! DEFINITION. The Tally Engine (04): rounding, line amounts, tax, service, total, remainder apportionment, shares
under each plan, tips. It keeps nothing and computes on exact whole numbers (04 R55). -/

namespace Sys2Proof.Machine

/-! ## Rounding (04 R57) -/

/-- The cent of the exact quotient q / D: HALF_UP for mode 0, HALF_EVEN otherwise (04 R57). -/
def roundCent (mode q : Nat) : Nat :=
  if mode = 0 then (q + 50000) / Config.rateUnit
  else
    let f := q / Config.rateUnit
    let r := q % Config.rateUnit
    if 50000 < r ∨ (r = 50000 ∧ f % 2 = 1) then f + 1 else f

/-! ## Lines to totals (04 R58 to R62) -/

/-- Quantity times unit price (04 R58). -/
def Line.gross (l : Line) : Nat := l.quantity * l.price

/-- Gross less discount for an ACTIVE line, 0 for a VOID line (04 R58). -/
def Line.net (l : Line) : Nat := if l.void then 0 else l.gross - l.discount

/-- The net of the lines that are ACTIVE and satisfy a test. -/
def netWhere (lines : List Line) (p : Line → Bool) : Nat :=
  ((lines.filter fun l => !l.void && p l).map Line.net).sum

/-- The tax classes in order. -/
def taxClasses : List Nat := [1, 2, 3, 4, 5, 6, 7, 8]

/-- The class base of class c (04 R59). -/
def classBase (lines : List Line) (c : Nat) : Nat := netWhere lines fun l => l.cls == c

/-- The subtotal (04 R59). -/
def subtotalOf (lines : List Line) : Nat := (taxClasses.map (classBase lines)).sum

/-- The tax of class c (04 R60). -/
def classTax (w : Settings) (lines : List Line) (c : Nat) : Nat :=
  roundCent (w.value 9) (classBase lines c * w.value c)

/-- The service charge (04 R61). -/
def serviceOf (w : Settings) (covers : Nat) (lines : List Line) : Nat :=
  if w.value 11 ≠ 0 ∧ w.value 11 ≤ covers then roundCent (w.value 9) (subtotalOf lines * w.value 10) else 0

/-- The totals of a check with these covers and lines (04 R59 to R62). -/
def totalsOf (w : Settings) (covers : Nat) (lines : List Line) : Totals :=
  let taxes := taxClasses.map (classTax w lines)
  let service := serviceOf w covers lines
  { subtotal := subtotalOf lines, taxes, service, total := subtotalOf lines + taxes.sum + service }

/-! ## Remainder apportionment (04 R63) -/

/-- How many portions are served a leftover cent before position p: those with a larger remainder, and those with an
equal one and a lower number. -/
def serveRank (rems : List Nat) (p : Nat) : Nat :=
  let r := rems.getD p 0
  rems.zipIdx.countP fun (x, q) => decide (r < x) || (x == r && decide (q < p))

/-- The apportionment of target over the numerators ns with denominator d (04 R63). -/
def apportion (target d : Nat) (ns : List Nat) : List Nat :=
  let floors := ns.map (· / d)
  let rems := ns.map (· % d)
  let leftover := target - floors.sum
  floors.zipIdx.map fun (f, p) => if serveRank rems p < leftover then f + 1 else f

/-! ## Shares (04 R64 to R70) -/

/-- The seats from 1 to 30 with at least one ACTIVE line, ascending (04 R66). -/
def seatsPresent (lines : List Line) : List Nat :=
  (List.range' 1 30).filter fun seat => lines.any fun l => !l.void && l.seat == seat

/-- The shared base of class c: the ACTIVE lines of seat 0 (04 R67). -/
def sharedBase (lines : List Line) (c : Nat) : Nat := netWhere lines fun l => l.cls == c && l.seat == 0

/-- The net of class c at one seat (04 R67). -/
def seatBase (lines : List Line) (c seat : Nat) : Nat := netWhere lines fun l => l.cls == c && l.seat == seat

/-- The portion bases of class c for the seats present (04 R67). -/
def portionBases (lines : List Line) (seats : List Nat) (c : Nat) : List Nat :=
  let shared := sharedBase lines c
  List.zipWith (· + ·) (seats.map (seatBase lines c))
    (apportion shared seats.length (List.replicate seats.length shared))

/-- The portion taxes of class c (04 R68). -/
def portionTaxes (w : Settings) (lines : List Line) (seats : List Nat) (c : Nat) : List Nat :=
  apportion (classTax w lines c) Config.rateUnit ((portionBases lines seats c).map (· * w.value c))

/-- Lists of m figures added place by place. -/
def addColumns (m : Nat) (cols : List (List Nat)) : List Nat :=
  cols.foldr (List.zipWith (· + ·)) (List.replicate m 0)

/-- The portion subtotals (04 R67). -/
def portionSubtotals (lines : List Line) (seats : List Nat) : List Nat :=
  addColumns seats.length (taxClasses.map (portionBases lines seats))

/-- The service parts; none is made when the subtotal is 0 (04 R69). -/
def serviceParts (w : Settings) (covers : Nat) (lines : List Line) (seats : List Nat) : List Nat :=
  let service := serviceOf w covers lines
  if subtotalOf lines = 0 then List.replicate seats.length 0
  else apportion service (subtotalOf lines) ((portionSubtotals lines seats).map (service * ·))

/-- The shares of a BY_SEAT plan (04 R69). -/
def seatShares (w : Settings) (covers : Nat) (lines : List Line) (seats : List Nat) : List Nat :=
  addColumns seats.length
    [portionSubtotals lines seats,
     addColumns seats.length (taxClasses.map (portionTaxes w lines seats)),
     serviceParts w covers lines seats]

/-- The shares of an EVEN plan of n portions (04 R65). -/
def evenShares (total n : Nat) : List Nat := apportion total n (List.replicate n total)

/-- Fresh portion records, counted sum 0 and no claim (05 R83). -/
def freshPortions (shares : List Nat) (seats : List (Option Nat)) : List Portion :=
  (List.zip shares seats).zipIdx.map fun ((share, seat), i) =>
    { number := i + 1, share, seat, counted := 0, claim := none }

/-- A plan as SET SPLIT builds it (05 R83) and as a recomputation rebuilds it (04 R71); a BY_SEAT plan takes its count
from the seats present. -/
def buildPlan (w : Settings) (covers : Nat) (lines : List Line) (kind : PlanKind) (n : Nat) : Plan :=
  let total := (totalsOf w covers lines).total
  match kind with
  | .unsplit => { kind, count := 1, state := .locked, portions := freshPortions [total] [none] }
  | .even => { kind, count := n, state := .locked,
               portions := freshPortions (evenShares total n) (List.replicate n none) }
  | .bySeat =>
    let seats := seatsPresent lines
    { kind, count := seats.length, state := .locked,
      portions := freshPortions (seatShares w covers lines seats) (seats.map some) }
  | .custom => { kind, count := n, state := .draft,
                 portions := freshPortions (List.replicate n 0) (List.replicate n none) }

/-! ## Recomputation (04 R71) -/

/-- What a recomputation finds: the check with its new figures, a total above the money range (04 R62), or a BY_SEAT
seat count of 0 or above 20 (04 R66). -/
inductive Tally where
  | ok (c : Check)
  | overTotal (total : Nat)
  | badSeats (count : Nat)
  deriving DecidableEq, Repr

/-- A seat count that a BY_SEAT plan cannot have (04 R66). -/
def badSeatCount (m : Nat) : Bool := decide (m = 0) || decide (20 < m)

/-- The plan after a recomputation: CUSTOM amounts are kept, and a LOCKED one returns to DRAFT when the total changed
(01 R6, 04 R71). -/
def rebuiltPlan (w : Settings) (c : Check) (total : Nat) : Plan :=
  match c.plan.kind with
  | .custom => if total = c.totals.total then c.plan else { c.plan with state := .draft }
  | kind => buildPlan w c.covers c.lines kind c.plan.count

/-- The check, with its lines and covers changed already, given its new totals and shares (04 R71). -/
def recompute (w : Settings) (c : Check) : Tally :=
  let totals := totalsOf w c.covers c.lines
  let seats := (seatsPresent c.lines).length
  if Config.maxAmount < totals.total then .overTotal totals.total
  else if c.plan.kind = .bySeat ∧ badSeatCount seats then .badSeats seats
  else .ok { c with totals, plan := rebuiltPlan w c totals.total }

/-! ## Custom amounts (04 R70) -/

/-- The exact sum of the shares of a plan. -/
def Plan.shareSum (p : Plan) : Nat := (p.portions.map Portion.share).sum

/-- The split-fault record of a combined check that fails (04 R70). -/
def splitFaultOf (sum total : Nat) : SplitFault where
  sum := min sum Config.maxAmount
  total := total
  isOver := decide (total < sum)
  difference := min ((sum - total) + (total - sum)) Config.maxAmount

/-! ## Tenders and tips (04 R72 to R79) -/

/-- The amount of a card tender against a balance; none where the balance test fails (04 R72). -/
def cardAmount (asked balance : Nat) : Option Nat :=
  let a := if asked = 0 then balance else asked
  if a = 0 ∨ balance < a then none else some a

/-- Cash given, counted amount and change against a balance; none where the test fails (04 R73). -/
def cashFigures (asked balance : Nat) : Option (Nat × Nat × Nat) :=
  let given := if asked = 0 then balance else asked
  let counted := min given balance
  if counted = 0 then none else some (given, counted, given - counted)

/-- The tip cap of an amount (04 R75). -/
def tipCap (w : Settings) (amount : Nat) : Nat := amount * w.value 12 / Config.rateUnit

/-- The tip a request asks for: the figure itself, or a rate of the amount (04 R74). -/
def tipAsked (w : Settings) (isRate : Bool) (amount figure : Nat) : Nat :=
  if isRate then roundCent (w.value 9) (amount * figure) else figure

/-- The amount of a tender's message of each kind (04 R79). -/
def messageAmount (t : Tender) : NeedKind → Nat
  | .auth => t.authAmount.getD 0
  | .increment => t.amount + t.heldTip.getD 0 - t.authTotal.getD 0
  | .reverse => (t.authTotal.orElse fun _ => t.authAmount).getD 0
  | .capture => t.amount + t.tip

/-- A discount that a SERVER may give without approval (03 R52). -/
def discountLimit (w : Settings) (gross : Nat) : Nat := gross * w.value 14 / Config.rateUnit

end Sys2Proof.Machine
end

