-- ==== Sys2Proof/Machine/Layouts.lean ====
section
/-! DEFINITION. The byte layouts of answers and messages (10 R182, R185, R186), with the encodings of R185. -/

namespace Sys2Proof.Machine

/-! ## Encodings (10 R185) -/

/-- Answer codes (10 R181). -/
def Code.toNat : Code → Nat
  | .taken => 0
  | .pending => 1
  | .busy => 2
  | .absent => 3
  | .denied => 4
  | .range => 5
  | .stale => 6
  | .claimed => 7
  | .full => 8
  | .parked => 9
  | .deferred => 10
  | .held => 11
  | .malformed => 12

/-- Check states. -/
def CheckState.toNat : CheckState → Nat
  | .opened => 0
  | .presented => 1
  | .settling => 2
  | .paid => 3
  | .closing => 4
  | .closeFault => 5

/-- Hold reasons: MANAGER bit 0, APPROVAL bit 1. -/
def Holds.toNat (h : Holds) : Nat := h.manager.toNat + 2 * h.approval.toNat

/-- Plan kinds. -/
def PlanKind.toNat : PlanKind → Nat
  | .unsplit => 0
  | .even => 1
  | .bySeat => 2
  | .custom => 3

/-- The plan kind a byte names, if any. -/
def PlanKind.ofNat? : Nat → Option PlanKind
  | 0 => some .unsplit
  | 1 => some .even
  | 2 => some .bySeat
  | 3 => some .custom
  | _ => none

/-- Plan states. -/
def PlanState.toNat : PlanState → Nat
  | .locked => 0
  | .draft => 1

/-- Tender kinds. -/
def TenderKind.toNat : TenderKind → Nat
  | .cash => 0
  | .tipFirst => 1
  | .tipLater => 2

/-- The tender kind a byte names, if any. -/
def TenderKind.ofNat? : Nat → Option TenderKind
  | 0 => some .cash
  | 1 => some .tipFirst
  | 2 => some .tipLater
  | _ => none

/-- Tender states. -/
def TenderState.toNat : TenderState → Nat
  | .tipWait => 0
  | .authorizing _ => 1
  | .authorized => 2
  | .reversing => 3
  | .capturing => 4
  | .done _ => 5

/-- The sub-kind present in AUTHORIZING. -/
def TenderState.subKind : TenderState → Option Nat
  | .authorizing .auth => some 0
  | .authorizing .increment => some 1
  | _ => none

/-- Outcomes. -/
def TenderEnd.toNat : TenderEnd → Nat
  | .paidCash => 0
  | .captured => 1
  | .declined => 2
  | .withdrawn => 3
  | .reversed => 4
  | .reverseUnconfirmed => 5
  | .noLink => 6
  | .writtenOff => 7

/-- The outcome present in DONE. -/
def TenderState.outcome : TenderState → Option Nat
  | .done o => some o.toNat
  | _ => none

/-- Statuses. -/
def Status.toNat : Status → Nat
  | .declined => 1
  | .noLink => 2
  | .timeout => 3
  | .tipRefused => 4
  | .reversed => 5
  | .reverseUnconfirmed => 6
  | .leaseExpired => 7
  | .restart => 8

/-- A status field: absent is 0. -/
def statusByte (st : Option Status) : List Byte := be1 ((st.map Status.toNat).getD 0)

/-- Link states. -/
def LinkState.toNat : LinkState → Nat
  | .up => 0
  | .down => 1
  | .failed => 2

/-- Areas loaded. -/
def LoadedFrom.toNat : LoadedFrom → Nat
  | .site => 0
  | .factory => 1
  | .defaults => 2

/-- Start kinds. -/
def StartKind.toNat : StartKind → Nat
  | .cold => 0
  | .warm => 1

/-- Save states. -/
def SaveState.toNat : SaveState → Nat
  | .idle => 0
  | .saving => 1
  | .failed => 2

/-- The KIND values of acquirer messages. -/
def NeedKind.toNat : NeedKind → Nat
  | .auth => 0xC0
  | .increment => 0xC1
  | .reverse => 0xC2
  | .capture => 0xC3

/-! ## Frames on the wire (10 R176, R185) -/

/-- The bytes from TERM to the last body byte. -/
def Frame.content : Frame → List Byte
  | .answer term tag kind code seq body => be1 term ++ be1 tag ++ be1 kind ++ be1 code.toNat ++ be1 seq ++ body
  | .push term kind body => be1 term ++ be1 0 ++ be1 kind ++ body
  | .message tag kind body => be1 0 ++ be1 tag ++ be1 kind ++ body

/-- A whole frame with its LEN and CRC. -/
def Frame.wire (f : Frame) : List Byte := frameWire f.content

/-! ## Check summary, line entry, tender status body (10 R185) -/

/-- One portion of a check summary. -/
def portionBytes (p : Portion) : List Byte :=
  be1 p.number ++ byteOr p.seat ++ be4 p.share ++ be4 p.balance ++ flagByte p.claim.isSome

/-- The split-fault record of a check summary; each field is absent when there is no record. -/
def splitFaultBytes : Option SplitFault → List Byte
  | none => amountOr none ++ amountOr none ++ amountOr none ++ byteOr none
  | some f => be4 f.sum ++ be4 f.total ++ be4 f.difference ++ flagByte f.isOver

/-- The check summary (01 R12, 10 R185). -/
def State.summary (s : State) (c : Check) : List Byte :=
  be2 c.number ++ be2 c.table ++ be1 c.covers ++ be1 c.owner
  ++ be1 c.state.toNat ++ be1 c.holds.toNat ++ be2 c.version
  ++ be2 c.openedDay ++ be2 c.openedMinute ++ be2 (s.age c) ++ be1 (c.aged.toNat + 2 * c.agedAck.toNat)
  ++ be4 c.totals.subtotal ++ (c.totals.taxes.map be4).flatten ++ be4 c.totals.service ++ be4 c.totals.total
  ++ be1 (c.lines.countP fun l => !l.void) ++ be1 (c.lines.countP fun l => l.void)
  ++ be1 c.plan.kind.toNat ++ be1 c.plan.count ++ be1 c.plan.state.toNat
  ++ be1 c.tenders.length ++ byteOr c.closeFault
  ++ splitFaultBytes c.splitFault
  ++ be1 c.plan.portions.length ++ (c.plan.portions.map portionBytes).flatten

/-- The summary of the check in a slot as it stands. -/
def State.summaryAt (s : State) (slot : Nat) : List Byte :=
  match s.check? slot with
  | some c => s.summary c
  | none => []

/-- A line entry of READ LINES. -/
def lineBytes (l : Line) : List Byte :=
  be1 l.number ++ be3 l.item ++ be1 l.seat ++ be1 l.quantity ++ be3 l.price ++ be1 l.cls
  ++ be4 l.discount ++ be4 l.net ++ flagByte l.void ++ be1 l.addedBy

/-- The tender status body (06 R123, 10 R185), reporting the given primary and latest status. An absent approval code or
acquirer reference is sent as bytes of 0: the model's choice, since 10 R185 gives no form for one (log entry 37). -/
def tenderBytes (check : Nat) (t : Tender) (primary latest : Option Status) : List Byte :=
  be2 check ++ be1 t.number ++ be1 t.portion
  ++ be1 t.kind.toNat ++ be1 t.state.toNat ++ byteOr t.state.subKind ++ byteOr t.state.outcome
  ++ be1 (t.holder.getD 0) ++ be1 t.noticeClass
  ++ be4 t.amount ++ be4 t.tip ++ amountOr t.heldTip ++ amountOr t.authTotal ++ amountOr t.ceiling
  ++ amountOr t.tolerance ++ bytesOr 6 t.approvalCode ++ bytesOr 12 t.acqRef
  ++ amountOr t.cashGiven ++ amountOr t.change
  ++ be1 (t.withdrawRequested.toNat + 2 * t.deferredWithdraw.toNat + 4 * t.sent.toNat + 8 * t.captureFault.toNat)
  ++ be1 t.attempts ++ statusByte primary ++ statusByte latest

/-- The number of the check in a slot. -/
def State.numberAt (s : State) (slot : Nat) : Nat := ((s.check? slot).map Check.number).getD 0

/-- The tender status body of tender i as it stands. -/
def State.tenderBody (s : State) (i : Nat) : List Byte :=
  match s.tender? i with
  | some t => tenderBytes (s.numberAt t.slot) t t.primary t.latest
  | none => []

/-! ## Acquirer messages (07 R125, 10 R184) -/

/-- The body of a message: amount, check number, tender number, original tag, acquirer reference, card token; a field
that R125 marks absent for the kind is sent as 0. -/
def messageBody (check : Nat) (t : Tender) (k : NeedKind) (amount : Nat) : List Byte :=
  let safety := t.authTotal.isNone
  let origTag := match k with
    | .reverse => if safety then t.authTag else none
    | _ => none
  let ref := match k with
    | .auth => none
    | .reverse => if safety then none else t.acqRef
    | _ => t.acqRef
  let token := match k with
    | .auth => t.token
    | .increment => t.token
    | .reverse => if safety then t.token else none
    | .capture => none
  be4 amount ++ be2 check ++ be1 t.number ++ be1 (origTag.getD 0) ++ bytesOr 12 ref ++ bytesOr 32 token

/-! ## Part status (10 R186) -/

/-- One exchange entry of part 0. -/
def entryBytes : Option Exchange → List Byte
  | none => byteOr none ++ amountOr none
  | some e => be1 e.kind.toNat ++ be4 e.amount

/-- The number of exchange entries in use. -/
def Acquirer.inUse (a : Acquirer) : Nat := a.entries.countP Option.isSome

/-- The number of needs of one kind in the wait queue. -/
def Acquirer.needs (a : Acquirer) (k : NeedKind) : Nat := a.queue.countP fun n => decide (n.kind = k)

/-- Part 0 of the part status. -/
def State.statusPart0 (s : State) : List Byte :=
  be1 s.wnu.startKind.toNat ++ be1 s.sst.loaded.toNat ++ flagByte s.wnu.startup
  ++ be2 s.fck.day ++ be2 s.fck.minute ++ flagByte s.fck.unset ++ be1 s.sst.save.toNat
  ++ be2 s.liveChecks.length ++ be2 s.closeFaultChecks ++ be2 s.agedChecks ++ be2 s.ckt.nextNumber
  ++ be2 s.freeLines
  ++ be2 (s.tdu.pool.countP Option.isNone) ++ be2 s.tdu.pendingList.length
  ++ be1 s.aqp.link.toNat ++ flagByte s.aqp.linkOk ++ be2 s.aqp.timeouts ++ be2 (s.setting 18) ++ be2 s.aqp.inUse
  ++ (s.aqp.entries.map entryBytes).flatten
  ++ be2 s.aqp.queue.length ++ be2 (s.aqp.needs .auth) ++ be2 (s.aqp.needs .increment)
  ++ be2 (s.aqp.needs .reverse) ++ be2 (s.aqp.needs .capture)
  ++ be1 s.aqp.tagCounter ++ be2 s.aqp.discarded
  ++ be2 s.wnu.watches.length ++ be2 (sourceMask s.sourcePending) ++ be2 (sourceMask s.sourceEnabled)
  ++ flagByte (!s.noteLow)
  ++ be2 (s.fmp.present.countP id)
  ++ be2 s.flp.crcErrors ++ be2 s.flp.framingErrors ++ be2 s.fhp.crcErrors ++ be2 s.fhp.framingErrors
  ++ be2 s.gwp.crcErrors ++ be2 s.gwp.framingErrors
  ++ be2 s.flp.overruns ++ be2 s.fhp.overruns ++ be2 s.flp.pushDrops

/-- The entry of terminal t in part 1. -/
def State.terminalBytes (s : State) (t : Nat) : List Byte :=
  be1 (s.role t).toNat ++ be1 ((s.isPresent t).toNat + 2 * (!(s.hitSet t).isEmpty).toNat)
  ++ be2 (min 65535 (s.now - s.lastHeard t)) ++ be2 (s.pendCount t)

/-- Part 1 of the part status. -/
def State.statusPart1 (s : State) : List Byte :=
  ((List.range Config.terminalCount).map fun i => s.terminalBytes (i + 1)).flatten

/-- The line number, applied discount, target table and target owner of a parked change. -/
def parkedBytes : Parked → List Byte
  | .voidLine l => be1 l ++ amountOr none ++ be2 0 ++ be1 255
  | .discountLine l d => be1 l ++ be4 d ++ be2 0 ++ be1 255
  | .voidCheck => byteOr none ++ amountOr none ++ be2 0 ++ be1 255
  | .transferCheck t o => byteOr none ++ amountOr none ++ be2 t ++ be1 o

/-- One approval record of part 2. -/
def State.approvalBytes (s : State) (a : Approval) : List Byte :=
  be1 a.number ++ be2 (s.numberAt a.slot) ++ be1 (a.requester.getD 0) ++ be1 a.change.toNat
  ++ parkedBytes a.change ++ be2 (a.deadline - s.now)

/-- Part 2 of the part status. -/
def State.statusPart2 (s : State) : List Byte :=
  be1 s.apu.table.length ++ (s.apu.table.map s.approvalBytes).flatten

end Sys2Proof.Machine
end

