-- ==== Sys2Proof/Machine/Operands.lean ====
section
/-! DEFINITION. Taking a request and judging its operands: what may be taken (10 R178, R179), the access decision
(02 R31, R32), the refusals and their details (10 R181, R182). -/

namespace Sys2Proof.Machine

/-! ## Refusals and their details (10 R182) -/

/-- A refusal with an empty body. -/
def refuse (code : Code) : Reply := reply code []

/-- MALFORMED with its reason: 1 requester number, 2 kind, 3 length. -/
def malformedReply (reason : Nat) : Reply := reply .malformed (be1 reason)

/-- STALE with the check's current version and state (01 R5). -/
def staleReply (c : Check) : Reply := reply .stale (be2 c.version ++ be1 c.state.toNat)

/-- The RANGE detail. -/
def rangeReply (reason entry field a b c direction : Nat) : Reply :=
  reply .range (be1 reason ++ be1 entry ++ be1 field ++ be4 a ++ be4 b ++ be4 c ++ be1 direction)

/-- Reason 1: the field counted from 1 in body order. -/
def rangeField (field : Nat) : Reply := rangeReply 1 0 field 0 0 0 0

/-- Reason 1 for ADD LINES: the entry and the field within it. -/
def rangeEntry (entry field : Nat) : Reply := rangeReply 1 entry field 0 0 0 0

/-- Reason 2: the refused total. -/
def rangeTotal (total : Nat) : Reply := rangeReply 2 0 0 total 0 0 0

/-- Reason 3: the BY_SEAT seat count. -/
def rangeSeats (count : Nat) : Reply := rangeReply 3 0 0 count 0 0 0

/-- Reason 4: the tip cap. -/
def rangeTip (cap : Nat) : Reply := rangeReply 4 0 0 cap 0 0 0

/-- Reason 5: the four figures of a failed combined check. -/
def rangeSplit (f : SplitFault) : Reply := rangeReply 5 0 0 f.sum f.total f.difference f.isOver.toNat

/-- Reason 6: the balance. -/
def rangeBalance (balance : Nat) : Reply := rangeReply 6 0 0 balance 0 0 0

/-- FULL with its collection: 1 check slots, 2 table list, 3 line numbers, 4 free line records, 5 tender list,
6 tender pool, 7 approval table, 8 watch table, 9 per-terminal watch limit. -/
def fullReply (collection : Nat) : Reply := reply .full (be1 collection)

/-- The first refusal whose condition holds, in the order given (10 R181). -/
def judge : List (Bool × Reply) → Option Reply
  | [] => none
  | (cond, r) :: rest => if cond then some r else judge rest

/-- A request judged: refused with nothing changed, or acted on. -/
def judged (s : State) (tests : List (Bool × Reply)) (act : State × Reply) : State × Reply :=
  match judge tests with
  | some r => (s, r)
  | none => act

/-- The refusal a recomputation gives, if any (04 R62, R66). -/
def Tally.refusal : Tally → Option Reply
  | .ok _ => none
  | .overTotal t => some (rangeTotal t)
  | .badSeats m => some (rangeSeats m)

/-- A recomputation's refusal as a test of judge. -/
def Tally.test (t : Tally) : Bool × Reply := (t.refusal.isSome, t.refusal.getD (refuse .range))

/-- The expected version differs from the check's (01 R5). -/
def Check.isStale (c : Check) (ver : Nat) : Bool := ver != Config.anyVersion && ver != c.version

/-! ## The access decision (02 R31, R32) -/

/-- The classes of request kinds (02 R31). -/
inductive ReqClass where
  | presence
  | read
  | watch
  | change
  | tender
  | manager
  | floorServer
  deriving DecidableEq, Repr

/-- The requester is a SERVER terminal, the only kind of requester the second step and the parking rules limit. -/
def State.isServer (s : State) (term : Nat) : Bool := term != 0 && decide (s.role term = .server)

/-- The first step: the class admits the requester (02 R31). -/
def State.admits (s : State) (cls : ReqClass) (term : Nat) : Bool :=
  let isFloor := term == 0
  let working := decide (s.role term ≠ .off)
  match cls with
  | .presence => true
  | .read => isFloor || working
  | .watch => !isFloor && working
  | .change => isFloor || working
  | .tender => isFloor || working
  | .manager => isFloor || decide (s.role term = .manager)
  | .floorServer => isFloor

/-- The second step for reading a check (02 R32). -/
def State.mayRead (s : State) (term : Nat) (c : Check) : Bool :=
  !s.isServer term || c.owner == term || s.works term (s.sectionOf c.table)

/-- The second step for changing a check (02 R26, R32). -/
def State.mayChange (s : State) (term : Nat) (c : Check) : Bool :=
  !s.isServer term || c.owner == term
    || (s.works term (s.sectionOf c.table) && s.shares (s.sectionOf c.table))

/-- The second step for a tender (02 R32). -/
def State.mayTender (s : State) (term : Nat) (t : Tender) : Bool :=
  !s.isServer term || decide (t.holder = some term)

/-- A requester number names the floor server or a terminal whose role is SERVER or MANAGER (01 R11, R15). -/
def State.mayOwn (s : State) (owner : Nat) : Bool :=
  owner == 0 || (decide (owner ≤ Config.terminalCount) && decide (s.role owner ≠ .off))

/-- A number names a table (02 R32). -/
def tableExists (table : Nat) : Bool := decide (1 ≤ table) && decide (table ≤ Config.tableCount)

/-- A number names a terminal (02 R36). -/
def terminalExists (t : Nat) : Bool := decide (1 ≤ t) && decide (t ≤ Config.terminalCount)

/-! ## Taking a request (10 R178, R179) -/

/-- What becomes of a request frame that passes its CRC. -/
inductive Taking where
  /-- The part is halted, the port's assembler is in SKIP, or its transaction is ignored: no frame is taken (10 R175,
  R187). -/
  | lost
  /-- TAG is 0 (10 R178). -/
  | tagZero
  /-- Fewer than 12 free places in the output list (10 R179). -/
  | overrun
  /-- The requester number does not fit the port (02 R28). -/
  | badRequester
  /-- The frame is taken and judged. -/
  | taken
  deriving DecidableEq, Repr

/-- The port's receive side is ready for the first byte of a frame (10 R175); the Front-of-House transaction in
progress when a start ended is ignored with all it carries (10 R187). -/
def State.receives (s : State) : ReqPort → Bool
  | .flp => decide (s.flp.assembler = .idle)
  | .fhp => !s.fhp.ignore

/-- The requester number fits the port (02 R28). -/
def requesterFits (h : Hdr) : Bool :=
  match h.port with
  | .flp => terminalExists h.term
  | .fhp => h.term == 0

/-- How a request frame is judged before its kind is looked at (10 R178, R179; log entry 17). -/
def State.takes (s : State) (h : Hdr) : Taking :=
  if !(s.running && s.receives h.port) then .lost
  else if h.tag = 0 then .tagZero
  else if Config.outputPlaces < (s.outList h.port).length + Config.answerPlaces then .overrun
  else if !requesterFits h then .badRequester
  else .taken

/-- A frame that passes the CRC, acted on: discarded and counted, answered MALFORMED for its requester number, or
taken; once taken, presence is updated first and pushes leave after the answer (02 R28, 09 R166). -/
def State.frame (s : State) (h : Hdr) (kind : Nat) (act : State → State × Reply) : State :=
  match s.takes h with
  | .lost => s
  | .tagZero => s.countFraming h.port
  | .overrun => s.countOverrun h.port
  | .badRequester => s.answer h kind (malformedReply 1)
  | .taken =>
    let r := act (s.hear h.term)
    (r.1.answer h kind r.2).flushPushes

/-- A well-formed request: the first step of the access decision, then the owning block (10 R178, 02 R31). -/
def State.request (s : State) (h : Hdr) (kind : Nat) (cls : ReqClass) (act : State → State × Reply) : State :=
  s.frame h kind fun s => if s.admits cls h.term then act s else (s, refuse .denied)

/-- A frame of a kind or length the table of 10.6 does not have (10 R178). -/
def State.malformedFrame (s : State) (h : Hdr) (kind reason : Nat) : State :=
  s.frame h kind fun s => (s, malformedReply reason)

/-- A request that names a check by number: ABSENT when no live check carries it (01 R3), else acted on with the
check's slot and record. -/
def State.withCheck (s : State) (number : Nat) (k : Nat → Check → State × Reply) : State × Reply :=
  match s.findSlot number with
  | none => (s, refuse .absent)
  | some i =>
    match s.check? i with
    | none => (s, refuse .absent)
    | some c => k i c

/-- A request that names a tender of a check by number: ABSENT when none is so numbered (06 R98). -/
def State.withTender (s : State) (c : Check) (number : Nat) (k : Nat → Tender → State × Reply) : State × Reply :=
  match c.tenderIndex? number with
  | none => (s, refuse .absent)
  | some i =>
    match s.tender? i with
    | none => (s, refuse .absent)
    | some t => k i t

end Sys2Proof.Machine
end

