-- ==== Sys2Proof/Machine/TenderOps.lean ====
section
/-! DEFINITION. Tender events and the train they set off (05 R88), the ends of exchanges (06 R107 to R111), withdraws
(06 R113, R115), lease expiry (05 R93), and the end of a close (01 R19). -/

namespace Sys2Proof.Machine

/-! ## The train of a tender event (05 R88, 01 R9, R10) -/

/-- A portion after a tender's change: the amount is uncounted when the tender stops counting, and the claim follows
TIP_WAIT and AUTHORIZING (05 R87, R90). -/
def Portion.follow (p : Portion) (i : Nat) (old new : Tender) : Portion :=
  { p with
    counted := if old.state.counts && !new.state.counts then p.counted - old.amount else p.counted
    claim := if new.state.claims then some i else if p.claim = some i then none else p.claim }

/-- A plan after a tender's change: only the tender's portion follows, and an ended tender counts against nothing
(05 R81, R87). -/
def Plan.follow (p : Plan) (i : Nat) (old new : Tender) : Plan :=
  if old.state.counts then
    { p with portions := p.portions.map fun q => if q.number = old.portion then q.follow i old new else q }
  else p

/-- The check's state is derived anew in SETTLING and PAID, and after a START TENDER in OPEN and PRESENTED; a change
hands on its event (01 R9, R10). -/
def State.derive (s : State) (afterStart : Bool) (slot : Nat) : State :=
  match s.check? slot with
  | none => s
  | some c =>
    let applies := decide (c.state = .settling) || decide (c.state = .paid) || (afterStart && c.orderable)
    let new := derivedState c.plan (s.tendersOf c)
    if applies ∧ new ≠ c.state then
      (s.modCheck slot fun c => { c with state := new }).handEvent c.number (derivedEvent new)
    else s

/-- Tender i is changed without the version step and the derivation (the first two steps of 05 R88). -/
def State.moveTender (s : State) (i : Nat) (f : Tender → Tender) : State :=
  match s.tender? i with
  | none => s
  | some t =>
    (s.modTender i f).modCheck t.slot fun c => { c with plan := c.plan.follow i t (f t) }

/-- A tender event: the tender changes, its portion follows, the version steps once, the state is derived and its
event handed on (05 R88). -/
def State.tenderEvent (s : State) (i : Nat) (f : Tender → Tender) : State :=
  match s.tender? i with
  | none => s
  | some t => ((s.moveTender i f).modCheck t.slot Check.stepVersion).derive false t.slot

/-! ## Changes of a tender -/

/-- The tender ends with an outcome; its lease and the flags of an exchange are cleared. -/
def Tender.finish (t : Tender) (o : TenderEnd) : Tender :=
  { t with state := .done o, lease := .absent, sent := false, withdrawRequested := false }

/-- The tender enters REVERSING: attempt count 0, withdraw-requested and sent cleared (06 R107, R108, R109, R113). -/
def Tender.toReversing (t : Tender) : Tender :=
  { t with state := .reversing, attempts := 0, withdrawRequested := false, sent := false, heldTip := none }

/-- The tender is back in AUTHORIZED with no held tip (06 R107, R109). -/
def Tender.toAuthorized (t : Tender) : Tender :=
  { t with state := .authorized, sent := false, heldTip := none }

/-- Tender i enters REVERSING as a tender event, and its REVERSE need is placed (06 R107, R108, R109, R113). -/
def State.reverseTender (s : State) (i : Nat) (f : Tender → Tender) : State :=
  (s.tenderEvent i fun t => (f t).toReversing).placeNeed i .reverse

/-- The tender settles in AUTHORIZED, or passes on into REVERSING when its withdraw was requested (06 R107, R109). -/
def State.settleAuthorized (s : State) (i : Nat) (withdraw : Bool) (f : Tender → Tender) : State :=
  if withdraw then s.reverseTender i f else s.tenderEvent i fun t => (f t).toAuthorized

/-! ## Ends of exchanges (06, 6.5) -/

/-- How an exchange ends (06, 6.5). -/
inductive ExchangeEnd where
  | approved (acqRef code : Option (List Byte))
  | refused
  | timeout
  | noLink
  deriving DecidableEq, Repr

/-- The end of an AUTH (06 R107, R108). -/
def State.endAuth (s : State) (i : Nat) (t : Tender) : ExchangeEnd → State
  | .approved ref code =>
    let tolerance := s.setting 13
    s.settleAuthorized i t.withdrawRequested fun t =>
      { t with authTotal := t.authAmount, tolerance := some tolerance, acqRef := ref, approvalCode := code }
  | .refused => (s.tenderEvent i fun t => t.finish .declined).setStatus i .declined
  | .timeout => (s.reverseTender i id).setStatus i .timeout
  | .noLink => (s.tenderEvent i fun t => t.finish .noLink).setStatus i .noLink

/-- The end of an INCREMENT (06 R109); its approval code replaces the old one even when it is absent (DEDUCED, log
entry 22). -/
def State.endIncrement (s : State) (i : Nat) (t : Tender) : ExchangeEnd → State
  | .approved _ code =>
    s.settleAuthorized i t.withdrawRequested fun t =>
      { t with authTotal := some (t.amount + t.heldTip.getD t.tip), tip := t.heldTip.getD t.tip,
               approvalCode := code }
  | _ => (s.settleAuthorized i t.withdrawRequested id).setStatus i .tipRefused

/-- The end of a REVERSE (06 R110). -/
def State.endReverse (s : State) (i : Nat) (t : Tender) : ExchangeEnd → State
  | .approved _ _ => (s.tenderEvent i fun t => t.finish .reversed).setStatus i .reversed
  | _ =>
    let attempts := t.attempts + 1
    if attempts < s.setting 17 then
      (s.modTender i fun t => { t with attempts, sent := false }).placeNeed i .reverse
    else
      (s.tenderEvent i fun t => { t.finish .reverseUnconfirmed with attempts }).setStatus i .reverseUnconfirmed

/-! ## Retirement (01 R21) -/

/-- The tenders of a retiring check are freed, each leaving the pending-status list with its holder's count
(01 R21 step 2). -/
def State.freeTender (s : State) (i : Nat) : State :=
  let s := match s.tender? i with
    | some t => if t.hasStatus then s.unlist i t.holder else s
    | none => s
  { s with tdu := { s.tdu with pool := s.tdu.pool.set i none } }

/-- The approval record of a retiring check ends with outcome DISCARDED (01 R21 step 6, 08 R155). -/
def State.discardApproval (s : State) (slot number : Nat) : State :=
  match s.approvalOf slot with
  | none => s
  | some a => (s.dropApproval a).announceEnding a number 19

/-- The watch entries of a check number are deleted (01 R21 step 5). -/
def State.dropWatchesOn (s : State) (number : Nat) : State :=
  { s with wnu := { s.wnu with watches := s.wnu.watches.filter fun w => w.check != number } }

/-- Retirement of the check in a slot, the steps of 01 R21 in order; the slot becomes free, and no ageing found due
outlives the check (log entry 6). -/
def State.retire (s : State) (slot : Nat) : State :=
  match s.check? slot with
  | none => s
  | some c =>
    let s := { s with freeLines := s.freeLines + c.lines.length }
    let s := c.tenders.foldl State.freeTender s
    let s := s.unseat c.table slot
    let s := (s.handEvent c.number .retired).dropWatchesOn c.number
    let s := (s.discardApproval slot c.number).doneAge c.number
    { s with ckt := { s.ckt with slots := s.ckt.slots.set slot none } }

/-! ## The end of a capture and of a close (06 R111, 01 R19) -/

/-- The Check Table looks at a CLOSING check after a capture has ended: it stays while a tender is CAPTURING, retires
when none is faulted, and else becomes CLOSE_FAULT with the number of faulted tenders (01 R19). -/
def State.closeStep (s : State) (slot : Nat) : State :=
  match s.check? slot with
  | none => s
  | some c =>
    let ts := s.tendersOf c
    let faulted := ts.countP Tender.faulted
    if c.state ≠ .closing ∨ ts.any (fun t => decide (t.state = .capturing)) then s
    else if faulted = 0 then s.retire slot
    else
      (s.modCheck slot fun c => { c with state := .closeFault, closeFault := some faulted }).handEvent
        c.number .closeFault

/-- The end of a CAPTURE (06 R111). -/
def State.endCapture (s : State) (i : Nat) (t : Tender) (e : ExchangeEnd) : State :=
  let f : Tender → Tender := match e with
    | .approved _ _ => fun t => t.finish .captured
    | _ => fun t => { t.toAuthorized with captureFault := true }
  (s.tenderEvent i f).closeStep t.slot

/-- The end of an exchange of a given kind is handed to the Tender Unit (07 R136, R137). -/
def State.endExchange (s : State) (k : NeedKind) (i : Nat) (e : ExchangeEnd) : State :=
  match s.tender? i with
  | none => s
  | some t =>
    match k with
    | .auth => s.endAuth i t e
    | .increment => s.endIncrement i t e
    | .reverse => s.endReverse i t e
    | .capture => s.endCapture i t e

/-! ## Link departure (07 R129) -/

/-- A queued AUTH or INCREMENT need is completed as NO_LINK (07 R129). -/
def State.completeNoLink (s : State) (n : Need) : State :=
  (s.removeNeed n.tender).endExchange n.kind n.tender .noLink

/-- AUTH and INCREMENT needs are the ones completed as NO_LINK (07 R129). -/
def NeedKind.ofHold : NeedKind → Bool
  | .auth => true
  | .increment => true
  | _ => false

/-- The departure from UP: every queued AUTH and INCREMENT need, in queue order, is completed (07 R129). -/
def State.departUp (s : State) : State :=
  (s.aqp.queue.filter fun n => n.kind.ofHold).foldl State.completeNoLink s

/-- The link state is written (07 R127). -/
def State.setLink (s : State) (l : LinkState) : State := { s with aqp := { s.aqp with link := l } }

/-! ## Withdraws and lease expiry -/

/-- A withdraw taken on tender i (06 R113); a tender in any other state is left as it is (06 R115). -/
def State.withdraw (s : State) (i : Nat) : State :=
  match s.tender? i with
  | none => s
  | some t =>
    match t.state with
    | .tipWait => s.tenderEvent i fun t => t.finish .withdrawn
    | .authorizing sub =>
      if t.sent then s.modTender i fun t => { t with withdrawRequested := true }
      else
        match sub with
        | .auth => (s.removeNeed i).tenderEvent i fun t => t.finish .withdrawn
        | .increment => (s.removeNeed i).reverseTender i id
    | .authorized => s.reverseTender i id
    | _ => s

/-- A lease expires, or its holder is released: DONE(WITHDRAWN) with status LEASE_EXPIRED (05 R93, 02 R35). -/
def State.expireLease (s : State) (i : Nat) : State :=
  (s.tenderEvent i fun t => t.finish .withdrawn).setStatus i .leaseExpired

end Sys2Proof.Machine
end

