-- ==== Sys2Proof/Machine/HoldOps.lean ====
section
/-! DEFINITION. Hold reasons, their release, parking, the end of an approval record (08), and the release of a
terminal (02 R35). -/

namespace Sys2Proof.Machine

/-! ## Hold reasons (08 R144) -/

/-- A hold reason added to or removed from a set. -/
def Holds.put (h : Holds) (r : HoldReason) (b : Bool) : Holds :=
  match r with
  | .manager => { h with manager := b }
  | .approval => { h with approval := b }

/-- A running lease is paused, keeping at least 1 second (05 R92). -/
def Lease.pause (now : Nat) : Lease → Lease
  | .running d => .paused (max 1 (d - now))
  | l => l

/-- A paused lease resumes with its remaining time (05 R92). -/
def Lease.resume (now : Nat) : Lease → Lease
  | .paused r => .running (now + r)
  | l => l

/-- Every lease of a check's TIP_WAIT tenders is changed (05 R92). -/
def State.mapLeases (s : State) (slot : Nat) (f : Lease → Lease) : State :=
  { s with tdu := { s.tdu with pool := s.tdu.pool.map (Option.map fun (t : Tender) =>
      if t.slot = slot ∧ t.state = .tipWait then { t with lease := f t.lease } else t) } }

/-- A hold reason is added: the version steps, and a set that was empty hands on HELD and pauses the leases
(08 R144). -/
def State.addHold (s : State) (slot : Nat) (r : HoldReason) : State :=
  match s.check? slot with
  | none => s
  | some c =>
    let s := s.modCheck slot fun c => { c with holds := c.holds.put r true, version := nextVersion c.version }
    if c.held then s else (s.handEvent c.number .held).mapLeases slot (Lease.pause s.now)

/-- A deferred withdraw acts: the flag is cleared and the withdraw carried out as R113 states for the tender's state
(06 R115, 08 R149). DEDUCED (log entry 40): R115 and R149 give each deferred withdraw its own version step, and R113
says that setting withdraw-requested is no tender event and steps none. On a sent AUTHORIZING tender, and on one in
REVERSING, CAPTURING or DONE, which is left as it is, the model clears the flag and steps no version. -/
def State.actDeferred (s : State) (i : Nat) : State :=
  match s.tender? i with
  | none => s
  | some t =>
    if t.deferredWithdraw then (s.modTender i fun t => { t with deferredWithdraw := false }).withdraw i else s

/-- The release of a check whose hold reasons have become empty, from step 2 on: RELEASED, the deferred withdraws in
tender-list order, then the paused leases (08 R149). -/
def State.releaseHeld (s : State) (slot : Nat) : State :=
  match s.check? slot with
  | none => s
  | some c =>
    let s := s.handEvent c.number .released
    let s := c.tenders.foldl State.actDeferred s
    s.mapLeases slot (Lease.resume s.now)

/-- A hold reason is removed and the version steps once; a set that is now empty is released (08 R146, R149, R155). -/
def State.removeHold (s : State) (slot : Nat) (r : HoldReason) : State :=
  match s.check? slot with
  | none => s
  | some c =>
    let holds := c.holds.put r false
    let s := s.modCheck slot fun c => { c with holds, version := nextVersion c.version }
    if holds.any then s else s.releaseHeld slot

/-! ## Parking (08 R150, R151) -/

/-- The approval table has no free record. -/
def State.approvalsFull (s : State) : Bool := decide (Config.approvalRecords ≤ s.apu.table.length)

/-- A change is parked: the record, the APPROVAL reason, and APPROVAL_WAITING when the table was empty. The answer
carries the parked change whole, with the fields and sizes of 10 R186 (08 R151; log entry 14). -/
def State.park (s : State) (slot term : Nat) (change : Parked) : State × Reply :=
  let used := s.apu.table.map Approval.number
  let number := firstFree used 255 (used.length + 1) s.apu.counter
  let record : Approval :=
    { number, slot, requester := some term, change, deadline := s.now + s.setting 19 }
  let wasEmpty := s.apu.table.isEmpty
  let s := { s with apu := { table := s.apu.table ++ [record], counter := cycleSucc 255 number } }
  let s := s.addHold slot .approval
  let s := if wasEmpty then s.announceWaiting else s
  (s, reply .parked (be1 number ++ be1 change.toNat ++ parkedBytes change ++ s.summaryAt slot))

/-! ## The end of an approval record (08 R154, R155) -/

/-- What the second judgement of a parked change gives. -/
inductive Evaluation where
  /-- Refused with a code; nothing is changed. -/
  | refused (code : Code)
  /-- The change is made, without a version step of its own. -/
  | applied (s : State)
  /-- The check has retired. -/
  | retired (s : State)

/-- A line of a check by number (03 R42). -/
def Check.line? (c : Check) (n : Nat) : Option Line := c.lines.find? fun l => l.number == n

/-- The check with one line changed. -/
def Check.mapLine (c : Check) (n : Nat) (f : Line → Line) : Check :=
  { c with lines := c.lines.map fun l => if l.number = n then f l else l }

/-- The check with line n VOID (03 R48). -/
def Check.withVoid (c : Check) (n : Nat) : Check := c.mapLine n fun l => { l with void := true }

/-- The check with a discount on line n (03 R51). -/
def Check.withDiscount (c : Check) (n d : Nat) : Check := c.mapLine n fun l => { l with discount := d }

/-- A parked line change is judged again on the line as it stands and made (03 R53, 08 R154). -/
def State.applyLine (s : State) (slot : Nat) (l : Line) (changed : Check) : Evaluation :=
  match recompute s.sst.work changed with
  | .ok c => if l.void then .refused .busy else .applied (s.modCheck slot fun _ => c)
  | _ => .refused .range

/-- The table part of a transfer changes the table: it is not 0 and not the check's own (01 R15). -/
def movesTable (c : Check) (table : Nat) : Bool := table != 0 && table != c.table

/-- The owner part of a transfer changes the owner: it is not 255 and not the check's own (01 R15). -/
def changesOwner (c : Check) (owner : Nat) : Bool := owner != 255 && owner != c.owner

/-- A table's open-check list holds 4 checks (01 R15). -/
def State.tableFull (s : State) (table : Nat) : Bool := decide (Config.tableListMax ≤ (s.tableList table).length)

/-- A transfer is made: the lists move and the owner is written, each when it changes; no version step
(01 R15, 02 R25). -/
def State.moveCheck (s : State) (slot : Nat) (c : Check) (table owner : Nat) : State :=
  let s := if movesTable c table then (s.unseat c.table slot).seatAt table slot else s
  s.modCheck slot fun x =>
    { x with table := if movesTable c table then table else x.table
             owner := if changesOwner c owner then owner else x.owner }

/-- A parked transfer is judged again and made (01 R15, 08 R154). -/
def State.applyTransfer (s : State) (slot : Nat) (c : Check) (table owner : Nat) : Evaluation :=
  let moves := movesTable c table
  let owns := changesOwner c owner
  if (owns && !s.mayOwn owner) || (!moves && !owns) then .refused .range
  else if c.closeRunning || (moves && s.sectionOf table == 0) then .refused .busy
  else if moves && s.tableFull table then .refused .full
  else .applied (s.moveCheck slot c table owner)

/-- The parked change judged again against the check as it stands (08 R154). -/
def State.evaluate (s : State) (slot : Nat) (c : Check) : Parked → Evaluation
  | .voidLine n =>
    match c.line? n with
    | none => .refused .absent
    | some l => s.applyLine slot l (c.withVoid n)
  | .discountLine n d =>
    match c.line? n with
    | none => .refused .absent
    | some l => s.applyLine slot l (c.withDiscount n (min d l.gross))
  | .voidCheck =>
    if s.anyPending c then .refused .pending
    else if !c.orderable then .refused .busy
    else .retired (s.retire slot)
  | .transferCheck table owner => s.applyTransfer slot c table owner

/-- An approval record ends without its change: the record leaves, APPROVAL is removed with its release, the ending
is handed on (08 R155). -/
def State.endApproval (s : State) (a : Approval) (outcome : Nat) : State :=
  let number := s.numberAt a.slot
  ((s.dropApproval a).removeHold a.slot .approval).announceEnding a number outcome

/-- APPROVE on a record whose tests have passed: the outcome and the state after the event; none stands for a check
that has retired (08 R153, R155). -/
def State.approveRecord (s : State) (a : Approval) (c : Check) : State × Nat × Bool :=
  let dropped := s.dropApproval a
  match dropped.evaluate a.slot c a.change with
  | .refused code =>
    ((dropped.removeHold a.slot .approval).announceEnding a c.number code.toNat, code.toNat, false)
  | .applied s' => ((s'.removeHold a.slot .approval).announceEnding a c.number 16, 16, false)
  | .retired s' => (s'.announceEnding a c.number 16, 16, true)

/-! ## The release of a terminal (02 R35) -/

/-- The pool indexes of the tenders that satisfy a test, in pool index order. -/
def State.tendersWhere (s : State) (p : Tender → Bool) : List Nat :=
  (List.range s.tdu.pool.length).filter fun i => (s.tender? i).any p

/-- The three counts of a release (02 R36). -/
structure ReleaseCounts where
  withdrawn : Nat
  unheld : Nat
  watches : Nat
  deriving DecidableEq, Repr

/-- Tender i has no holder from now on (02 R35 step 3). -/
def State.unhold (s : State) (i : Nat) : State := s.modTender i fun t => { t with holder := none }

/-- The release of terminal t, the steps of 02 R35 in order. -/
def State.releaseTerminal (s : State) (t : Nat) : State × ReleaseCounts :=
  let s := s.setPresent t false
  let waiting := s.tendersWhere fun x => decide (x.holder = some t) && decide (x.state = .tipWait)
  let s := waiting.foldl State.expireLease s
  let held := s.tendersWhere fun x => decide (x.holder = some t)
  let s := held.foldl State.unhold s
  let s := s.setPendCount t 0
  let watching := (s.watchesOf t).length
  let s := { s with wnu := { s.wnu with watches := s.wnu.watches.filter fun w => w.terminal != t } }
  let s := s.setHits t []
  let s := { s with apu := { s.apu with table := s.apu.table.map (fun a =>
    if a.requester = some t then { a with requester := none } else a) } }
  (s, { withdrawn := waiting.length, unheld := held.length, watches := watching })

end Sys2Proof.Machine
end

