-- ==== Sys2Proof/Machine/Checks.lean ====
section
/-! DEFINITION. HELLO and the requests on checks (01 R11 to R18, 02 R33). -/

namespace Sys2Proof.Machine

/-- The outcome type of every meaning. -/
abbrev Out := Host.Outcome State Fault Refusal

/-- The body of an answer that reports a retirement: check number and outcome RETIRED (01 R16; log entry 12). -/
def retiredBody (number : Nat) : List Byte := be2 number ++ [Config.retiredByte]

/-- TAKEN with the summary of the check in a slot. -/
def State.takenSummary (s : State) (slot : Nat) : State × Reply := (s, reply .taken (s.summaryAt slot))

/-- HELLO (02 R33). -/
def execHello (h : Hdr) (s : State) : Out :=
  .next <| s.request h 0x01 .presence fun s =>
    (s, reply .taken (be1 (s.role h.term).toNat ++ be1 (s.sectionsMask h.term).toNat ++ be1 (s.setting 22)
      ++ countByte (s.pendCount h.term) ++ flagByte (!(s.hitSet h.term).isEmpty)))

/-- The slot a new check takes: the lowest free one (01 R1). -/
def State.freeSlot (s : State) : Option Nat := s.ckt.slots.findIdx? Option.isNone

/-- The number a new check takes (01 R2). -/
def State.freeNumber (s : State) : Nat :=
  let used := s.liveChecks.map Check.number
  firstFree used Config.maxCheckNumber (used.length + 1) s.ckt.nextNumber

/-- The check that OPEN CHECK creates (01 R11, 05 R80). -/
def newCheck (number table covers owner day minute : Nat) : Check where
  number := number
  table := table
  covers := covers
  owner := owner
  state := .opened
  holds := { manager := false, approval := false }
  version := 0
  openedDay := day
  openedMinute := minute
  aged := false
  agedAck := false
  nextLine := 1
  lines := []
  plan := { kind := .unsplit, count := 1, state := .locked, portions := freshPortions [0] [none] }
  tenders := []
  totals := { subtotal := 0, taxes := List.replicate 8 0, service := 0, total := 0 }
  closeFault := none
  splitFault := none

/-- A new check is placed in a slot and joins its table's list (01 R1, R2, R11). -/
def State.placeCheck (s : State) (slot : Nat) (c : Check) : State :=
  ({ s with ckt := { slots := s.ckt.slots.set slot (some c),
                     nextNumber := cycleSucc Config.maxCheckNumber c.number } }).seatAt c.table slot

/-- OPEN CHECK (01 R11). -/
def execOpenCheck (h : Hdr) (table covers owner : Nat) (s : State) : Out :=
  .next <| s.request h 0x10 .change fun s =>
    let server := s.isServer h.term
    let sect := s.sectionOf table
    judged s
      [(server && owner != 255 && owner != h.term, refuse .denied),
       (server && tableExists table && !s.works h.term sect, refuse .denied),
       (!server && owner != 255 && !s.mayOwn owner, rangeField 3),
       (!tableExists table, rangeField 1),
       (covers == 0 || decide (30 < covers), rangeField 2),
       (sect == 0, refuse .busy),
       (s.freeSlot.isNone, fullReply 1),
       (s.tableFull table, fullReply 2)]
      (let slot := s.freeSlot.getD 0
       (s.placeCheck slot (newCheck s.freeNumber table covers (if owner = 255 then h.term else owner)
          s.fck.day s.fck.minute)).takenSummary slot)

/-- READ CHECK (01 R12). -/
def execReadCheck (h : Hdr) (check : Nat) (s : State) : Out :=
  .next <| s.request h 0x11 .read fun s =>
    s.withCheck check fun slot c =>
      judged s [(!s.mayRead h.term c, refuse .denied)] (s.takenSummary slot)

/-- The figures found are written into the check of a slot and the version steps (01 R4, 03 R43). -/
def State.writeFigures (s : State) (slot : Nat) : Tally → State
  | .ok c => s.modCheck slot fun _ => c.stepVersion
  | _ => s

/-- UPDATE CHECK (01 R13); the total test is made in OPEN and PRESENTED (log entry 24). -/
def execUpdateCheck (h : Hdr) (check covers : Nat) (s : State) : Out :=
  .next <| s.request h 0x12 .change fun s =>
    s.withCheck check fun slot c =>
      let figures := recompute s.sst.work { c with covers }
      judged s
        [(!s.mayChange h.term c, refuse .denied),
         (covers == 0 || decide (30 < covers), rangeField 2),
         (c.orderable && figures.test.1, figures.test.2),
         (c.isStale h.ver, staleReply c),
         (c.held, refuse .held),
         (!c.orderable, refuse .busy)]
        ((s.writeFigures slot figures).takenSummary slot)

/-- PRESENT CHECK (01 R14). -/
def execPresentCheck (h : Hdr) (check : Nat) (s : State) : Out :=
  .next <| s.request h 0x13 .change fun s =>
    s.withCheck check fun slot c =>
      judged s
        [(!s.mayChange h.term c, refuse .denied),
         (c.isStale h.ver, staleReply c),
         (c.held, refuse .held),
         (decide (c.state ≠ .opened), refuse .busy)]
        (((s.modCheck slot fun c => { c.stepVersion with state := .presented }).handEvent
            c.number .presented).takenSummary slot)

/-- TRANSFER CHECK (01 R15). Where both parts are unchanged the RANGE detail names field 2, the target table: the
model's choice, which no rule states (log entry 16). -/
def execTransferCheck (h : Hdr) (check table owner : Nat) (s : State) : Out :=
  .next <| s.request h 0x14 .change fun s =>
    s.withCheck check fun slot c =>
      let server := s.isServer h.term
      let moves := movesTable c table
      let owns := changesOwner c owner
      let sect := s.sectionOf table
      let parks := server && owns
      judged s
        [(!s.mayChange h.term c, refuse .denied),
         (server && moves && tableExists table && !s.works h.term sect, refuse .denied),
         (moves && !tableExists table, rangeField 2),
         (owns && !s.mayOwn owner, rangeField 3),
         (!moves && !owns, rangeField 2),
         (c.isStale h.ver, staleReply c),
         (c.held, refuse .held),
         (c.closeRunning || (moves && sect == 0), refuse .busy),
         (moves && s.tableFull table, fullReply 2),
         (parks && s.approvalsFull, fullReply 7)]
        (if parks then
           s.park slot h.term (.transferCheck (if moves then table else 0) owner)
         else ((s.moveCheck slot c table owner).modCheck slot Check.stepVersion).takenSummary slot)

/-- VOID CHECK (01 R16). -/
def execVoidCheck (h : Hdr) (check : Nat) (s : State) : Out :=
  .next <| s.request h 0x15 .change fun s =>
    s.withCheck check fun slot c =>
      let parks := s.isServer h.term
      judged s
        [(!s.mayChange h.term c, refuse .denied),
         (c.isStale h.ver, staleReply c),
         (c.held, refuse .held),
         (s.anyPending c, refuse .pending),
         (!c.orderable, refuse .busy),
         (parks && s.approvalsFull, fullReply 7)]
        (if parks then s.park slot h.term .voidCheck
         else (s.retire slot, reply .taken (retiredBody c.number)))

/-- Tender i moves to CAPTURING and its CAPTURE need is placed (01 R17, R18; 07 R140). -/
def State.startCapture (s : State) (i : Nat) : State :=
  (s.modTender i fun t => { t with state := .capturing, captureFault := false }).placeNeed i .capture

/-- The check becomes CLOSING, its close-fault is removed, the version steps once, and the tenders given move to
CAPTURING in their order (01 R17, R18). -/
def State.startClose (s : State) (slot : Nat) (tenders : List Nat) : State :=
  tenders.foldl State.startCapture
    (s.modCheck slot fun c => { c.stepVersion with state := .closing, closeFault := none })

/-- The tenders of a check that satisfy a test, by pool index, in tender-list order. -/
def State.tenderIndexes (s : State) (c : Check) (p : Tender → Bool) : List Nat :=
  c.tenders.filter fun i => (s.tender? i).any p

/-- What an admitted CLOSE CHECK acts on: the AUTHORIZED tenders of a PAID check, the faulted ones of a CLOSE_FAULT
check, none of a check with total 0 (01 R17, R18). -/
def State.toCapture (s : State) (c : Check) : List Nat :=
  match c.state with
  | .paid => s.tenderIndexes c fun t => decide (t.state = .authorized)
  | .closeFault => s.tenderIndexes c Tender.faulted
  | _ => []

/-- CLOSE CHECK is admitted: OPEN and PRESENTED with total 0, PAID, CLOSE_FAULT (01 R8, R17). -/
def Check.mayClose (c : Check) : Bool :=
  (c.orderable && c.totals.total == 0) || decide (c.state = .paid) || decide (c.state = .closeFault)

/-- CLOSE CHECK (01 R17, R18). R17 names the check summary as the answer that takes a PAID check to CLOSING; that the
answer which takes CLOSE_FAULT back to CLOSING carries it too is the model's choice, since R18 names no body (log entry
15). -/
def execCloseCheck (h : Hdr) (check : Nat) (s : State) : Out :=
  .next <| s.request h 0x16 .change fun s =>
    s.withCheck check fun slot c =>
      let tenders := s.toCapture c
      judged s
        [(!s.mayChange h.term c, refuse .denied),
         (c.isStale h.ver, staleReply c),
         (c.held, refuse .held),
         (s.anyPending c, refuse .pending),
         (!c.mayClose, refuse .busy)]
        (if tenders.isEmpty then (s.retire slot, reply .taken (retiredBody c.number))
         else (s.startClose slot tenders).takenSummary slot)

end Sys2Proof.Machine
end

