-- ==== Sys2Proof/Machine/AcquirerCmds.lean ====
section
/-! DEFINITION. The Acquirer Port: CLEAR LINK FAULT, the frames it takes, timeouts, grants, NO_LINK completions and
the LINK_OK input (07). -/

namespace Sys2Proof.Machine

/-! ## Shared operations -/

/-- The link state that LINK_OK gives (07 R127, R143). -/
def linkOf (linkOk : Bool) : LinkState := if linkOk then .up else .down

/-- The consecutive-timeout count is set to 0 (07 R128). -/
def State.clearTimeouts (s : State) : State := { s with aqp := { s.aqp with timeouts := 0 } }

/-- A frame is discarded and counted (07 R126). -/
def State.discardFrame (s : State) : State :=
  { s with aqp := { s.aqp with discarded := satSucc s.aqp.discarded } }

/-- The Acquirer Port's receive side is ready for the first byte of a frame (10 R175, R187). -/
def State.acquirerReceives (s : State) : Bool := s.running && decide (s.gwp.assembler = .idle)

/-- The place in the exchange table of the entry with this tag (07 R136). -/
def State.entryIndex (s : State) (tag : Nat) : Option Nat :=
  s.aqp.entries.findIdx? fun o => o.any fun e => e.tag == tag

/-- The exchange in entry j, if it is in use. -/
def State.exchange? (s : State) (j : Nat) : Option Exchange := (s.aqp.entries[j]?).join

/-- Entry j is written or freed. -/
def State.setEntry (s : State) (j : Nat) (e : Option Exchange) : State :=
  { s with aqp := { s.aqp with entries := s.aqp.entries.set j e } }

/-! ## CLEAR LINK FAULT (07 R131) -/

/-- The count is 0 and a FAILED link follows LINK_OK (07 R127, R131). -/
def State.clearFault (s : State) : State :=
  let s := s.clearTimeouts
  if s.aqp.link = .failed then s.setLink (linkOf s.aqp.linkOk) else s

/-- The body of a CLEAR LINK FAULT answer. -/
def State.linkBody (s : State) : List Byte :=
  be1 s.aqp.link.toNat ++ countByte s.aqp.inUse ++ countByte s.aqp.queue.length
  ++ countByte (s.aqp.needs .reverse) ++ countByte (s.aqp.needs .capture)

/-- CLEAR LINK FAULT (07 R131); the grants that may follow are events of their own (log entry 8). -/
def execClearLinkFault (h : Hdr) (s : State) : Out :=
  .next <| s.request h 0x90 .floorServer fun s =>
    (s.clearFault, reply .taken s.clearFault.linkBody)

/-! ## RESULT and other frames (07 R126, R136; 10 R184) -/

/-- Bytes that are all 0 are taken as absent (10 R184). -/
def presentBytes (bs : List Byte) : Option (List Byte) := if bs.all (· == 0) then none else some bs

/-- The end that the body of a RESULT names: code 0 is APPROVED, every other code DECLINED or ERROR, which act alike
(07 R126, 06 R107 to R111). -/
def resultEnd (body : List Byte) : ExchangeEnd :=
  if body.getD 1 0 = 0 then .approved (presentBytes ((body.drop 2).take 12)) (presentBytes ((body.drop 14).take 6))
  else .refused

/-- A RESULT with a body of the right length is matched by its tag and its echoed kind (07 R136). -/
def State.matchResult (s : State) (tag : Nat) (body : List Byte) : State :=
  match s.entryIndex tag with
  | none => s.discardFrame
  | some j =>
    match s.exchange? j with
    | none => s.discardFrame
    | some e =>
      if (body.getD 0 0).toNat ≠ e.kind.toNat then s.discardFrame
      else ((s.setEntry j none).endExchange e.kind e.tender (resultEnd body)).flushPushes

/-- RESULT: every one sets the consecutive-timeout count to 0 (07 R128, R136; log entry 26 for a wrong LEN). -/
def execResult (tag : Nat) (body : List Byte) (s : State) : Out :=
  .next <|
    if !s.acquirerReceives then s
    else if body.length ≠ 20 then s.clearTimeouts.discardFrame
    else s.clearTimeouts.matchResult tag body

/-- A valid frame whose kind is not RESULT (07 R126); kind 0xC8 is no such frame. -/
def execNonResultFrame (kind : Nat) (s : State) : Out :=
  .next <| if s.acquirerReceives && kind != 0xC8 then s.discardFrame else s

/-! ## EXCHANGE TIMEOUT (07 R137) -/

/-- The count rises; at the setting the link becomes FAILED, a departure from UP completing the queued AUTH and
INCREMENT needs (07 R128, R129). -/
def State.raiseTimeouts (s : State) : State :=
  let limit := s.setting 18
  if s.aqp.timeouts + 1 < limit then { s with aqp := { s.aqp with timeouts := s.aqp.timeouts + 1 } }
  else
    let wasUp := decide (s.aqp.link = .up)
    let s := { s with aqp := { s.aqp with timeouts := limit, link := .failed } }
    if wasUp then s.departUp else s

/-- A test of the last tick has been made: its mark is removed (log entry 6). -/
def State.doneExchange (s : State) (tag : Nat) : State :=
  { s with due := { s.due with exchanges := s.due.exchanges.filter (· != tag) } }

/-- An entry that the tick found due is still due (07 R137). -/
def State.exchangeDue (s : State) (tag : Nat) (e : Exchange) : Bool :=
  s.running && s.due.exchanges.contains tag && decide (e.deadline ≤ s.now)

/-- EXCHANGE TIMEOUT, the steps of 07 R137 in order. -/
def execExchangeTimeout (tag : Nat) (s : State) : Out :=
  .next <|
    match s.entryIndex tag with
    | none => s
    | some j =>
      match s.exchange? j with
      | none => s
      | some e =>
        if s.exchangeDue tag e then
          ((((s.doneExchange tag).setEntry j none).raiseTimeouts).endExchange e.kind e.tender .timeout).flushPushes
        else s

/-! ## GRANT (07 R133 to R135) -/

/-- The tag of the next exchange: from the tag counter on, stepping past tags in use (07 R134). -/
def State.nextTag (s : State) : Nat :=
  let used := (s.aqp.entries.filterMap id).map Exchange.tag
  firstFree used 255 (used.length + 1) s.aqp.tagCounter

/-- The free exchange entry that a grant takes: the lowest (log entry 10). -/
def State.freeEntry (s : State) : Option Nat := s.aqp.entries.findIdx? Option.isNone

/-- The tender when its message is sent: sent is set, and an AUTH writes the AUTH tag (07 R125, R135). -/
def Tender.granted (t : Tender) (k : NeedKind) (tag : Nat) : Tender :=
  { t with sent := true, authTag := if k = .auth then some tag else t.authTag }

/-- The head of the frames that wait leaves as its wire bytes; with none nothing leaves (10 R176, R184, R185). -/
def GatewayPort.sendHead (p : GatewayPort) : GatewayPort :=
  match p.out with
  | [] => p
  | f :: fs => { p with out := fs, txd := f.wire }

/-- A granted message joins the frames that wait. At most 8 wait, one for each entry (10 R184): while 8 do, the head
frame leaves first, within the grant. DESIGN CHOICE (log entry 27): no rule says how the part makes the place. -/
def GatewayPort.sendMessage (p : GatewayPort) (f : Frame) : GatewayPort :=
  let p := if p.out.length < Config.exchangeEntries then p else p.sendHead
  { p with out := p.out ++ [f] }

/-- A need is granted entry j, the steps of 07 R135 in order. -/
def State.grantNeed (s : State) (j : Nat) (n : Need) (t : Tender) : State :=
  let tag := s.nextTag
  let amount := messageAmount t n.kind
  let entry : Exchange := { tag, tender := n.tender, kind := n.kind, amount, deadline := s.now + s.setting 16 }
  let frame := Frame.message tag n.kind.toNat (messageBody (s.numberAt t.slot) t n.kind amount)
  let s := { s with
    aqp := { s.aqp with queue := s.aqp.queue.tail, entries := s.aqp.entries.set j (some entry)
                        tagCounter := cycleSucc 255 tag }
    gwp := s.gwp.sendMessage frame }
  s.modTender n.tender fun t => t.granted n.kind tag

/-- A grant takes place: the link is UP, an entry is free and the queue is not empty (07 R133). -/
def State.mayGrant (s : State) : Bool :=
  s.running && decide (s.aqp.link = .up) && s.freeEntry.isSome && !s.aqp.queue.isEmpty

/-- GRANT to the head of the wait queue (07 R133); without its condition nothing is granted. -/
def execGrant (s : State) : Out :=
  .next <|
    if s.mayGrant then
      match s.aqp.queue with
      | [] => s
      | n :: _ =>
        match s.tender? n.tender with
        | none => s
        | some t => s.grantNeed (s.freeEntry.getD 0) n t
    else s

/-! ## NO LINK COMPLETION and LINK_OK (07 R127, R129, R130) -/

/-- NO LINK COMPLETION of the oldest queued AUTH or INCREMENT need while the link is not UP (07 R129; log entry 9). -/
def execNoLinkCompletion (s : State) : Out :=
  .next <|
    if s.running && decide (s.aqp.link ≠ .up) then
      match s.aqp.queue.find? fun n => n.kind.ofHold with
      | none => s
      | some n => (s.completeNoLink n).flushPushes
    else s

/-- The level of LINK_OK. -/
def State.setLinkOk (s : State) (b : Bool) : State := { s with aqp := { s.aqp with linkOk := b } }

/-- LINK_OK FALL: an UP link becomes DOWN and departs; a halted part only sees the level at its next start
(07 R127, R129). -/
def execLinkOkFall (s : State) : Out :=
  .next <|
    let up := s.running && decide (s.aqp.link = .up)
    let s := s.setLinkOk false
    if up then ((s.setLink .down).departUp).flushPushes else s

/-- LINK_OK RISE: a DOWN link becomes UP (07 R127, R130; log entry 8 for the grants). -/
def execLinkOkRise (s : State) : Out :=
  .next <|
    let down := s.running && decide (s.aqp.link = .down)
    let s := s.setLinkOk true
    if down then s.setLink .up else s

end Sys2Proof.Machine
end

