-- ==== Sys2Proof/Machine/Floor.lean ====
section
/-! DEFINITION. The floor server's requests on tables and terminals, and the silence of a terminal (02). -/

namespace Sys2Proof.Machine

/-- A save is in progress, which refuses the writes of the working copy (11 R192). -/
def State.saving (s : State) : Bool := decide (s.sst.save = .saving)

/-! ## SET TABLE (02 R34) -/

/-- The tables from first to last. -/
def tablesFrom (first last : Nat) : List Nat := List.range' first (last + 1 - first)

/-- Every table from first to last takes the section. -/
def State.setSections (s : State) (first last sect : Nat) : State :=
  s.setWork { s.sst.work with
    sections := (tablesFrom first last).foldl (fun l t => set1 l t sect) s.sst.work.sections }

/-- SET TABLE (02 R34). -/
def execSetTable (h : Hdr) (first last sect : Nat) (s : State) : Out :=
  .next <| s.request h 0x70 .floorServer fun s =>
    judged s
      [(first == 0, rangeField 1),
       (decide (Config.tableCount < last), rangeField 2),
       (decide (last < first), rangeField 2),
       (decide (8 < sect), rangeField 3),
       (s.saving, refuse .busy),
       (sect == 0 && (tablesFrom first last).any fun t => !(s.tableList t).isEmpty, refuse .busy)]
      (let changed := (tablesFrom first last).countP fun t => s.sectionOf t != sect
       (s.setSections first last sect, reply .taken (countByte changed)))

/-! ## SET TERMINAL (02 R37) -/

/-- The role and sections mask of a terminal are written. -/
def State.writeTerminal (s : State) (t : Nat) (role : Role) (mask : BitVec 8) : State :=
  s.setWork { s.sst.work with roles := set1 s.sst.work.roles t role, masks := set1 s.sst.work.masks t mask }

/-- What follows a change of a terminal's role (02 R37). -/
def State.roleChanged (s : State) (t : Nat) (old new : Role) : State :=
  match new with
  | .off => if old = .off then s.setPresent t false else (s.releaseTerminal t).1
  | .server => s
  | .manager =>
    if old ≠ .manager ∧ s.isPresent t ∧ s.apu.table ≠ [] then s.raise (.approvalWaiting t) else s

/-- SET TERMINAL (02 R37). -/
def execSetTerminal (h : Hdr) (terminal role mask : Nat) (s : State) : Out :=
  .next <| s.request h 0x71 .floorServer fun s =>
    let named := Role.ofNat? role
    let new := named.getD .off
    judged s
      [(!terminalExists terminal, rangeField 1),
       (named.isNone, rangeField 2),
       (s.saving, refuse .busy)]
      ((s.writeTerminal terminal new (BitVec.ofNat 8 mask)).roleChanged terminal (s.role terminal) new,
       reply .taken (be1 role ++ be1 mask))

/-! ## FORGET TERMINAL (02 R36) -/

/-- FORGET TERMINAL (02 R36). -/
def execForgetTerminal (h : Hdr) (terminal : Nat) (s : State) : Out :=
  .next <| s.request h 0x72 .floorServer fun s =>
    judged s [(!terminalExists terminal, rangeField 1)]
      (let r := s.releaseTerminal terminal
       (r.1, reply .taken (countByte r.2.withdrawn ++ countByte r.2.unheld ++ countByte r.2.watches)))

/-! ## READ TABLE (02 R38) -/

/-- One entry of a READ TABLE answer: check number, state, owner, version, and the hold reasons as the mask of
10 R185, which is 0 exactly when the check is not held (02 R38, 08 R144; log entry 14). -/
def seatedBytes (c : Check) : List Byte :=
  be2 c.number ++ be1 c.state.toNat ++ be1 c.owner ++ be2 c.version ++ be1 c.holds.toNat

/-- READ TABLE (02 R38). -/
def execReadTable (h : Hdr) (table : Nat) (s : State) : Out :=
  .next <| s.request h 0x73 .floorServer fun s =>
    judged s [(!tableExists table, rangeField 1)]
      (s, reply .taken
        (be1 (s.sectionOf table) ++ (((s.tableList table).filterMap s.check?).map seatedBytes).flatten))

/-! ## TERMINAL SILENCE (02 R29) -/

/-- Terminal t is PRESENT and was last heard at least the silence limit ago (02 R29). -/
def State.silent? (s : State) (t : Nat) : Bool := s.isPresent t && decide (s.lastHeard t + s.setting 20 ≤ s.now)

/-- TERMINAL SILENCE: a terminal that the tick found due, and that no frame has been heard from since, becomes SILENT;
nothing else changes. The limit was read at the tick (02 R29, 11 R189). -/
def execTerminalSilence (terminal : Nat) (s : State) : Out :=
  .next <|
    if s.running && s.due.silences.contains terminal && s.isPresent terminal then
      (s.doneSilence terminal).setPresent terminal false
    else s

end Sys2Proof.Machine
end

