-- ==== Sys2Proof/Machine/Holds.lean ====
section
/-! DEFINITION. Manager holds, the decision of parked changes, and the expiry of an approval record (08). -/

namespace Sys2Proof.Machine

/-- HOLD CHECK (08 R145). -/
def execHoldCheck (h : Hdr) (check : Nat) (s : State) : Out :=
  .next <| s.request h 0x50 .manager fun s =>
    s.withCheck check fun slot c =>
      judged s
        [(c.isStale h.ver, staleReply c),
         (decide (c.state = .closing), refuse .busy)]
        ((if c.holds.manager then s else s.addHold slot .manager).takenSummary slot)

/-- RELEASE CHECK (08 R146). -/
def execReleaseCheck (h : Hdr) (check : Nat) (s : State) : Out :=
  .next <| s.request h 0x51 .manager fun s =>
    s.withCheck check fun slot c =>
      judged s
        [(c.isStale h.ver, staleReply c),
         (!c.holds.manager, refuse .busy)]
        ((s.removeHold slot .manager).takenSummary slot)

/-- A request that names the approval record of a check: ABSENT when the check has none (08 R153). -/
def State.withApproval (s : State) (check : Nat) (k : Nat → Check → Approval → State × Reply) : State × Reply :=
  s.withCheck check fun slot c =>
    match s.approvalOf slot with
    | none => (s, refuse .absent)
    | some a => k slot c a

/-- A non-zero approval number other than the record's own (08 R153). -/
def Approval.misnamed (a : Approval) (number : Nat) : Bool := number != 0 && number != a.number

/-- The body of an APPROVE answer: approval number, outcome, then the summary, or the check number and RETIRED
(08 R153). -/
def State.approvedBody (s : State) (slot : Nat) (a : Approval) (check outcome : Nat) (retired : Bool) : List Byte :=
  be1 a.number ++ be1 outcome ++ (if retired then retiredBody check else s.summaryAt slot)

/-- APPROVE (08 R153 to R155); a MANAGER terminal cannot approve its own record (log entry 25). -/
def execApprove (h : Hdr) (check number : Nat) (s : State) : Out :=
  .next <| s.request h 0x52 .manager fun s =>
    s.withApproval check fun slot c a =>
      judged s
        [(h.term != 0 && decide (a.requester = some h.term), refuse .denied),
         (a.misnamed number, refuse .absent),
         (c.holds.manager, refuse .held)]
        (let r := s.approveRecord a c
         (r.1, reply .taken (r.1.approvedBody slot a c.number r.2.1 r.2.2)))

/-- REJECT (08 R156). -/
def execReject (h : Hdr) (check number : Nat) (s : State) : Out :=
  .next <| s.request h 0x53 .manager fun s =>
    s.withApproval check fun slot _ a =>
      judged s [(a.misnamed number, refuse .absent)]
        (let s := s.endApproval a 17
         (s, reply .taken (be1 a.number ++ s.summaryAt slot)))

/-- The approval record with this number. -/
def State.approvalNumbered (s : State) (number : Nat) : Option Approval :=
  s.apu.table.find? fun a => a.number == number

/-- A test of the last tick has been made: its mark is removed (log entry 6). -/
def State.doneApproval (s : State) (number : Nat) : State :=
  { s with due := { s.due with approvals := s.due.approvals.filter (· != number) } }

/-- A record that the tick found due is still due (08 R152). -/
def State.approvalDue (s : State) (number : Nat) (a : Approval) : Bool :=
  s.running && s.due.approvals.contains number && decide (a.deadline ≤ s.now)

/-- APPROVAL EXPIRY: a record whose deadline has come ends as EXPIRED (08 R152). -/
def execApprovalExpiry (number : Nat) (s : State) : Out :=
  .next <|
    match s.approvalNumbered number with
    | none => s
    | some a => if s.approvalDue number a then ((s.doneApproval number).endApproval a 18).flushPushes else s

end Sys2Proof.Machine
end

