-- ==== Sys2Proof/Machine/Lines.lean ====
section
/-! DEFINITION. The requests on lines (03). -/

namespace Sys2Proof.Machine

/-- The first field of an ADD LINES entry out of its range, counted from 1 (03 R44). -/
def LineEntry.badField (e : LineEntry) : Option Nat :=
  if 30 < e.seat then some 2
  else if e.quantity = 0 ∨ 99 < e.quantity then some 3
  else if 999999 < e.price then some 4
  else if e.cls = 0 ∨ 8 < e.cls then some 5
  else none

/-- The first entry that fails, counted from n, with its first failing field (03 R44). -/
def firstBadEntry : Nat → List LineEntry → Option (Nat × Nat)
  | _, [] => none
  | n, e :: es =>
    match LineEntry.badField e with
    | some f => some (n, f)
    | none => firstBadEntry (n + 1) es

/-- The line an entry becomes (03 R40). -/
def LineEntry.toLine (e : LineEntry) (number addedBy : Nat) : Line where
  number := number
  item := e.item
  seat := e.seat
  quantity := e.quantity
  price := e.price
  cls := e.cls
  discount := 0
  void := false
  addedBy := addedBy

/-- The lines a batch becomes, numbered from the next line number (03 R41). -/
def newLines (entries : List LineEntry) (first addedBy : Nat) : List Line :=
  entries.zipIdx.map fun (e, i) => LineEntry.toLine e (first + i) addedBy

/-- The check with a batch appended (03 R41, R46). -/
def Check.withLines (c : Check) (entries : List LineEntry) (addedBy : Nat) : Check :=
  { c with lines := c.lines ++ newLines entries c.nextLine addedBy, nextLine := c.nextLine + entries.length }

/-- A batch is taken: records leave the free list, the figures are written, the version steps, and a PRESENTED check
becomes OPEN with REOPENED handed on (03 R43, R47). -/
def State.takeLines (s : State) (slot : Nat) (c : Check) (n : Nat) (figures : Tally) : State :=
  let s := { s with freeLines := s.freeLines - n }
  let s := s.writeFigures slot figures
  if c.state = .presented then
    (s.modCheck slot fun c => { c with state := .opened }).handEvent c.number .reopened
  else s

/-- ADD LINES with a batch of 1 to 8 entries (03 R44 to R47). -/
def State.addBatch (s : State) (h : Hdr) (check : Nat) (entries : List LineEntry) : State × Reply :=
  s.withCheck check fun slot c =>
    let bad := firstBadEntry 1 entries
    let figures := recompute s.sst.work (c.withLines entries h.term)
    judged s
      [(!s.mayChange h.term c, refuse .denied),
       (bad.isSome, rangeEntry (bad.getD (0, 0)).1 (bad.getD (0, 0)).2),
       figures.test,
       (c.isStale h.ver, staleReply c),
       (c.held, refuse .held),
       (!c.orderable, refuse .busy),
       (decide (Config.maxLineNumber + 1 < c.nextLine + entries.length), fullReply 3),
       (decide (s.freeLines < entries.length), fullReply 4)]
      (let s := s.takeLines slot c entries.length figures
       (s, reply .taken (be1 c.nextLine ++ be1 entries.length ++ s.summaryAt slot)))

/-- ADD LINES (03 R46); a body that holds no whole number of entries from 1 to 8 is MALFORMED (10 R178). -/
def execAddLines (h : Hdr) (check : Nat) (entries : List LineEntry) (s : State) : Out :=
  .next <|
    if entries.length = 0 ∨ 8 < entries.length then s.malformedFrame h 0x20 3
    else s.request h 0x20 .change fun s => s.addBatch h check entries

/-- A parked line change is refused BUSY when the check already has a record and FULL when the table is full
(03 R50, R52). -/
def State.parkTests (s : State) (parks : Bool) (slot : Nat) : List (Bool × Reply) :=
  [(parks && (s.approvalOf slot).isSome, refuse .busy), (parks && s.approvalsFull, fullReply 7)]

/-- VOID LINE (03 R48 to R50). -/
def execVoidLine (h : Hdr) (check line : Nat) (s : State) : Out :=
  .next <| s.request h 0x21 .change fun s =>
    s.withCheck check fun slot c =>
      if !s.mayChange h.term c then (s, refuse .denied)
      else
        match c.line? line with
        | none => (s, refuse .absent)
        | some l =>
          let figures := recompute s.sst.work (c.withVoid line)
          let parks := s.isServer h.term && decide (c.state = .presented)
          judged s
            ([figures.test,
              (c.isStale h.ver, staleReply c),
              (c.held, refuse .held),
              (!c.orderable || l.void, refuse .busy)] ++ s.parkTests parks slot)
            (if parks then s.park slot h.term (.voidLine line)
             else
               let s := s.writeFigures slot figures
               (s, reply .taken (be1 line ++ be4 l.net ++ s.summaryAt slot)))

/-- DISCOUNT LINE (03 R51, R52). A SERVER's lowering of a discount to one that is still above the limit is parked: R52
tests the new discount alone, and yet says that a lowering is not parked; the model's choice (log entry 39). -/
def execDiscountLine (h : Hdr) (check line amount : Nat) (s : State) : Out :=
  .next <| s.request h 0x22 .change fun s =>
    s.withCheck check fun slot c =>
      if !s.mayChange h.term c then (s, refuse .denied)
      else
        match c.line? line with
        | none => (s, refuse .absent)
        | some l =>
          let applied := min amount l.gross
          let figures := recompute s.sst.work (c.withDiscount line applied)
          let parks := s.isServer h.term && decide (discountLimit s.sst.work l.gross < applied)
          judged s
            ([(decide (Config.maxAmount < amount), rangeField 3),
              figures.test,
              (c.isStale h.ver, staleReply c),
              (c.held, refuse .held),
              (!c.orderable || l.void, refuse .busy)] ++ s.parkTests parks slot)
            (if parks then s.park slot h.term (.discountLine line applied)
             else
               let s := s.writeFigures slot figures
               (s, reply .taken (be1 line ++ be4 amount ++ be4 applied ++ be4 (l.gross - applied)
                 ++ s.summaryAt slot)))

/-- Lists cut into pieces of at most n, at most fuel of them. -/
def chunks {α : Type} (n : Nat) : Nat → List α → List (List α)
  | 0, _ => []
  | fuel + 1, l => if l.length ≤ n then [l] else l.take n :: chunks n fuel (l.drop n)

/-- The bodies of a READ LINES answer: at most 10 entries in each frame, one empty frame for an empty range
(03 R54). -/
def Check.lineFrames (c : Check) (first last : Nat) : List (List Byte) :=
  let inRange := c.lines.filter fun l => decide (first ≤ l.number) && decide (l.number ≤ last)
  (chunks 10 12 inRange).map fun ls =>
    be2 c.number ++ be2 c.version ++ be1 ls.length ++ (ls.map lineBytes).flatten

/-- READ LINES (03 R54). -/
def execReadLines (h : Hdr) (check first last : Nat) (s : State) : Out :=
  .next <| s.request h 0x23 .read fun s =>
    s.withCheck check fun _ c =>
      judged s
        [(!s.mayRead h.term c, refuse .denied),
         (first == 0, rangeField 2),
         (decide (Config.maxLineNumber < last), rangeField 3),
         (decide (last < first), rangeField 3)]
        (s, { code := .taken, bodies := c.lineFrames first last })

end Sys2Proof.Machine
end

