-- ==== Sys2Proof/Decode.lean ====
section
/-! DEFINITION. From bytes to commands: the request frames of 10.6, with the encoder that writes them, and the table
word of the host's question. -/

namespace Sys2Proof

open Machine (be be1 ofBe)

/-- The command that a table word spells: spec/opcode_table.json gives no row any bits, so no word spells one. -/
def decodeTableWord (_nbits _w : Nat) : Option Instr := none

/-! ## Fields of a body (10 R185) -/

/-- A body cut into big-endian fields of the given sizes; none when its length differs from their sum. -/
def fields : List Nat → List Byte → Option (List Nat)
  | [], [] => some []
  | [], _ :: _ => none
  | n :: ns, bs => if bs.length < n then none else (fields ns (bs.drop n)).map (ofBe (bs.take n) :: ·)

/-- Values written as big-endian fields of the given sizes. -/
def pack : List Nat → List Nat → List Byte
  | n :: ns, v :: vs => be n v ++ pack ns vs
  | _, _ => []

/-! ## ADD LINES entries (10.6) -/

/-- The sizes of an entry's fields. -/
def entrySizes : List Nat := [3, 1, 1, 3, 1]

/-- One entry of 9 bytes. -/
def decodeEntry (bs : List Byte) : Option LineEntry :=
  match fields entrySizes bs with
  | some [item, seat, quantity, price, cls] => some { item, seat, quantity, price, cls }
  | _ => none

/-- One entry as 9 bytes. -/
def encodeEntry (e : LineEntry) : List Byte := pack entrySizes [e.item, e.seat, e.quantity, e.price, e.cls]

/-- n entries of 9 bytes each; none when the bytes are not exactly that many. -/
def decodeEntries : Nat → List Byte → Option (List LineEntry)
  | 0, [] => some []
  | 0, _ :: _ => none
  | n + 1, bs =>
    match decodeEntry (bs.take 9), decodeEntries n (bs.drop 9) with
    | some e, some es => some (e :: es)
    | _, _ => none

/-! ## Request bodies (10.6) -/

/-- The body lengths that a request kind may have; none for a kind that the table of 10.6 does not have. -/
def bodyLengths : Nat → List Nat
  | 0x01 => [0]
  | 0x10 => [4]
  | 0x11 => [2]
  | 0x12 => [3]
  | 0x13 => [2]
  | 0x14 => [5]
  | 0x15 => [2]
  | 0x16 => [2]
  | 0x20 => [11, 20, 29, 38, 47, 56, 65, 74]
  | 0x21 => [3]
  | 0x22 => [7]
  | 0x23 => [4]
  | 0x30 => [4]
  | 0x31 => [7]
  | 0x32 => [2]
  | 0x40 => [40]
  | 0x41 => [8]
  | 0x42 => [3]
  | 0x43 => [3]
  | 0x44 => [3]
  | 0x50 => [2]
  | 0x51 => [2]
  | 0x52 => [3]
  | 0x53 => [3]
  | 0x60 => [3]
  | 0x61 => [2]
  | 0x62 => [0]
  | 0x68 => [0]
  | 0x69 => [1]
  | 0x70 => [5]
  | 0x71 => [3]
  | 0x72 => [1]
  | 0x73 => [2]
  | 0x80 => [5]
  | 0x81 => [1]
  | 0x82 => [0]
  | 0x83 => [1]
  | 0x84 => [4]
  | 0x85 => [0]
  | 0x90 => [0]
  | _ => []

/-- The requests whose body is fields alone, by kind. -/
def decodeFields (h : Hdr) (kind : Nat) (vs : List Nat) : Option Instr :=
  match kind, vs with
  | 0x01, [] => some (.hello h)
  | 0x10, [table, covers, owner] => some (.openCheck h table covers owner)
  | 0x11, [check] => some (.readCheck h check)
  | 0x12, [check, covers] => some (.updateCheck h check covers)
  | 0x13, [check] => some (.presentCheck h check)
  | 0x14, [check, table, owner] => some (.transferCheck h check table owner)
  | 0x15, [check] => some (.voidCheck h check)
  | 0x16, [check] => some (.closeCheck h check)
  | 0x21, [check, line] => some (.voidLine h check line)
  | 0x22, [check, line, amount] => some (.discountLine h check line amount)
  | 0x23, [check, first, last] => some (.readLines h check first last)
  | 0x30, [check, plan, count] => some (.setSplit h check plan count)
  | 0x31, [check, portion, amount] => some (.setPortion h check portion amount)
  | 0x32, [check] => some (.lockSplit h check)
  | 0x41, [check, tender, form, figure] => some (.submitTip h check tender form figure)
  | 0x42, [check, tender] => some (.withdrawTender h check tender)
  | 0x43, [check, tender] => some (.fetchStatus h check tender)
  | 0x44, [check, tender] => some (.abandonTender h check tender)
  | 0x50, [check] => some (.holdCheck h check)
  | 0x51, [check] => some (.releaseCheck h check)
  | 0x52, [check, number] => some (.approve h check number)
  | 0x53, [check, number] => some (.reject h check number)
  | 0x60, [check, mask] => some (.setWatch h check mask)
  | 0x61, [check] => some (.dropWatch h check)
  | 0x62, [] => some (.fetchHits h)
  | 0x68, [] => some (.fetchNextPending h)
  | 0x69, [source] => some (if source = 12 then .ackNoticeAged h else .ackNoticeStartup h source)
  | 0x70, [first, last, sect] => some (.setTable h first last sect)
  | 0x71, [terminal, role, mask] => some (.setTerminal h terminal role mask)
  | 0x72, [terminal] => some (.forgetTerminal h terminal)
  | 0x73, [table] => some (.readTable h table)
  | 0x80, [number, value] => some (.setSetting h number value)
  | 0x81, [number] => some (.readSetting h number)
  | 0x82, [] => some (.saveSettings h)
  | 0x83, [source] => some (.loadSettings h source)
  | 0x84, [day, minute] => some (.setClock h day minute)
  | 0x85, [] => some (.readPartStatus h)
  | 0x90, [] => some (.clearLinkFault h)
  | _, _ => none

/-- The sizes of a request's body fields, by kind (10.6); ADD LINES and START TENDER carry more after theirs. -/
def fieldSizes : Nat → List Nat
  | 0x10 => [2, 1, 1]
  | 0x11 => [2]
  | 0x12 => [2, 1]
  | 0x13 => [2]
  | 0x14 => [2, 2, 1]
  | 0x15 => [2]
  | 0x16 => [2]
  | 0x21 => [2, 1]
  | 0x22 => [2, 1, 4]
  | 0x23 => [2, 1, 1]
  | 0x30 => [2, 1, 1]
  | 0x31 => [2, 1, 4]
  | 0x32 => [2]
  | 0x41 => [2, 1, 1, 4]
  | 0x42 => [2, 1]
  | 0x43 => [2, 1]
  | 0x44 => [2, 1]
  | 0x50 => [2]
  | 0x51 => [2]
  | 0x52 => [2, 1]
  | 0x53 => [2, 1]
  | 0x60 => [2, 1]
  | 0x61 => [2]
  | 0x69 => [1]
  | 0x70 => [2, 2, 1]
  | 0x71 => [1, 1, 1]
  | 0x72 => [1]
  | 0x73 => [2]
  | 0x80 => [1, 4]
  | 0x81 => [1]
  | 0x83 => [1]
  | 0x84 => [2, 2]
  | _ => []

/-- The request that a kind and a body spell; none for an unknown kind or a wrong length (10 R178). -/
def decodeBody (h : Hdr) (kind : Nat) (body : List Byte) : Option Instr :=
  if kind = 0x20 then
    match fields [2] (body.take 2), decodeEntries ((body.length - 2) / 9) (body.drop 2) with
    | some [check], some entries =>
      if 1 ≤ entries.length ∧ entries.length ≤ 8 then some (.addLines h check entries) else none
    | _, _ => none
  else if kind = 0x40 then
    match fields [2, 1, 1, 4] (body.take 8) with
    | some [check, portion, form, amount] =>
      if body.length = 40 then some (.startTender h check portion form amount (body.drop 8)) else none
    | _ => none
  else
    match fields (fieldSizes kind) body with
    | some vs => decodeFields h kind vs
    | none => none

/-- The command that the bytes from TERM to the last body byte of a request frame spell (10 R178, R185). A TAG of 0,
an unknown kind and a wrong length spell the commands that stand for them. None: fewer than the 5 header bytes. -/
def decodeRequest (port : ReqPort) (content : List Byte) : Option Instr :=
  match fields [1, 1, 1, 2] (content.take 5) with
  | some [term, tag, kind, ver] =>
    let h : Hdr := { port, term, tag, ver }
    let body := content.drop 5
    if tag = 0 then some (.tagZeroFrame port)
    else some ((decodeBody h kind body).getD (.malformedRequest h kind body.length))
  | _ => none

/-! ## The encoder of request frames (10.6) -/

/-- The header, the kind and the body of a request; none for a command that is no well-formed request frame. -/
def requestParts : Instr → Option (Hdr × Nat × List Byte)
  | .hello h => some (h, 0x01, [])
  | .openCheck h table covers owner => some (h, 0x10, pack [2, 1, 1] [table, covers, owner])
  | .readCheck h check => some (h, 0x11, pack [2] [check])
  | .updateCheck h check covers => some (h, 0x12, pack [2, 1] [check, covers])
  | .presentCheck h check => some (h, 0x13, pack [2] [check])
  | .transferCheck h check table owner => some (h, 0x14, pack [2, 2, 1] [check, table, owner])
  | .voidCheck h check => some (h, 0x15, pack [2] [check])
  | .closeCheck h check => some (h, 0x16, pack [2] [check])
  | .addLines h check entries => some (h, 0x20, pack [2] [check] ++ (entries.map encodeEntry).flatten)
  | .voidLine h check line => some (h, 0x21, pack [2, 1] [check, line])
  | .discountLine h check line amount => some (h, 0x22, pack [2, 1, 4] [check, line, amount])
  | .readLines h check first last => some (h, 0x23, pack [2, 1, 1] [check, first, last])
  | .setSplit h check kind count => some (h, 0x30, pack [2, 1, 1] [check, kind, count])
  | .setPortion h check portion amount => some (h, 0x31, pack [2, 1, 4] [check, portion, amount])
  | .lockSplit h check => some (h, 0x32, pack [2] [check])
  | .startTender h check portion kind amount token =>
    some (h, 0x40, pack [2, 1, 1, 4] [check, portion, kind, amount] ++ token)
  | .submitTip h check tender form figure => some (h, 0x41, pack [2, 1, 1, 4] [check, tender, form, figure])
  | .withdrawTender h check tender => some (h, 0x42, pack [2, 1] [check, tender])
  | .fetchStatus h check tender => some (h, 0x43, pack [2, 1] [check, tender])
  | .abandonTender h check tender => some (h, 0x44, pack [2, 1] [check, tender])
  | .holdCheck h check => some (h, 0x50, pack [2] [check])
  | .releaseCheck h check => some (h, 0x51, pack [2] [check])
  | .approve h check number => some (h, 0x52, pack [2, 1] [check, number])
  | .reject h check number => some (h, 0x53, pack [2, 1] [check, number])
  | .setWatch h check mask => some (h, 0x60, pack [2, 1] [check, mask])
  | .dropWatch h check => some (h, 0x61, pack [2] [check])
  | .fetchHits h => some (h, 0x62, [])
  | .fetchNextPending h => some (h, 0x68, [])
  | .ackNoticeStartup h source => some (h, 0x69, pack [1] [source])
  | .ackNoticeAged h => some (h, 0x69, pack [1] [12])
  | .setTable h first last sect => some (h, 0x70, pack [2, 2, 1] [first, last, sect])
  | .setTerminal h terminal role mask => some (h, 0x71, pack [1, 1, 1] [terminal, role, mask])
  | .forgetTerminal h terminal => some (h, 0x72, pack [1] [terminal])
  | .readTable h table => some (h, 0x73, pack [2] [table])
  | .setSetting h number value => some (h, 0x80, pack [1, 4] [number, value])
  | .readSetting h number => some (h, 0x81, pack [1] [number])
  | .saveSettings h => some (h, 0x82, [])
  | .loadSettings h source => some (h, 0x83, pack [1] [source])
  | .setClock h day minute => some (h, 0x84, pack [2, 2] [day, minute])
  | .readPartStatus h => some (h, 0x85, [])
  | .clearLinkFault h => some (h, 0x90, [])
  | .malformedRequest _ _ _ => none
  | .tagZeroFrame _ => none
  | .crcErrorFrame _ => none
  | .frameLenError _ _ => none
  | .frameIdleTimeout _ _ => none
  | .requestOverrun _ => none
  | .fhpTransaction _ => none
  | .outputFrameSent _ => none
  | .result _ _ => none
  | .nonResultFrame _ => none
  | .exchangeTimeout _ => none
  | .grant => none
  | .noLinkCompletion => none
  | .linkOkFall => none
  | .linkOkRise => none
  | .leaseExpiry _ _ => none
  | .approvalExpiry _ => none
  | .terminalSilence _ => none
  | .checkAged _ => none
  | .secondTick => none
  | .minuteTick => none
  | .saveEnd _ => none
  | .resetAssert _ => none
  | .coldStart _ => none
  | .warmStart _ => none
  | .clockAdvanceWithoutPower _ => none
  | .retentionIndicatorLost => none

/-- The bytes from TERM to the last body byte of a request frame. -/
def encodeRequest (i : Instr) : Option (List Byte) :=
  (requestParts i).map fun (h, kind, body) => pack [1, 1, 1, 2] [h.term, h.tag, kind, h.ver] ++ body

/-- A whole request frame on the wire, with its LEN and CRC (10 R176, R185). -/
def requestWire (i : Instr) : Option (List Byte) := (encodeRequest i).map Machine.frameWire

end Sys2Proof
end

