-- ==== Sys2Proof/Machine/SettingsCmds.lean ====
section
/-! DEFINITION. The working settings, the stored areas, the floor clock's setting and the part status (11). -/

namespace Sys2Proof.Machine

/-! ## Stored areas (11 R191) -/

/-- The bytes of an area's contents over which its CRC-32 is taken (log entry 21): settings 1 to 23 as 4 bytes each,
the 400 table sections, the 48 roles, the 48 sections masks. -/
def RawCopy.image (c : RawCopy) : List Byte :=
  (c.values.map be4).flatten ++ (c.sections.map be1).flatten ++ (c.roles.map be1).flatten ++ c.masks

/-- An area is valid when its CRC matches its contents (11 R191). -/
def Area.valid (a : Area) : Bool := crc32 a.contents.image == a.crc

/-- The working copy as the contents of an area. -/
def Settings.toRaw (w : Settings) : RawCopy where
  values := w.values
  sections := w.sections
  roles := w.roles.map Role.toNat
  masks := w.masks

/-- The working copy that a valid area gives: values clamped, a section above 8 taken as 0, an unknown role as OFF
(11 R191). -/
def RawCopy.toSettings (c : RawCopy) : Settings where
  values := c.values.zipIdx.map fun (v, i) => clampSetting (i + 1) v
  sections := c.sections.map fun x => if 8 < x then 0 else x
  roles := c.roles.map fun r => (Role.ofNat? r).getD .off
  masks := c.masks

/-- The contents and CRC-32 written for a working copy (11 R191, R192). -/
def Settings.toArea (w : Settings) : Area := { contents := w.toRaw, crc := crc32 w.toRaw.image }

/-- An area that can be used: present and valid. -/
def usable (a : Option Area) : Option Area := a.filter Area.valid

/-! ## SET SETTING and READ SETTING (11 R189, R190) -/

/-- A number names a setting. -/
def settingExists (n : Nat) : Bool := decide (1 ≤ n) && decide (n ≤ 23)

/-- SET SETTING (11 R189). -/
def execSetSetting (h : Hdr) (number value : Nat) (s : State) : Out :=
  .next <| s.request h 0x80 .floorServer fun s =>
    judged s
      [(!settingExists number, rangeField 1),
       (s.saving, refuse .busy),
       (decide (number ≤ 11) && s.anyLive, refuse .busy)]
      (s.setWork (s.sst.work.write number value),
       reply .taken (be1 number ++ be4 value ++ be4 (clampSetting number value)))

/-- READ SETTING (11 R190). -/
def execReadSetting (h : Hdr) (number : Nat) (s : State) : Out :=
  .next <| s.request h 0x81 .floorServer fun s =>
    judged s [(!settingExists number, rangeField 1)]
      (s, reply .taken (be1 number ++ be4 (s.setting number)
        ++ be4 (settingBounds number).1 ++ be4 (settingBounds number).2))

/-! ## SAVE SETTINGS and its end (11 R192) -/

/-- A save starts: the copy is taken and the site area is no longer valid. -/
def State.startSave (s : State) : State :=
  { s with sst := { s.sst with saveCopy := some s.sst.work, site := none, save := .saving } }

/-- SAVE SETTINGS (11 R192). -/
def execSaveSettings (h : Hdr) (s : State) : Out :=
  .next <| s.request h 0x82 .floorServer fun s =>
    judged s [(s.saving, refuse .busy)] (s.startSave, reply .taken [])

/-- A save ends with the site area verified, or left invalid. -/
def State.finishSave (s : State) (matched : Bool) : State :=
  { s with sst := { s.sst with
      site := if matched then s.sst.saveCopy.map Settings.toArea else none
      save := if matched then .idle else .failed
      saveCopy := none } }

/-- SAVE END (11 R192); without a save in progress nothing ends. -/
def execSaveEnd (matched : Bool) (s : State) : Out :=
  .next <| if s.running && s.saving then s.finishSave matched else s

/-! ## LOAD SETTINGS (11 R193) -/

/-- The area that a source byte names, with its area-loaded figure (10 R185). -/
def State.sourceArea (s : State) : Nat → Option (Option Area × LoadedFrom)
  | 0 => some (s.sst.site, .site)
  | 1 => some (s.sst.factory, .factory)
  | _ => none

/-- The terminals that a new working copy turns OFF (11 R193). -/
def State.turnedOff (s : State) (w : Settings) : List Nat :=
  (List.range' 1 Config.terminalCount).filter fun t => s.role t != .off && get1 w.roles t .off == .off

/-- The whole working copy is replaced, and the terminals it turns OFF are released (11 R193). -/
def State.loadCopy (s : State) (w : Settings) (loaded : LoadedFrom) : State :=
  let off := s.turnedOff w
  let s := { s with sst := { s.sst with work := w, loaded } }
  off.foldl (fun s t => (s.releaseTerminal t).1) s

/-- LOAD SETTINGS (11 R193). -/
def execLoadSettings (h : Hdr) (source : Nat) (s : State) : Out :=
  .next <| s.request h 0x83 .floorServer fun s =>
    match s.sourceArea source with
    | none => (s, rangeField 1)
    | some (area, loaded) =>
      match usable area with
      | none => (s, refuse .absent)
      | some a =>
        let w := a.contents.toSettings
        judged s [(s.saving || s.anyLive, refuse .busy)]
          (s.loadCopy w loaded, reply .taken (be1 source ++ countByte (s.turnedOff w).length))

/-! ## SET CLOCK and READ PART STATUS (11 R195, 10 R186) -/

/-- The minute clock is set: seconds 0, clock-unset cleared. -/
def State.setClock (s : State) (day minute : Nat) : State :=
  { s with fck := { s.fck with day, minute, second := 0, unset := false } }

/-- SET CLOCK (11 R195). That "the clock as set" of the answer is the day and the minute, with no seconds and no
clock-unset flag, is the model's choice, since no rule names its fields (log entry 14). -/
def execSetClock (h : Hdr) (day minute : Nat) (s : State) : Out :=
  .next <| s.request h 0x84 .floorServer fun s =>
    judged s [(decide (1439 < minute), rangeField 2)]
      (s.setClock day minute, reply .taken (be2 day ++ be2 minute))

/-- READ PART STATUS, in three frames (10 R186). -/
def execReadPartStatus (h : Hdr) (s : State) : Out :=
  .next <| s.request h 0x85 .floorServer fun s =>
    (s, { code := .taken, bodies := [s.statusPart0, s.statusPart1, s.statusPart2] })

end Sys2Proof.Machine
end

