-- ==== Sys2Proof/Machine/Splits.lean ====
section
/-! DEFINITION. The requests on split plans (05 R82 to R86). -/

namespace Sys2Proof.Machine

/-- A SET SPLIT count outside the range of its kind; NONE and BY_SEAT ignore it (05 R82). -/
def badSplitCount : PlanKind → Nat → Bool
  | .even, n => decide (n < 2) || decide (20 < n)
  | .custom, n => decide (n < 2) || decide (8 < n)
  | _, _ => false

/-- SET SPLIT (05 R82, R83), writing the totals and shares computed anew (04 R71). -/
def execSetSplit (h : Hdr) (check kind count : Nat) (s : State) : Out :=
  .next <| s.request h 0x30 .change fun s =>
    s.withCheck check fun slot c =>
      let named := PlanKind.ofNat? kind
      let k := named.getD .unsplit
      let seats := (seatsPresent c.lines).length
      judged s
        [(!s.mayChange h.term c, refuse .denied),
         (named.isNone, rangeField 2),
         (badSplitCount k count, rangeField 3),
         (decide (k = .bySeat) && badSeatCount seats, rangeSeats seats),
         (c.isStale h.ver, staleReply c),
         (c.held, refuse .held),
         (!c.orderable, refuse .busy)]
        ((s.modCheck slot fun c =>
            { c.stepVersion with
              totals := totalsOf s.sst.work c.covers c.lines
              plan := buildPlan s.sst.work c.covers c.lines k count, splitFault := none }).takenSummary slot)

/-- The plan with one CUSTOM amount entered, which makes it DRAFT (05 R84). -/
def Plan.enter (p : Plan) (portion amount : Nat) : Plan :=
  { p with
    state := .draft
    portions := p.portions.map fun q => if q.number = portion then { q with share := amount } else q }

/-- SET PORTION (05 R84). The answer carries the exact sum of the amounts, also where it passes 99,999,999: the model's
choice beside 04 R56 (log entry 36). -/
def execSetPortion (h : Hdr) (check portion amount : Nat) (s : State) : Out :=
  .next <| s.request h 0x31 .change fun s =>
    s.withCheck check fun slot c =>
      let custom := decide (c.plan.kind = .custom)
      let plan := c.plan.enter portion amount
      judged s
        [(!s.mayChange h.term c, refuse .denied),
         (portion == 0 || decide (20 < portion), rangeField 2),
         (decide (c.totals.total < amount), rangeField 3),
         (custom && decide (c.plan.count < portion), rangeField 2),
         (c.isStale h.ver, staleReply c),
         (c.held, refuse .held),
         (!c.orderable || !custom, refuse .busy)]
        (s.modCheck slot fun c => { c.stepVersion with plan },
         reply .taken (be1 portion ++ be4 amount ++ be4 plan.shareSum ++ be4 c.totals.total))

/-- LOCK SPLIT (05 R85): a combined check that fails answers RANGE and, when the request would otherwise have been
admitted, writes the split-fault record. -/
def execLockSplit (h : Hdr) (check : Nat) (s : State) : Out :=
  .next <| s.request h 0x32 .change fun s =>
    s.withCheck check fun slot c =>
      let custom := decide (c.plan.kind = .custom)
      let admitted := !c.isStale h.ver && !c.held && c.orderable
      let fault := splitFaultOf c.plan.shareSum c.totals.total
      if !s.mayChange h.term c then (s, refuse .denied)
      else if custom && c.plan.shareSum != c.totals.total then
        (if admitted then s.modCheck slot fun c => { c with splitFault := some fault } else s, rangeSplit fault)
      else
        judged s
          [(c.isStale h.ver, staleReply c),
           (c.held, refuse .held),
           (!c.orderable || !custom, refuse .busy)]
          ((s.modCheck slot fun c =>
              { c.stepVersion with
                plan := { c.plan with state := .locked }, splitFault := none }).takenSummary slot)

end Sys2Proof.Machine
end

