-- ==== Sys2Proof/Machine/Tenders.lean ====
section
/-! DEFINITION. The requests on tenders (06). -/

namespace Sys2Proof.Machine

/-! ## START TENDER (06 R100 to R102) -/

/-- The money counted against the portion; none where the balance test fails (04 R72, R73; log entry 23). -/
def startAmount (kind : TenderKind) (asked balance : Nat) : Option Nat :=
  if Config.maxAmount < asked then none
  else
    match kind with
    | .cash => (cashFigures asked balance).map fun f => f.2.1
    | _ => cardAmount asked balance

/-- A new tender of any kind, as it stands before its kind is looked at (06 R97, R99). -/
def newTender (slot number portion : Nat) (kind : TenderKind) (holder : Option Nat) (noticeClass amount : Nat) :
    Tender where
  slot := slot
  number := number
  portion := portion
  kind := kind
  state := .tipWait
  holder := holder
  noticeClass := noticeClass
  amount := amount
  tip := 0
  heldTip := none
  authTotal := none
  tolerance := none
  authAmount := none
  acqRef := none
  approvalCode := none
  token := none
  cashGiven := none
  change := none
  withdrawRequested := false
  deferredWithdraw := false
  sent := false
  captureFault := false
  attempts := 0
  primary := none
  latest := none
  authTag := none
  lease := .absent

/-- A CASH tender that has ended PAID_CASH (06 R101). -/
def Tender.asCash (t : Tender) (asked balance : Nat) : Tender :=
  let given := if asked = 0 then balance else asked
  { t with state := .done .paidCash, cashGiven := some given, change := some (given - t.amount) }

/-- A CARD_TIP_FIRST tender in TIP_WAIT with its lease (06 R102, 05 R91). -/
def Tender.asTipFirst (t : Tender) (token : List Byte) (deadline : Nat) : Tender :=
  { t with state := .tipWait, token := some token, lease := .running deadline }

/-- A CARD_TIP_LATER tender in AUTHORIZING (AUTH) (06 R102, 04 R78). -/
def Tender.asTipLater (t : Tender) (token : List Byte) : Tender :=
  { t with state := .authorizing .auth, token := some token, authAmount := some t.amount }

/-- The free tender record with the lowest pool index (06 R96). -/
def State.freeTenderIndex (s : State) : Option Nat := s.tdu.pool.findIdx? Option.isNone

/-- A portion against which a new tender counts; a card tender takes the claim (05 R87, R90). -/
def Portion.begin (p : Portion) (i : Nat) (t : Tender) : Portion :=
  { p with counted := p.counted + t.amount
           claim := if t.state.claims then some i else p.claim }

/-- A new tender takes record i, joins its check's list and counts; the version steps once and the state is derived
(06 R101, R102; 05 R88). -/
def State.beginTender (s : State) (i : Nat) (t : Tender) : State :=
  let s := { s with tdu := { s.tdu with pool := s.tdu.pool.set i (some t) } }
  let s := s.modCheck t.slot fun c =>
    { c.stepVersion with
      tenders := c.tenders ++ [i]
      plan := { c.plan with portions := c.plan.portions.map fun q =>
        if q.number = t.portion then q.begin i t else q } }
  s.derive true t.slot

/-- What a TAKEN START TENDER does, by kind (06 R101, R102). -/
def State.startTender (s : State) (i : Nat) (t : Tender) (kind : TenderKind) (asked balance : Nat)
    (token : List Byte) : State :=
  match kind with
  | .cash => s.beginTender i (t.asCash asked balance)
  | .tipFirst => s.beginTender i (t.asTipFirst token (s.now + s.setting 15))
  | .tipLater => (s.beginTender i (t.asTipLater token)).placeNeed i .auth

/-- The terminal that a START TENDER makes the holder (06 R99). -/
def holderOf (term : Nat) : Option Nat := if term = 0 then none else some term

/-- A check that admits no START TENDER: PAID, CLOSING, CLOSE_FAULT, or a CUSTOM plan in DRAFT (06 R100). -/
def Check.startBusy (c : Check) : Bool :=
  decide (c.state = .paid) || c.closeRunning || decide (c.plan.state = .draft)

/-- START TENDER on a check (06 R100). -/
def State.tryTender (s : State) (h : Hdr) (check portion kind asked : Nat) (token : List Byte) : State × Reply :=
  s.withCheck check fun slot c =>
    let named := TenderKind.ofNat? kind
    let k := named.getD .cash
    let p := if portion ≤ c.plan.count then c.plan.portion? portion else none
    let balance := (p.map Portion.balance).getD 0
    let amount := startAmount k asked balance
    let free := s.freeTenderIndex
    judged s
      [(!s.mayChange h.term c, refuse .denied),
       (named.isNone, rangeField 3),
       (p.isNone, rangeField 2),
       (decide (Config.maxAmount < asked), rangeField 4),
       (amount.isNone, rangeBalance balance),
       (c.isStale h.ver, staleReply c),
       (c.held, refuse .held),
       (p.any fun q => q.claim.isSome, refuse .claimed),
       (c.startBusy, refuse .busy),
       (decide (Config.tenderListMax ≤ c.tenders.length), fullReply 5),
       (free.isNone, fullReply 6)]
      (let i := free.getD 0
       let number := c.tenders.length + 1
       let t := newTender slot number portion k (holderOf h.term) (s.sectionOf c.table) (amount.getD 0)
       let s := s.startTender i t k asked balance token
       (s, reply .taken (be1 number ++ s.tenderBody i)))

/-- START TENDER (06 R100 to R102); a token that is not 32 bytes makes a body of a wrong length (10 R178). -/
def execStartTender (h : Hdr) (check portion kind amount : Nat) (token : List Byte) (s : State) : Out :=
  .next <|
    if token.length ≠ 32 then s.malformedFrame h 0x40 3
    else s.request h 0x40 .change fun s => s.tryTender h check portion kind amount token

/-! ## SUBMIT TIP (06 R104 to R106) -/

/-- The tip moves a TIP_WAIT tender to AUTHORIZING (AUTH) for amount plus tip (06 R105). -/
def Tender.tipGiven (t : Tender) (tip : Nat) : Tender :=
  { t with tip, authAmount := some (t.amount + tip), state := .authorizing .auth, lease := .absent }

/-- The tip is held while an INCREMENT runs (06 R106). -/
def Tender.tipHeld (t : Tender) (tip : Nat) : Tender :=
  { t with heldTip := some tip, state := .authorizing .increment }

/-- Amount plus the new tip is above the hold ceiling of an AUTHORIZED tender (04 R77). -/
def Tender.needsIncrement (t : Tender) (tip : Nat) : Bool :=
  decide (t.state = .authorized) && decide (t.ceiling.getD 0 < t.amount + tip)

/-- What a TAKEN SUBMIT TIP does (06 R105, R106). -/
def State.takeTip (s : State) (i : Nat) (t : Tender) (tip : Nat) : State :=
  if t.state = .tipWait then (s.tenderEvent i fun t => t.tipGiven tip).placeNeed i .auth
  else if t.needsIncrement tip then (s.tenderEvent i fun t => t.tipHeld tip).placeNeed i .increment
  else if tip = t.tip then s
  else s.tenderEvent i fun t => { t with tip }

/-- A tender in AUTHORIZING, REVERSING or CAPTURING. -/
def TenderState.exchanging : TenderState → Bool
  | .authorizing _ => true
  | .reversing => true
  | .capturing => true
  | _ => false

/-- The claim of the tender's portion is held by another tender (05 R90). -/
def Check.claimedByOther (c : Check) (i : Nat) (t : Tender) : Bool :=
  (c.plan.portion? t.portion).any fun q => q.claim.any fun j => j != i

/-- SUBMIT TIP (06 R104). -/
def execSubmitTip (h : Hdr) (check tender form figure : Nat) (s : State) : Out :=
  .next <| s.request h 0x41 .change fun s =>
    s.withCheck check fun _ c =>
      if !s.mayChange h.term c then (s, refuse .denied)
      else s.withTender c tender fun i t =>
        let w := s.sst.work
        let isRate := form == 1
        let tip := tipAsked w isRate t.amount figure
        let cap := tipCap w t.amount
        judged s
          [(t.state.isDone, refuse .absent),
           (decide (1 < form), rangeField 3),
           (isRate && decide (Config.maxTipRate < figure), rangeField 4),
           (decide (cap < tip) || decide (Config.maxAmount < t.amount + tip), rangeTip cap),
           (c.isStale h.ver, staleReply c),
           (c.held, refuse .held),
           (t.needsIncrement tip && c.claimedByOther i t, refuse .claimed),
           (c.closeRunning || t.state.exchanging, refuse .busy)]
          (let s := s.takeTip i t tip
           (s, reply .taken (s.tenderBody i)))

/-! ## WITHDRAW TENDER (06 R112, R113) -/

/-- WITHDRAW TENDER (06 R112). -/
def execWithdrawTender (h : Hdr) (check tender : Nat) (s : State) : Out :=
  .next <| s.request h 0x42 .tender fun s =>
    s.withCheck check fun _ c =>
      s.withTender c tender fun i t =>
        judged s
          [(!s.mayTender h.term t, refuse .denied),
           (t.state.isDone, refuse .absent),
           (c.isStale h.ver, staleReply c),
           (t.hasStatus, refuse .pending),
           (c.closeRunning, refuse .busy),
           (decide (t.state = .reversing) || decide (t.state = .capturing), refuse .busy),
           (t.state.exchanging && t.sent && t.withdrawRequested, refuse .busy)]
          (if c.held then
             let s := s.modTender i fun t => { t with deferredWithdraw := true }
             (s, reply .deferred (s.tenderBody i))
           else
             let s := s.withdraw i
             (s, reply .taken (s.tenderBody i)))

/-! ## FETCH STATUS and ABANDON TENDER (06 R116, R121) -/

/-- FETCH STATUS: the body reports the status it clears (06 R121, R123). -/
def execFetchStatus (h : Hdr) (check tender : Nat) (s : State) : Out :=
  .next <| s.request h 0x43 .tender fun s =>
    s.withCheck check fun _ c =>
      s.withTender c tender fun i t =>
        judged s [(!s.mayTender h.term t, refuse .denied)]
          (s.collect i, reply .taken (s.tenderBody i))

/-- A faulted tender is written off and the check's close-fault count falls by 1 (06 R116, 01 R20). -/
def State.writeOff (s : State) (slot i : Nat) : State :=
  (s.modTender i fun t => { t with state := .done .writtenOff, captureFault := false }).modCheck slot fun c =>
    { c.stepVersion with closeFault := c.closeFault.map (· - 1) }

/-- ABANDON TENDER (06 R116). -/
def execAbandonTender (h : Hdr) (check tender : Nat) (s : State) : Out :=
  .next <| s.request h 0x44 .floorServer fun s =>
    s.withCheck check fun slot c =>
      s.withTender c tender fun i t =>
        judged s
          [(t.state.isDone, refuse .absent),
           (c.isStale h.ver, staleReply c),
           (decide (c.state ≠ .closeFault) || !t.faulted, refuse .busy)]
          (let s := s.writeOff slot i
           (s, reply .taken (s.tenderBody i)))

end Sys2Proof.Machine
end

