-- ==== Sys2Proof/Machine/Watches.lean ====
section
/-! DEFINITION. Watches, hits, and the floor server's requests on statuses and notices (09). -/

namespace Sys2Proof.Machine

/-! ## Watches (09 R160, R161) -/

/-- The two counts of a watch answer: watch entries, and hit entries for checks not watched. -/
def State.watchCounts (s : State) (t : Nat) : List Byte :=
  countByte (s.watchesOf t).length ++ countByte (s.unwatchedHits t)

/-- The per-terminal limit with a watch on one more check: hit entries for that check then count as watched
(09 R163). -/
def State.overWatchLimit (s : State) (t check : Nat) : Bool :=
  let unwatched := (s.hitSet t).countP fun h => h.check != check && !s.watchesCheck t h.check
  decide (Config.watchLimit < (s.watchesOf t).length + 1 + unwatched)

/-- A watch is written: its mask replaces that of the terminal's entry for the check, or a new entry joins
(09 R160). -/
def State.putWatch (s : State) (t check : Nat) (mask : BitVec 8) : State :=
  { s with wnu := { s.wnu with watches :=
      (if s.watchesCheck t check then
         s.wnu.watches.map (fun w => if w.terminal = t ∧ w.check = check then { w with mask } else w)
       else s.wnu.watches ++ [{ terminal := t, check, mask }]) } }

/-- SET WATCH (09 R160). -/
def execSetWatch (h : Hdr) (check mask : Nat) (s : State) : Out :=
  .next <| s.request h 0x60 .watch fun s =>
    s.withCheck check fun _ c =>
      let fresh := !s.watchesCheck h.term check
      judged s
        [(!s.mayRead h.term c, refuse .denied),
         (BitVec.ofNat 8 mask == 0, rangeField 2),
         (fresh && decide (Config.watchEntries ≤ s.wnu.watches.length), fullReply 8),
         (fresh && s.overWatchLimit h.term check, fullReply 9)]
        (let s := s.putWatch h.term check (BitVec.ofNat 8 mask)
         (s, reply .taken (be2 check ++ be1 mask ++ be1 c.state.toNat ++ be2 c.version ++ s.watchCounts h.term)))

/-- A terminal's watch on a check number is deleted (09 R161). -/
def State.removeWatch (s : State) (t check : Nat) : State :=
  { s with wnu := { s.wnu with
    watches := s.wnu.watches.filter (fun w => !(w.terminal == t && w.check == check)) } }

/-- DROP WATCH (09 R161). -/
def execDropWatch (h : Hdr) (check : Nat) (s : State) : Out :=
  .next <| s.request h 0x61 .watch fun s =>
    judged s [(!s.watchesCheck h.term check, refuse .absent)]
      (let s := s.removeWatch h.term check
       (s, reply .taken (s.watchCounts h.term)))

/-! ## Hits (09 R164) -/

/-- One hit entry of a FETCH HITS answer. -/
def hitBytes (x : Hit) : List Byte := be2 x.check ++ be1 x.kinds.toNat

/-- FETCH HITS (09 R164). -/
def execFetchHits (h : Hdr) (s : State) : Out :=
  .next <| s.request h 0x62 .watch fun s =>
    (s.setHits h.term [], reply .taken ((s.hitSet h.term).map hitBytes).flatten)

/-! ## FETCH NEXT PENDING (09 R173) -/

/-- The tender's STATUS source is enabled (09 R173). -/
def State.classEnabled (s : State) (i : Nat) : Bool :=
  (s.tender? i).any fun t => s.sourceEnabled t.noticeClass

/-- The pending-status entries of enabled classes, oldest first. -/
def State.eligible (s : State) : List Nat := s.tdu.pendingList.filter s.classEnabled

/-- FETCH NEXT PENDING (09 R173). -/
def execFetchNextPending (h : Hdr) (s : State) : Out :=
  .next <| s.request h 0x68 .floorServer fun s =>
    match s.eligible with
    | [] => (s, refuse .absent)
    | i :: _ =>
      let body := s.tenderBody i
      let s := s.collect i
      (s, reply .taken (body ++ countByte s.eligible.length))

/-! ## ACK NOTICE (09 R172) -/

/-- The STARTUP latch is cleared. -/
def State.clearStartup (s : State) : State := { s with wnu := { s.wnu with startup := false } }

/-- ACK NOTICE STARTUP, source 13; a source that is neither STARTUP nor AGED answers RANGE (09 R172). -/
def execAckNoticeStartup (h : Hdr) (source : Nat) (s : State) : Out :=
  .next <| s.request h 0x69 .floorServer fun s =>
    judged s [(source != 13, rangeField 1)]
      (s.clearStartup, reply .taken (be1 s.wnu.startKind.toNat))

/-- Aged-acknowledged is set on every live check that is aged (09 R172, 01 R22). -/
def State.ackAged (s : State) : State :=
  { s with ckt := { s.ckt with slots := s.ckt.slots.map (Option.map fun (c : Check) =>
      if c.aged then { c with agedAck := true } else c) } }

/-- ACK NOTICE AGED, source 12 (09 R172). -/
def execAckNoticeAged (h : Hdr) (s : State) : Out :=
  .next <| s.request h 0x69 .floorServer fun s =>
    (s.ackAged, reply .taken (countByte s.agedChecks))

end Sys2Proof.Machine
end

