-- ==== Sys2Proof/Machine/Ports.lean ====
section
/-! DEFINITION. The frames that are no well-formed request, the frame assemblers, the output lists and the
Front-of-House transaction (10). -/

namespace Sys2Proof.Machine

/-! ## Frames that are not judged (10 R175, R176, R178, R179) -/

/-- The reason of a MALFORMED answer for a frame whose TAG is not 0: 1 requester number, 2 kind, 3 length; none for a
well-formed frame (10 R178, R182). -/
def malformedReason (h : Hdr) (kind bodyLen : Nat) : Option Nat :=
  if !requesterFits h then some 1
  else if (bodyLengths kind).isEmpty then some 2
  else if (bodyLengths kind).contains bodyLen then none
  else some 3

/-- MALFORMED REQUEST (10 R178); a header and length that spell a well-formed request are no such frame. -/
def execMalformedRequest (h : Hdr) (kind bodyLen : Nat) (s : State) : Out :=
  .next <|
    match malformedReason h kind bodyLen with
    | none => s
    | some r => s.malformedFrame h kind r

/-- A frame on a request port reaches the part (10 R175, R187). -/
def State.takesFrames (s : State) (p : ReqPort) : Bool := s.running && s.receives p

/-- TAG ZERO FRAME: discarded and counted as a framing error (10 R178). -/
def execTagZeroFrame (port : ReqPort) (s : State) : Out :=
  .next <| if s.takesFrames port then s.countFraming port else s

/-- The CRC-error count of a port rises (10 R176). -/
def State.countCrc (s : State) : Port → State
  | .flp => { s with flp := { s.flp with crcErrors := satSucc s.flp.crcErrors } }
  | .fhp => { s with fhp := { s.fhp with crcErrors := satSucc s.fhp.crcErrors } }
  | .aqp => { s with gwp := { s.gwp with crcErrors := satSucc s.gwp.crcErrors } }

/-- A complete frame reaches a port's CRC check (10 R175, R187). -/
def State.portReceives (s : State) : Port → Bool
  | .flp => s.takesFrames .flp
  | .fhp => s.takesFrames .fhp
  | .aqp => s.acquirerReceives

/-- CRC ERROR FRAME: discarded and counted (10 R176). -/
def execCrcErrorFrame (port : Port) (s : State) : Out :=
  .next <| if s.portReceives port then s.countCrc port else s

/-- The output list has fewer than 12 free places (10 R179). -/
def State.crowded (s : State) (p : ReqPort) : Bool :=
  decide (Config.outputPlaces < (s.outList p).length + Config.answerPlaces)

/-- REQUEST OVERRUN: a complete request frame that finds the output list crowded is discarded and counted
(10 R179). -/
def execRequestOverrun (port : ReqPort) (s : State) : Out :=
  .next <| if s.takesFrames port && s.crowded port then s.countOverrun port else s

/-! ## The assemblers (10 R175) -/

/-- The assembler of a stream port. -/
def State.assembler (s : State) : StreamPort → Assembler
  | .flp => s.flp.assembler
  | .aqp => s.gwp.assembler

/-- A framing error is counted on a stream port, whose assembler goes to a state. -/
def State.framingError (s : State) (p : StreamPort) (a : Assembler) : State :=
  match p with
  | .flp => { s with flp := { s.flp with framingErrors := satSucc s.flp.framingErrors, assembler := a } }
  | .aqp => { s with gwp := { s.gwp with framingErrors := satSucc s.gwp.framingErrors, assembler := a } }

/-- The assembler of a stream port returns to IDLE. -/
def State.assemblerIdle (s : State) (p : StreamPort) : State :=
  match p with
  | .flp => { s with flp := { s.flp with assembler := .idle } }
  | .aqp => { s with gwp := { s.gwp with assembler := .idle } }

/-- The lowest LEN that a stream port accepts; the highest is 245 (10 R175). -/
def minLen : StreamPort → Nat
  | .flp => 5
  | .aqp => 3

/-- A LEN outside the port's bounds (10 R175). -/
def badLen (p : StreamPort) (len : Nat) : Bool := decide (len < minLen p) || decide (245 < len)

/-- FRAME LEN ERROR: the frame is discarded and counted and the assembler goes to SKIP (10 R175). -/
def execFrameLenError (port : StreamPort) (len : Nat) (s : State) : Out :=
  .next <|
    if s.running && decide (s.assembler port = .idle) && badLen port len then s.framingError port .skip else s

/-- FRAME IDLE TIMEOUT after count bytes: SKIP ends, or a partial frame is discarded and counted (10 R175). -/
def execFrameIdleTimeout (port : StreamPort) (count : Nat) (s : State) : Out :=
  .next <|
    if !s.running then s
    else
      match s.assembler port with
      | .skip => s.assemblerIdle port
      | .idle => if count = 0 then s else s.framingError port .idle
      | .header => s.framingError port .idle
      | .body => s.framingError port .idle

/-! ## Sending (10 R179, R184) -/

/-- OUTPUT FRAME SENT: the frame at the head of a stream port's output list has left as its wire bytes (10 R176,
R179, R185). -/
def execOutputFrameSent (port : StreamPort) (s : State) : Out :=
  .next <|
    if !s.running then s
    else
      match port with
      | .flp =>
        match s.flp.out with
        | [] => s
        | f :: fs => { s with flp := { s.flp with out := fs, sent := f.wire } }
      | .aqp => { s with gwp := s.gwp.sendHead }

/-! ## The Front-of-House transaction (10 R177) -/

/-- The state that an outcome leads to. -/
def Out.orElse (o : Out) (s : State) : State :=
  match o with
  | .next s' => s'
  | _ => s

/-- What a request that a transaction carries does; the events of the part are no requests. -/
def execRequest (i : Instr) (s : State) : Out :=
  match i with
  | .hello h => execHello h s
  | .openCheck h table covers owner => execOpenCheck h table covers owner s
  | .readCheck h check => execReadCheck h check s
  | .updateCheck h check covers => execUpdateCheck h check covers s
  | .presentCheck h check => execPresentCheck h check s
  | .transferCheck h check table owner => execTransferCheck h check table owner s
  | .voidCheck h check => execVoidCheck h check s
  | .closeCheck h check => execCloseCheck h check s
  | .addLines h check entries => execAddLines h check entries s
  | .voidLine h check line => execVoidLine h check line s
  | .discountLine h check line amount => execDiscountLine h check line amount s
  | .readLines h check first last => execReadLines h check first last s
  | .setSplit h check kind count => execSetSplit h check kind count s
  | .setPortion h check portion amount => execSetPortion h check portion amount s
  | .lockSplit h check => execLockSplit h check s
  | .startTender h check portion kind amount token => execStartTender h check portion kind amount token s
  | .submitTip h check tender form figure => execSubmitTip h check tender form figure s
  | .withdrawTender h check tender => execWithdrawTender h check tender s
  | .fetchStatus h check tender => execFetchStatus h check tender s
  | .abandonTender h check tender => execAbandonTender h check tender s
  | .holdCheck h check => execHoldCheck h check s
  | .releaseCheck h check => execReleaseCheck h check s
  | .approve h check number => execApprove h check number s
  | .reject h check number => execReject h check number s
  | .setWatch h check mask => execSetWatch h check mask s
  | .dropWatch h check => execDropWatch h check s
  | .fetchHits h => execFetchHits h s
  | .fetchNextPending h => execFetchNextPending h s
  | .ackNoticeStartup h source => execAckNoticeStartup h source s
  | .ackNoticeAged h => execAckNoticeAged h s
  | .setTable h first last sect => execSetTable h first last sect s
  | .setTerminal h terminal role mask => execSetTerminal h terminal role mask s
  | .forgetTerminal h terminal => execForgetTerminal h terminal s
  | .readTable h table => execReadTable h table s
  | .setSetting h number value => execSetSetting h number value s
  | .readSetting h number => execReadSetting h number s
  | .saveSettings h => execSaveSettings h s
  | .loadSettings h source => execLoadSettings h source s
  | .setClock h day minute => execSetClock h day minute s
  | .readPartStatus h => execReadPartStatus h s
  | .clearLinkFault h => execClearLinkFault h s
  | .malformedRequest h kind bodyLen => execMalformedRequest h kind bodyLen s
  | .tagZeroFrame port => execTagZeroFrame port s
  | .crcErrorFrame _ | .frameLenError _ _ | .frameIdleTimeout _ _ | .requestOverrun _ | .fhpTransaction _
  | .outputFrameSent _ | .result _ _ | .nonResultFrame _ | .exchangeTimeout _ | .grant | .noLinkCompletion
  | .linkOkFall | .linkOkRise | .leaseExpiry _ _ | .approvalExpiry _ | .terminalSilence _ | .checkAged _
  | .secondTick | .minuteTick | .saveEnd _ | .resetAssert _ | .coldStart _ | .warmStart _
  | .clockAdvanceWithoutPower _ | .retentionIndicatorLost => .next s

/-- What the bytes on FH_SDI of one transaction are (10 R177). -/
inductive Incoming where
  /-- A LEN of 0, or no byte at all. -/
  | empty
  /-- A LEN out of bounds, or a frame cut short. -/
  | broken
  /-- A complete frame whose CRC does not match. -/
  | badCrc
  /-- A complete frame: the bytes from TERM to the last body byte. -/
  | whole (content : List Byte)
  deriving DecidableEq, Repr

/-- The incoming side of a transaction (10 R177). -/
def incoming (bytes : List Byte) : Incoming :=
  let len := ofBe (bytes.take 2)
  if bytes.isEmpty then .empty
  else if bytes.length < 2 then .broken
  else if len = 0 then .empty
  else if len < 5 ∨ 245 < len then .broken
  else if bytes.length < len + 4 then .broken
  else if crc16 (bytes.take (len + 2)) ≠ ofBe ((bytes.drop (len + 2)).take 2) then .badCrc
  else .whole ((bytes.drop 2).take len)

/-- The request that a transaction carries is taken, or its frame is discarded and counted (10 R177, R178). -/
def State.takeIncoming (s : State) (bytes : List Byte) : State :=
  match incoming bytes with
  | .empty => s
  | .broken => s.countFraming .fhp
  | .badCrc => s.countCrc .fhp
  | .whole content =>
    match decodeRequest .fhp content with
    | none => s
    | some i => (execRequest i s).orElse s

/-- What FH_SDO shifts out in n bytes: the presented frame, then bytes of 0 (10 R177). -/
def shiftedOut (n : Nat) (wire : List Byte) : List Byte := (wire ++ List.replicate n 0).take n

/-- The presented frame leaves the list when every byte of it has been shifted out (10 R177). -/
def State.leaveHead (s : State) (n : Nat) (presented : Option Frame) : State :=
  match presented with
  | none => s
  | some f => if f.wire.length ≤ n then { s with fhp := { s.fhp with out := s.fhp.out.tail } } else s

/-- What FH_SDO has shifted out. -/
def State.setSdo (s : State) (bytes : List Byte) : State := { s with fhp := { s.fhp with sdo := bytes } }

/-- FHP TRANSACTION, from FH_SEL_N falling to rising (10 R177; log entry 18). One in progress when a start ended is
ignored (10 R187). -/
def execFhpTransaction (bytes : List Byte) (s : State) : Out :=
  .next <|
    if !s.running then s
    else if s.fhp.ignore then
      { s with fhp := { s.fhp with ignore := false, sdo := List.replicate bytes.length 0 } }
    else
      let presented := s.fhp.out.head?
      let wire := (presented.map Frame.wire).getD []
      (((s.takeIncoming bytes).leaveHead bytes.length presented).setSdo (shiftedOut bytes.length wire))

end Sys2Proof.Machine
end

