-- ==== Sys2Proof/Machine/Time.lean ====
section
/-! DEFINITION. The ticks of the two clocks, the tests they make, lease expiry and check ageing (11 R194, 05 R93,
01 R22; log entry 6). -/

namespace Sys2Proof.Machine

/-! ## Second tick (11 R194) -/

/-- A running lease whose deadline has come (05 R93). -/
def Lease.expired (now : Nat) : Lease → Bool
  | .running d => decide (d ≤ now)
  | _ => false

/-- What the tests of a second tick find due (07 R137, 05 R93, 08 R152, 02 R29); a silence found at an earlier tick
stays due until it takes place, a frame comes or the part starts (log entry 6). -/
def State.secondTests (s : State) : Due :=
  { exchanges := ((s.aqp.entries.filterMap id).filter fun e => decide (e.deadline ≤ s.now)).map Exchange.tag
    leases := s.tendersWhere fun t => t.lease.expired s.now
    approvals := (s.apu.table.filter fun a => decide (a.deadline ≤ s.now)).map Approval.number
    silences := (List.range' 1 Config.terminalCount).filter fun n =>
      s.silent? n || (s.isPresent n && s.due.silences.contains n)
    ages := s.due.ages }

/-- A check that becomes aged at a minute tick (01 R22). -/
def State.ages? (s : State) (c : Check) : Bool :=
  s.setting 21 != 0 && decide (s.setting 21 ≤ s.age c) && !c.aged

/-- The checks that the tests of a minute tick find due (01 R22); an ageing found at an earlier tick stays due until it
takes place or its check retires (log entry 6). -/
def State.minuteTests (s : State) : List Nat :=
  (s.liveChecks.filter fun c => s.ages? c || (!c.aged && s.due.ages.contains c.number)).map Check.number

/-- The minute tick of a minute clock that has advanced: the age tests (11 R194, 01 R22). -/
def State.minuteTested (s : State) : State := { s with due := { s.due with ages := s.minuteTests } }

/-- One second on both clocks: the second timebase rises by 1, and the seconds of the minute clock rise, passing 59 to 0
with an advance of the minute (11 R194). -/
def FloorClock.tick (c : FloorClock) : FloorClock := { c.advance 1 with timebase := c.timebase + 1 }

/-- SECOND TICK, with the minute tick when its second advances the minute (11 R194); a halted part ticks no timer. -/
def execSecondTick (s : State) : Out :=
  .next <|
    if s.running then
      let t := { s with fck := s.fck.tick }
      let t := { t with due := t.secondTests }
      if s.fck.minuteEnds then t.minuteTested else t
    else s

/-! ## Minute tick (11 R194) -/

/-- MINUTE TICK: the second that passes 59 comes on the minute clock alone, so that its seconds return to 0, the minute
advances and the age tests are made, whenever main power is present, RESET_N low or high (11 R194); at any other second
no advance is due and nothing changes (log entry 7). -/
def execMinuteTick (s : State) : Out :=
  .next <|
    if s.powered && s.fck.minuteEnds then ({ s with fck := s.fck.advance 1 } : State).minuteTested else s

/-- That many minutes pass while main power is present: each advance is a minute tick (11 R194). -/
def State.passMinutes : Nat → State → State
  | 0, s => s
  | n + 1, s => State.passMinutes n (({ s with fck := s.fck.advance 60 } : State).minuteTested)

/-! ## What the ticks find -/

/-- A test of the last tick has been made: its mark is removed (log entry 6). -/
def State.doneLease (s : State) (i : Nat) : State :=
  { s with due := { s.due with leases := s.due.leases.filter (· != i) } }

/-- A lease that the tick found due is still due (05 R93). -/
def State.leaseDue (s : State) (i : Nat) (t : Tender) : Bool :=
  s.running && s.due.leases.contains i && t.lease.expired s.now

/-- LEASE EXPIRY: the tender of a check named by its numbers is withdrawn with status LEASE_EXPIRED (05 R93). -/
def execLeaseExpiry (check tender : Nat) (s : State) : Out :=
  .next <|
    match (s.checkNumbered check).bind fun c => c.tenderIndex? tender with
    | none => s
    | some i =>
      match s.tender? i with
      | none => s
      | some t => if s.leaseDue i t then ((s.doneLease i).expireLease i).flushPushes else s

/-- CHECK AGED: a check that the minute tick found due becomes aged, while main power is present as for the tick
itself; the alarm was read at the tick (01 R22, 11 R189, R194). -/
def execCheckAged (check : Nat) (s : State) : Out :=
  .next <|
    match s.findSlot check with
    | none => s
    | some slot =>
      match s.check? slot with
      | none => s
      | some c =>
        if s.powered && s.due.ages.contains check && !c.aged then
          (s.doneAge check).modCheck slot fun c => { c with aged := true }
        else s

end Sys2Proof.Machine
end

