-- ==== Sys2Proof/Machine/Starts.lean ====
section
/-! DEFINITION. Reset, the loss of power and of retention, and the two kinds of start (11 R196, R197). -/

namespace Sys2Proof.Machine

/-! ## Halting (11 R196, 10 R187) -/

/-- RESET ASSERT: RESET_N goes low or main power falls; no frame is taken or sent and no timer ticks until the next
start. -/
def execResetAssert (cause : HaltCause) (s : State) : Out :=
  .next <|
    match cause with
    | .resetPin => { s with power := { s.power with resetLow := true } }
    | .mainPower => { s with power := { s.power with mainLow := true } }

/-- CLOCK ADVANCE WITHOUT POWER: the battery-run clock counts while the part is halted and retention holds. Without main
power its advances give no ticks; with main power present, RESET_N being low, each advance of the minute is a minute tick
with its age tests, as R194 says (11 R194, R196; log entry 7 for the words of the command's row). -/
def execClockAdvanceWithoutPower (seconds : Nat) (s : State) : Out :=
  .next <|
    if !s.running && s.power.retention then
      let t := if s.powered then s.passMinutes ((s.fck.second + seconds) / 60) else s
      { t with fck := s.fck.advance seconds }
    else s

/-- Retained memory cleared, and with its tenders their exchanges, which no start keeps, and with its records every
test found due on them (11, opening; R196; 07 R143; log entry 20). -/
def State.clearRetained (s : State) : State :=
  { s with
    ckt := State.reset.ckt
    freeLines := State.reset.freeLines
    tdu := State.reset.tdu
    fmp := State.reset.fmp
    apu := State.reset.apu
    wnu := State.reset.wnu
    sst := { s.sst with work := Settings.defaults }
    fck := State.reset.fck
    due := State.reset.due
    aqp := { s.aqp with queue := [], entries := State.reset.aqp.entries, tagCounter := 1 } }

/-- RETENTION INDICATOR LOST: VBAT falls below its retention level while main power is absent (11 R196). -/
def execRetentionIndicatorLost (s : State) : Out :=
  .next <|
    if s.power.mainLow then { s.clearRetained with power := { s.power with retention := false } } else s

/-! ## What both kinds of start do (10 R187, 11 R197, 07 R143, 09 R171) -/

/-- The ports after a start: assemblers idle, lists empty, counts 0; a transaction in progress is ignored
(10 R187). -/
def State.startPorts (s : State) (selLow : Bool) : State :=
  { s with
    flp := { State.reset.flp with sent := s.flp.sent }
    fhp := { State.reset.fhp with sdo := s.fhp.sdo, ignore := selLow }
    gwp := { State.reset.gwp with txd := s.gwp.txd } }

/-- The Acquirer Port after a start, before its wait queue is rebuilt (07 R143). -/
def State.startAcquirer (s : State) : State :=
  { s with aqp := { s.aqp with
      link := linkOf s.aqp.linkOk, timeouts := 0, discarded := 0, queue := []
      entries := State.reset.aqp.entries } }

/-- Presence, the second timebase, the save state, the due tests and the power lines after a start (02 R27, 11 R194,
R192, R196). The tests that the second ticks found due are those of deadlines, leases and silences that no start keeps; an
ageing that a minute tick found due stays due with its check (01 R22; log entry 6). -/
def State.startCommon (s : State) (selLow : Bool) : State :=
  let s := (s.startPorts selLow).startAcquirer
  { s with
    fmp := { s.fmp with present := State.reset.fmp.present, lastHeard := State.reset.fmp.lastHeard }
    fck := { s.fck with timebase := 0 }
    sst := { s.sst with save := .idle, saveCopy := none }
    power := State.reset.power
    due := { State.reset.due with ages := s.due.ages } }

/-- The STARTUP latch is set with the start kind (09 R171). -/
def State.latchStart (s : State) (k : StartKind) : State :=
  { s with wnu := { s.wnu with startup := true, startKind := k, pushes := [] } }

/-! ## Cold start (11 R197) -/

/-- The working copy of a cold start and its source: the site area, the factory area, or the defaults (11 R197). -/
def SettingsStore.fallback (t : SettingsStore) : Settings × LoadedFrom :=
  match usable t.site with
  | some a => (a.contents.toSettings, .site)
  | none =>
    match usable t.factory with
    | some a => (a.contents.toSettings, .factory)
    | none => (Settings.defaults, .defaults)

/-- COLD START: admitted when the part is halted and the retention indicator is lost (11 R196, R197). -/
def execColdStart (selLow : Bool) (s : State) : Out :=
  .next <|
    if !s.running && !s.power.retention then
      let w := s.sst.fallback
      let s := { s.clearRetained with sst := { s.sst with work := w.1, loaded := w.2 } }
      (s.startCommon selLow).latchStart .cold
    else s

/-! ## Warm start (06 R124, 01 R23, 05 R95, 08 R150, 07 R143) -/

/-- A tender at a warm start (06 R124). -/
def Tender.recover (t : Tender) : Tender :=
  match t.state with
  | .authorizing .auth => if t.sent then t.toReversing else t.finish .withdrawn
  | .authorizing .increment => if t.withdrawRequested then t.toReversing else t.toAuthorized
  | .reversing => { t with sent := false, withdrawRequested := false }
  | .capturing => { t.toAuthorized with captureFault := true, withdrawRequested := false }
  | _ => t

/-- The recovery sets RESTART on the tender (06 R124). -/
def Tender.restarts (t : Tender) : Bool :=
  match t.state with
  | .authorizing _ => true
  | _ => false

/-- The recovery changes the tender's state (06 R124). -/
def Tender.recovers (t : Tender) : Bool := t.restarts || decide (t.state = .capturing)

/-- The recovery of the tender with pool index i: one whose state changes takes its portion with it and its status joins;
of any other, only the flags of a REVERSING tender are cleared (06 R124). -/
def State.recoverTender (s : State) (i : Nat) : State :=
  match s.tender? i with
  | none => s
  | some t =>
    if t.recovers then
      let s := s.moveTender i Tender.recover
      if t.restarts then s.setStatus i .restart else s
    else s.modTender i Tender.recover

/-- The slots whose tenders the recovery changes. -/
def State.recovering (s : State) : List Nat :=
  (s.tdu.pool.filterMap id).filterMap fun t => if t.recovers then some t.slot else none

/-- A check after the recovery of its tenders: CLOSING becomes CLOSE_FAULT, any other changed check is derived anew;
the version steps once (01 R23, 06 R124). -/
def State.settleStart (s : State) (changed : List Nat) (slot : Nat) : State :=
  match s.check? slot with
  | none => s
  | some c =>
    if c.state = .closing then
      let faulted := (s.tendersOf c).countP Tender.faulted
      (s.modCheck slot fun c => { c.stepVersion with state := .closeFault, closeFault := some faulted }).handEvent
        c.number .closeFault
    else if slot ∈ changed then (s.modCheck slot Check.stepVersion).derive false slot
    else s

/-- A lease at a warm start: it restarts in full, or stays paused under a hold (05 R95). -/
def Lease.restart (deadline : Nat) (held : Bool) : Lease → Lease
  | .running _ => .running deadline
  | .paused r => if held then .paused r else .running deadline
  | .absent => .absent

/-- The leases of TIP_WAIT tenders restart (05 R95). -/
def State.restartLeases (s : State) : State :=
  let deadline := s.now + s.setting 15
  { s with tdu := { s.tdu with pool := s.tdu.pool.map (Option.map fun (t : Tender) =>
      if t.state = .tipWait then { t with lease := t.lease.restart deadline ((s.check? t.slot).any Check.held) }
      else t) } }

/-- The deadlines of approval records restart (08 R150). -/
def State.restartApprovals (s : State) : State :=
  let deadline := s.now + s.setting 19
  { s with apu := { s.apu with table := s.apu.table.map fun a => { a with deadline } } }

/-- The wait queue is rebuilt from the REVERSING tenders in pool index order (07 R143). -/
def State.rebuildQueue (s : State) : State :=
  (s.tendersWhere fun t => decide (t.state = .reversing)).foldl (fun s i => s.placeNeed i .reverse) s

/-- The recovery of retained records at a warm start (log entry 32 for the order within it). -/
def State.recoverAll (s : State) : State :=
  let changed := s.recovering
  let s := (List.range s.tdu.pool.length).foldl State.recoverTender s
  let s := (List.range s.ckt.slots.length).foldl (fun s slot => s.settleStart changed slot) s
  s.restartLeases.restartApprovals.rebuildQueue

/-- WARM START: admitted when the part is halted and retention holds (11 R196, R197). -/
def execWarmStart (selLow : Bool) (s : State) : Out :=
  .next <|
    if !s.running && s.power.retention then ((s.startCommon selLow).latchStart .warm).recoverAll else s

end Sys2Proof.Machine
end

