-- ==== Sys2Proof/Machine/Dispatch.lean ====
section
/-! DEFINITION. The dispatch: one arm per command, one call of its meaning. -/

namespace Sys2Proof.Machine

/-- The effect of a command on everything but the queue. -/
def exec (i : Instr) (s : State) : Host.Outcome State Fault Refusal :=
  match i with
  | .hello h => Sys2Proof.Machine.execHello h s
  | .openCheck h table covers owner => Sys2Proof.Machine.execOpenCheck h table covers owner s
  | .readCheck h check => Sys2Proof.Machine.execReadCheck h check s
  | .updateCheck h check covers => Sys2Proof.Machine.execUpdateCheck h check covers s
  | .presentCheck h check => Sys2Proof.Machine.execPresentCheck h check s
  | .transferCheck h check table owner => Sys2Proof.Machine.execTransferCheck h check table owner s
  | .voidCheck h check => Sys2Proof.Machine.execVoidCheck h check s
  | .closeCheck h check => Sys2Proof.Machine.execCloseCheck h check s
  | .addLines h check entries => Sys2Proof.Machine.execAddLines h check entries s
  | .voidLine h check line => Sys2Proof.Machine.execVoidLine h check line s
  | .discountLine h check line amount => Sys2Proof.Machine.execDiscountLine h check line amount s
  | .readLines h check first last => Sys2Proof.Machine.execReadLines h check first last s
  | .setSplit h check kind count => Sys2Proof.Machine.execSetSplit h check kind count s
  | .setPortion h check portion amount => Sys2Proof.Machine.execSetPortion h check portion amount s
  | .lockSplit h check => Sys2Proof.Machine.execLockSplit h check s
  | .startTender h check portion kind amount token => Sys2Proof.Machine.execStartTender h check portion kind amount token s
  | .submitTip h check tender form figure => Sys2Proof.Machine.execSubmitTip h check tender form figure s
  | .withdrawTender h check tender => Sys2Proof.Machine.execWithdrawTender h check tender s
  | .fetchStatus h check tender => Sys2Proof.Machine.execFetchStatus h check tender s
  | .abandonTender h check tender => Sys2Proof.Machine.execAbandonTender h check tender s
  | .holdCheck h check => Sys2Proof.Machine.execHoldCheck h check s
  | .releaseCheck h check => Sys2Proof.Machine.execReleaseCheck h check s
  | .approve h check number => Sys2Proof.Machine.execApprove h check number s
  | .reject h check number => Sys2Proof.Machine.execReject h check number s
  | .setWatch h check mask => Sys2Proof.Machine.execSetWatch h check mask s
  | .dropWatch h check => Sys2Proof.Machine.execDropWatch h check s
  | .fetchHits h => Sys2Proof.Machine.execFetchHits h s
  | .fetchNextPending h => Sys2Proof.Machine.execFetchNextPending h s
  | .ackNoticeStartup h source => Sys2Proof.Machine.execAckNoticeStartup h source s
  | .ackNoticeAged h => Sys2Proof.Machine.execAckNoticeAged h s
  | .setTable h first last sect => Sys2Proof.Machine.execSetTable h first last sect s
  | .setTerminal h terminal role mask => Sys2Proof.Machine.execSetTerminal h terminal role mask s
  | .forgetTerminal h terminal => Sys2Proof.Machine.execForgetTerminal h terminal s
  | .readTable h table => Sys2Proof.Machine.execReadTable h table s
  | .setSetting h number value => Sys2Proof.Machine.execSetSetting h number value s
  | .readSetting h number => Sys2Proof.Machine.execReadSetting h number s
  | .saveSettings h => Sys2Proof.Machine.execSaveSettings h s
  | .loadSettings h source => Sys2Proof.Machine.execLoadSettings h source s
  | .setClock h day minute => Sys2Proof.Machine.execSetClock h day minute s
  | .readPartStatus h => Sys2Proof.Machine.execReadPartStatus h s
  | .clearLinkFault h => Sys2Proof.Machine.execClearLinkFault h s
  | .malformedRequest h kind bodyLen => Sys2Proof.Machine.execMalformedRequest h kind bodyLen s
  | .tagZeroFrame port => Sys2Proof.Machine.execTagZeroFrame port s
  | .crcErrorFrame port => Sys2Proof.Machine.execCrcErrorFrame port s
  | .frameLenError port len => Sys2Proof.Machine.execFrameLenError port len s
  | .frameIdleTimeout port count => Sys2Proof.Machine.execFrameIdleTimeout port count s
  | .requestOverrun port => Sys2Proof.Machine.execRequestOverrun port s
  | .fhpTransaction bytes => Sys2Proof.Machine.execFhpTransaction bytes s
  | .outputFrameSent port => Sys2Proof.Machine.execOutputFrameSent port s
  | .result tag body => Sys2Proof.Machine.execResult tag body s
  | .nonResultFrame kind => Sys2Proof.Machine.execNonResultFrame kind s
  | .exchangeTimeout tag => Sys2Proof.Machine.execExchangeTimeout tag s
  | .grant => Sys2Proof.Machine.execGrant s
  | .noLinkCompletion => Sys2Proof.Machine.execNoLinkCompletion s
  | .linkOkFall => Sys2Proof.Machine.execLinkOkFall s
  | .linkOkRise => Sys2Proof.Machine.execLinkOkRise s
  | .leaseExpiry check tender => Sys2Proof.Machine.execLeaseExpiry check tender s
  | .approvalExpiry number => Sys2Proof.Machine.execApprovalExpiry number s
  | .terminalSilence terminal => Sys2Proof.Machine.execTerminalSilence terminal s
  | .checkAged check => Sys2Proof.Machine.execCheckAged check s
  | .secondTick => Sys2Proof.Machine.execSecondTick s
  | .minuteTick => Sys2Proof.Machine.execMinuteTick s
  | .saveEnd matched => Sys2Proof.Machine.execSaveEnd matched s
  | .resetAssert cause => Sys2Proof.Machine.execResetAssert cause s
  | .coldStart selLow => Sys2Proof.Machine.execColdStart selLow s
  | .warmStart selLow => Sys2Proof.Machine.execWarmStart selLow s
  | .clockAdvanceWithoutPower seconds => Sys2Proof.Machine.execClockAdvanceWithoutPower seconds s
  | .retentionIndicatorLost => Sys2Proof.Machine.execRetentionIndicatorLost s

end Sys2Proof.Machine
end

