-- ==== Sys2Proof/WellFormed.lean ====
section
/-! DEFINITION. Which commands a frame or an event of the part can be: every field fits the bytes its frame gives it
(10 R185, 10.6), and an event names a fact its own row allows. -/

namespace Sys2Proof

/-- A field of n bytes holds the value. -/
def fits (n value : Nat) : Bool := decide (value < 256 ^ n)

/-- TERM fits one byte and TAG is 1 to 255 (10 R178, R185); VER fits two bytes. -/
def Hdr.wf (h : Hdr) : Bool := fits 1 h.term && (decide (1 ≤ h.tag) && fits 1 h.tag) && fits 2 h.ver

/-- The fields of an ADD LINES entry fit 3, 1, 1, 3 and 1 bytes (10.6). -/
def LineEntry.wf (e : LineEntry) : Bool :=
  fits 3 e.item && fits 1 e.seat && fits 1 e.quantity && fits 3 e.price && fits 1 e.cls

/-- The command is one that its frame or event can be. -/
def Instr.wf : Instr → Bool
  | .hello h => h.wf
  | .openCheck h table covers owner => h.wf && fits 2 table && fits 1 covers && fits 1 owner
  | .readCheck h check => h.wf && fits 2 check
  | .updateCheck h check covers => h.wf && fits 2 check && fits 1 covers
  | .presentCheck h check => h.wf && fits 2 check
  | .transferCheck h check table owner => h.wf && fits 2 check && fits 2 table && fits 1 owner
  | .voidCheck h check => h.wf && fits 2 check
  | .closeCheck h check => h.wf && fits 2 check
  | .addLines h check entries =>
    h.wf && fits 2 check && (decide (1 ≤ entries.length) && decide (entries.length ≤ 8)) && entries.all LineEntry.wf
  | .voidLine h check line => h.wf && fits 2 check && fits 1 line
  | .discountLine h check line amount => h.wf && fits 2 check && fits 1 line && fits 4 amount
  | .readLines h check first last => h.wf && fits 2 check && fits 1 first && fits 1 last
  | .setSplit h check kind count => h.wf && fits 2 check && fits 1 kind && fits 1 count
  | .setPortion h check portion amount => h.wf && fits 2 check && fits 1 portion && fits 4 amount
  | .lockSplit h check => h.wf && fits 2 check
  | .startTender h check portion kind amount token =>
    h.wf && fits 2 check && fits 1 portion && fits 1 kind && fits 4 amount && decide (token.length = 32)
  | .submitTip h check tender form figure =>
    h.wf && fits 2 check && fits 1 tender && fits 1 form && fits 4 figure
  | .withdrawTender h check tender => h.wf && fits 2 check && fits 1 tender
  | .fetchStatus h check tender => h.wf && fits 2 check && fits 1 tender
  | .abandonTender h check tender => h.wf && fits 2 check && fits 1 tender
  | .holdCheck h check => h.wf && fits 2 check
  | .releaseCheck h check => h.wf && fits 2 check
  | .approve h check number => h.wf && fits 2 check && fits 1 number
  | .reject h check number => h.wf && fits 2 check && fits 1 number
  | .setWatch h check mask => h.wf && fits 2 check && fits 1 mask
  | .dropWatch h check => h.wf && fits 2 check
  | .fetchHits h => h.wf
  | .fetchNextPending h => h.wf
  | .ackNoticeStartup h source => h.wf && fits 1 source && decide (source ≠ 12)
  | .ackNoticeAged h => h.wf
  | .setTable h first last sect => h.wf && fits 2 first && fits 2 last && fits 1 sect
  | .setTerminal h terminal role mask => h.wf && fits 1 terminal && fits 1 role && fits 1 mask
  | .forgetTerminal h terminal => h.wf && fits 1 terminal
  | .readTable h table => h.wf && fits 2 table
  | .setSetting h number value => h.wf && fits 1 number && fits 4 value
  | .readSetting h number => h.wf && fits 1 number
  | .saveSettings h => h.wf
  | .loadSettings h source => h.wf && fits 1 source
  | .setClock h day minute => h.wf && fits 2 day && fits 2 minute
  | .readPartStatus h => h.wf
  | .clearLinkFault h => h.wf
  | .malformedRequest h kind bodyLen => h.wf && fits 1 kind && decide (bodyLen ≤ 240)
  | .tagZeroFrame _ => true
  | .crcErrorFrame _ => true
  | .frameLenError port len =>
    fits 2 len && (decide (len < (match port with | .flp => 5 | .aqp => 3)) || decide (245 < len))
  | .frameIdleTimeout _ count => decide (count ≤ 248)
  | .requestOverrun _ => true
  | .fhpTransaction _ => true
  | .outputFrameSent _ => true
  | .result tag body => fits 1 tag && decide (body.length ≤ 242)
  | .nonResultFrame kind => fits 1 kind && decide (kind ≠ 0xC8)
  | .exchangeTimeout tag => decide (1 ≤ tag) && fits 1 tag
  | .grant => true
  | .noLinkCompletion => true
  | .linkOkFall => true
  | .linkOkRise => true
  | .leaseExpiry check tender => fits 2 check && fits 1 tender
  | .approvalExpiry number => decide (1 ≤ number) && fits 1 number
  | .terminalSilence terminal => decide (1 ≤ terminal) && decide (terminal ≤ Config.terminalCount)
  | .checkAged check => decide (1 ≤ check) && decide (check ≤ Config.maxCheckNumber)
  | .secondTick => true
  | .minuteTick => true
  | .saveEnd _ => true
  | .resetAssert _ => true
  | .coldStart _ => true
  | .warmStart _ => true
  | .clockAdvanceWithoutPower _ => true
  | .retentionIndicatorLost => true

end Sys2Proof
end

