-- ==== Sys2Proof/Safety.lean ====
section
/-! DEFINITION. The terms in which the statements speak: how a request is taken and answered, what each command may
change, and what every step keeps true. -/

namespace Sys2Proof.Machine

/-! ## Requests -/

/-- The header, KIND and class of a well-formed request (02 R31, 10.6); none for every other command. -/
def requestOf : Instr → Option (Hdr × Nat × ReqClass)
  | .hello h => some (h, 0x01, .presence)
  | .openCheck h _ _ _ => some (h, 0x10, .change)
  | .readCheck h _ => some (h, 0x11, .read)
  | .updateCheck h _ _ => some (h, 0x12, .change)
  | .presentCheck h _ => some (h, 0x13, .change)
  | .transferCheck h _ _ _ => some (h, 0x14, .change)
  | .voidCheck h _ => some (h, 0x15, .change)
  | .closeCheck h _ => some (h, 0x16, .change)
  | .addLines h _ _ => some (h, 0x20, .change)
  | .voidLine h _ _ => some (h, 0x21, .change)
  | .discountLine h _ _ _ => some (h, 0x22, .change)
  | .readLines h _ _ _ => some (h, 0x23, .read)
  | .setSplit h _ _ _ => some (h, 0x30, .change)
  | .setPortion h _ _ _ => some (h, 0x31, .change)
  | .lockSplit h _ => some (h, 0x32, .change)
  | .startTender h _ _ _ _ _ => some (h, 0x40, .change)
  | .submitTip h _ _ _ _ => some (h, 0x41, .change)
  | .withdrawTender h _ _ => some (h, 0x42, .tender)
  | .fetchStatus h _ _ => some (h, 0x43, .tender)
  | .abandonTender h _ _ => some (h, 0x44, .floorServer)
  | .holdCheck h _ => some (h, 0x50, .manager)
  | .releaseCheck h _ => some (h, 0x51, .manager)
  | .approve h _ _ => some (h, 0x52, .manager)
  | .reject h _ _ => some (h, 0x53, .manager)
  | .setWatch h _ _ => some (h, 0x60, .watch)
  | .dropWatch h _ => some (h, 0x61, .watch)
  | .fetchHits h => some (h, 0x62, .watch)
  | .fetchNextPending h => some (h, 0x68, .floorServer)
  | .ackNoticeStartup h _ => some (h, 0x69, .floorServer)
  | .ackNoticeAged h => some (h, 0x69, .floorServer)
  | .setTable h _ _ _ => some (h, 0x70, .floorServer)
  | .setTerminal h _ _ _ => some (h, 0x71, .floorServer)
  | .forgetTerminal h _ => some (h, 0x72, .floorServer)
  | .readTable h _ => some (h, 0x73, .floorServer)
  | .setSetting h _ _ => some (h, 0x80, .floorServer)
  | .readSetting h _ => some (h, 0x81, .floorServer)
  | .saveSettings h => some (h, 0x82, .floorServer)
  | .loadSettings h _ => some (h, 0x83, .floorServer)
  | .setClock h _ _ => some (h, 0x84, .floorServer)
  | .readPartStatus h => some (h, 0x85, .floorServer)
  | .clearLinkFault h => some (h, 0x90, .floorServer)
  | _ => none

/-- The check number of a request that must name a live check (01 R3); DROP WATCH names a watch, not a check
(09 R161). -/
def namedCheck : Instr → Option Nat
  | .readCheck _ n => some n
  | .updateCheck _ n _ => some n
  | .presentCheck _ n => some n
  | .transferCheck _ n _ _ => some n
  | .voidCheck _ n => some n
  | .closeCheck _ n => some n
  | .addLines _ n _ => some n
  | .voidLine _ n _ => some n
  | .discountLine _ n _ _ => some n
  | .readLines _ n _ _ => some n
  | .setSplit _ n _ _ => some n
  | .setPortion _ n _ _ => some n
  | .lockSplit _ n => some n
  | .startTender _ n _ _ _ _ => some n
  | .submitTip _ n _ _ _ => some n
  | .withdrawTender _ n _ => some n
  | .fetchStatus _ n _ => some n
  | .abandonTender _ n _ => some n
  | .holdCheck _ n => some n
  | .releaseCheck _ n => some n
  | .approve _ n _ => some n
  | .reject _ n _ => some n
  | .setWatch _ n _ => some n
  | _ => none

/-- The requests that compare the expected version (01 R5). -/
def comparesVersion : Instr → Bool
  | .updateCheck _ _ _ | .presentCheck _ _ | .transferCheck _ _ _ _ | .voidCheck _ _ | .closeCheck _ _
  | .addLines _ _ _ | .voidLine _ _ _ | .discountLine _ _ _ _ | .setSplit _ _ _ _ | .setPortion _ _ _ _
  | .lockSplit _ _ | .startTender _ _ _ _ _ _ | .submitTip _ _ _ _ _ | .withdrawTender _ _ _
  | .abandonTender _ _ _ | .holdCheck _ _ | .releaseCheck _ _ => true
  | _ => false

/-- The requests that a held check refuses (08 R147). -/
def refusedWhenHeld : Instr → Bool
  | .updateCheck _ _ _ | .presentCheck _ _ | .transferCheck _ _ _ _ | .voidCheck _ _ | .closeCheck _ _
  | .addLines _ _ _ | .voidLine _ _ _ | .discountLine _ _ _ _ | .setSplit _ _ _ _ | .setPortion _ _ _ _
  | .lockSplit _ _ | .startTender _ _ _ _ _ _ | .submitTip _ _ _ _ _ => true
  | _ => false

/-- The table of R8: the states of a check in which a request on it is admitted; for RELEASE CHECK, a check that holds
MANAGER. -/
def admittedIn (c : Check) : Instr → Bool
  | .updateCheck _ _ _ | .voidCheck _ _ | .addLines _ _ _ | .voidLine _ _ _ | .discountLine _ _ _ _
  | .setSplit _ _ _ _ | .setPortion _ _ _ _ | .lockSplit _ _ =>
    decide (c.state = .opened ∨ c.state = .presented)
  | .presentCheck _ _ => decide (c.state = .opened)
  | .transferCheck _ _ _ _ | .submitTip _ _ _ _ _ | .withdrawTender _ _ _ =>
    decide (c.state = .opened ∨ c.state = .presented ∨ c.state = .settling ∨ c.state = .paid)
  | .closeCheck _ _ =>
    decide ((c.state = .opened ∨ c.state = .presented) ∧ c.totals.total = 0 ∨ c.state = .paid ∨ c.state = .closeFault)
  | .startTender _ _ _ _ _ _ => decide (c.state = .opened ∨ c.state = .presented ∨ c.state = .settling)
  | .abandonTender _ _ _ => decide (c.state = .closeFault)
  | .holdCheck _ _ => decide (c.state ≠ .closing)
  | .releaseCheck _ _ => c.holds.manager
  | _ => true

/-- The frame of a request is taken and its class admits the requester (10 R178, R179; 02 R31). -/
abbrev Judged (s : State) (h : Hdr) (cls : ReqClass) : Prop :=
  s.takes h = .taken ∧ s.admits cls h.term = true

/-- The number resolves to a slot and its live check (01 R3). -/
abbrev Named (s : State) (number slot : Nat) (c : Check) : Prop :=
  s.findSlot number = some slot ∧ s.check? slot = some c

/-- The tender number resolves to a record of the pool (06 R98). -/
abbrev NamedTender (s : State) (c : Check) (number i : Nat) (t : Tender) : Prop :=
  c.tenderIndex? number = some i ∧ s.tender? i = some t

/-- The version compares and the check is not held (01 R5, R7). -/
abbrev Ready (c : Check) (h : Hdr) : Prop := c.isStale h.ver = false ∧ c.held = false

/-- The end of a taken request: its answer, in one frame, joins the port's output list, and then the pushes of the
event leave (10 R179, 09 R166). -/
def State.finish (s : State) (h : Hdr) (kind : Nat) (code : Code) (body : List Byte) : State :=
  (s.answer h kind (reply code body)).flushPushes

/-- The kinds recorded for a check number in the hit set of terminal t; none where there is no entry (09 R163). -/
def State.hitKinds (s : State) (t number : Nat) : BitVec 8 :=
  (((s.hitSet t).find? fun x => x.check == number).map Hit.kinds).getD 0

/-- Terminal t watches the check number for an event kind (09 R162). -/
def Awaits (s : State) (t number : Nat) (k : EventKind) : Prop :=
  ∃ w ∈ s.wnu.watches, w.terminal = t ∧ w.check = number ∧ w.mask.getLsbD k.bit = true

/-- A tender on which a status has been set (06 R118). -/
def Tender.withStatus (t : Tender) (st : Status) : Tender :=
  if t.hasStatus then { t with latest := some st } else { t with primary := some st, latest := none }

/-- What the release of its check makes of a tender whose withdraw was deferred: the flag is cleared, and the withdraw
acts by the state reached; any other tender stays as it is (06 R113, R115). -/
def Tender.released (x : Tender) : Tender :=
  if x.deferredWithdraw then
    let y := { x with deferredWithdraw := false }
    match x.state with
    | .tipWait => y.finish .withdrawn
    | .authorizing sub =>
      if x.sent then { y with withdrawRequested := true }
      else
        match sub with
        | .auth => y.finish .withdrawn
        | .increment => y.toReversing
    | .authorized => y.toReversing
    | .reversing | .capturing | .done _ => y
  else x

/-- The release of its check moves the tender to another state, which is a tender event (06 R115). -/
def Tender.endsHold (x : Tender) : Bool := decide (x.released.state ≠ x.state)

/-! ## What each command may change -/

/-- The parts of the state that the frame statements speak of. -/
inductive Part where
  | checks
  | lineRecords
  | tenders
  | statuses
  | tableLists
  | presence
  | link
  | exchanges
  | needs
  | approvals
  | watches
  | hits
  | startup
  | settings
  | clock
  | gatewayFrames
  | power
  deriving DecidableEq, Repr

/-- The tender pool with the leases left out: a frame of a holder renews its leases whatever it asks (05 R91). -/
def State.poolButLeases (s : State) : List (Option Tender) :=
  s.tdu.pool.map (Option.map fun (t : Tender) => { t with lease := .absent })

/-- Two states agree in a part. -/
def Part.same (s t : State) : Part → Prop
  | .checks => t.ckt = s.ckt
  | .lineRecords => t.freeLines = s.freeLines
  | .tenders => t.poolButLeases = s.poolButLeases
  | .statuses => t.tdu.pendingList = s.tdu.pendingList ∧ t.wnu.pendCounts = s.wnu.pendCounts
  | .tableLists => t.fmp.lists = s.fmp.lists
  | .presence => t.fmp.present = s.fmp.present ∧ t.fmp.lastHeard = s.fmp.lastHeard
  | .link => t.aqp.linkOk = s.aqp.linkOk ∧ t.aqp.link = s.aqp.link ∧ t.aqp.timeouts = s.aqp.timeouts
  | .exchanges => t.aqp.entries = s.aqp.entries ∧ t.aqp.tagCounter = s.aqp.tagCounter
  | .needs => t.aqp.queue = s.aqp.queue
  | .approvals => t.apu = s.apu
  | .watches => t.wnu.watches = s.wnu.watches
  | .hits => t.wnu.hits = s.wnu.hits
  | .startup => t.wnu.startup = s.wnu.startup ∧ t.wnu.startKind = s.wnu.startKind
  | .settings => t.sst = s.sst
  | .clock => t.fck = s.fck
  | .gatewayFrames => t.gwp.out = s.gwp.out
  | .power => t.power = s.power

/-- The commands that every part must allow for: the two starts and the loss of retained memory. -/
def isStart : Instr → Bool
  | .coldStart _ | .warmStart _ | .retentionIndicatorLost => true
  | _ => false

/-- The events at the acquirer that end an exchange or a queued need (06, 6.5). -/
def endsNeeds : Instr → Bool
  | .result _ _ | .exchangeTimeout _ | .noLinkCompletion | .linkOkFall => true
  | _ => false

/-- The requests that may release a terminal (02 R35). -/
def releasesTerminal : Instr → Bool
  | .setTerminal _ _ _ _ | .forgetTerminal _ _ | .loadSettings _ _ => true
  | _ => false

/-- The commands that may retire a check (01 R21). -/
def mayRetire : Instr → Bool
  | .voidCheck _ _ | .closeCheck _ _ | .approve _ _ _ | .result _ _ | .exchangeTimeout _ => true
  | _ => false

/-- The requests that may park a change (08 R150). -/
def mayPark : Instr → Bool
  | .transferCheck _ _ _ _ | .voidCheck _ _ | .voidLine _ _ _ | .discountLine _ _ _ _ => true
  | _ => false

/-- The commands that may release a held check, on which deferred withdraws act (08 R149, 06 R115). -/
def mayUnhold : Instr → Bool
  | .releaseCheck _ _ | .approve _ _ _ | .reject _ _ _ | .approvalExpiry _ => true
  | _ => false

/-- The commands that may change a part; a Front-of-House transaction may carry any request of the floor server. -/
def touches (p : Part) (i : Instr) : Bool :=
  match p with
  | .checks => isStart i || endsNeeds i || releasesTerminal i || mayRetire i || mayPark i || mayUnhold i ||
    (match i with
    | .openCheck _ _ _ _ | .updateCheck _ _ _ | .presentCheck _ _ | .addLines _ _ _ | .setSplit _ _ _ _
    | .setPortion _ _ _ _ | .lockSplit _ _ | .startTender _ _ _ _ _ _ | .submitTip _ _ _ _ _
    | .withdrawTender _ _ _ | .abandonTender _ _ _ | .holdCheck _ _ | .ackNoticeAged _ | .fhpTransaction _
    | .leaseExpiry _ _ | .checkAged _ => true
    | _ => false)
  | .lineRecords => isStart i || mayRetire i ||
    (match i with
    | .addLines _ _ _ | .fhpTransaction _ => true
    | _ => false)
  | .tenders => isStart i || endsNeeds i || releasesTerminal i || mayRetire i || mayUnhold i ||
    (match i with
    | .startTender _ _ _ _ _ _ | .submitTip _ _ _ _ _ | .withdrawTender _ _ _ | .fetchStatus _ _ _
    | .abandonTender _ _ _ | .fetchNextPending _ | .fhpTransaction _ | .grant | .leaseExpiry _ _ => true
    | _ => false)
  | .statuses => isStart i || endsNeeds i || releasesTerminal i || mayRetire i ||
    (match i with
    | .fetchStatus _ _ _ | .fetchNextPending _ | .fhpTransaction _ | .leaseExpiry _ _ => true
    | _ => false)
  | .tableLists => isStart i || mayRetire i ||
    (match i with
    | .openCheck _ _ _ _ | .transferCheck _ _ _ _ | .fhpTransaction _ => true
    | _ => false)
  | .presence => isStart i || (requestOf i).isSome ||
    (match i with
    | .malformedRequest _ _ _ | .terminalSilence _ | .fhpTransaction _ => true
    | _ => false)
  | .link => isStart i ||
    (match i with
    | .clearLinkFault _ | .result _ _ | .exchangeTimeout _ | .linkOkFall | .linkOkRise | .fhpTransaction _ => true
    | _ => false)
  | .exchanges => isStart i ||
    (match i with
    | .result _ _ | .exchangeTimeout _ | .grant => true
    | _ => false)
  | .needs => isStart i || endsNeeds i || mayUnhold i ||
    (match i with
    | .startTender _ _ _ _ _ _ | .submitTip _ _ _ _ _ | .withdrawTender _ _ _ | .closeCheck _ _ | .grant
    | .fhpTransaction _ => true
    | _ => false)
  | .approvals => isStart i || releasesTerminal i || mayRetire i || mayPark i ||
    (match i with
    | .reject _ _ _ | .approvalExpiry _ | .fhpTransaction _ => true
    | _ => false)
  | .watches => isStart i || releasesTerminal i || mayRetire i ||
    (match i with
    | .setWatch _ _ _ | .dropWatch _ _ | .fhpTransaction _ => true
    | _ => false)
  | .hits => isStart i || endsNeeds i || releasesTerminal i || mayRetire i || mayPark i || mayUnhold i ||
    (match i with
    | .presentCheck _ _ | .addLines _ _ _ | .startTender _ _ _ _ _ _ | .submitTip _ _ _ _ _
    | .withdrawTender _ _ _ | .holdCheck _ _ | .fetchHits _ | .leaseExpiry _ _ | .fhpTransaction _ => true
    | _ => false)
  | .startup => isStart i ||
    (match i with
    | .ackNoticeStartup _ _ | .fhpTransaction _ => true
    | _ => false)
  | .settings => isStart i ||
    (match i with
    | .setTable _ _ _ _ | .setTerminal _ _ _ _ | .setSetting _ _ _ | .saveSettings _ | .loadSettings _ _
    | .saveEnd _ | .fhpTransaction _ => true
    | _ => false)
  | .clock => isStart i ||
    (match i with
    | .setClock _ _ _ | .secondTick | .minuteTick | .clockAdvanceWithoutPower _ | .fhpTransaction _ => true
    | _ => false)
  | .gatewayFrames => isStart i ||
    (match i with
    | .grant | .outputFrameSent _ => true
    | _ => false)
  | .power => isStart i ||
    (match i with
    | .resetAssert _ => true
    | _ => false)

/-! ## What every step keeps -/

/-- Every command that waits is one that its frame or event can be. -/
def CommandsFit (s : State) : Prop := ∀ i ∈ s.pending, i.wf = true

/-- The working copy is complete and in range, and so are the stored areas in length (11 R188, R189, R191). -/
def Settings.InRange (w : Settings) : Prop :=
  (w.values.length = 23 ∧ ∀ n, 1 ≤ n → n ≤ 23 → (settingBounds n).1 ≤ w.value n ∧ w.value n ≤ (settingBounds n).2)
  ∧ (w.sections.length = Config.tableCount ∧ ∀ x ∈ w.sections, x ≤ 8)
  ∧ w.roles.length = Config.terminalCount ∧ w.masks.length = Config.terminalCount

/-- The contents of a stored area are complete. -/
def RawCopy.Complete (c : RawCopy) : Prop :=
  c.values.length = 23 ∧ c.sections.length = Config.tableCount
  ∧ c.roles.length = Config.terminalCount ∧ c.masks.length = Config.terminalCount

/-- The settings of the working copy and of a copy being saved are in range, and the areas are complete. -/
def SettingsInRange (s : State) : Prop :=
  s.sst.work.InRange ∧ (∀ w, s.sst.saveCopy = some w → w.InRange)
  ∧ (∀ a, s.sst.site = some a → a.contents.Complete) ∧ (∀ a, s.sst.factory = some a → a.contents.Complete)

/-- Versions, error counts, the timeout count and the floor clock stay in their ranges (01 R4; 07 R126, R128;
10 R175, R176, R179; 11 R194). -/
def CountersInRange (s : State) : Prop :=
  (∀ c ∈ s.liveChecks, c.version ≤ Config.maxVersion)
  ∧ (s.flp.crcErrors ≤ Config.countMax ∧ s.flp.framingErrors ≤ Config.countMax ∧ s.flp.overruns ≤ Config.countMax
      ∧ s.flp.pushDrops ≤ Config.countMax)
  ∧ (s.fhp.crcErrors ≤ Config.countMax ∧ s.fhp.framingErrors ≤ Config.countMax ∧ s.fhp.overruns ≤ Config.countMax)
  ∧ (s.gwp.crcErrors ≤ Config.countMax ∧ s.gwp.framingErrors ≤ Config.countMax ∧ s.aqp.discarded ≤ Config.countMax)
  ∧ s.aqp.timeouts ≤ 10
  ∧ (s.fck.day ≤ 65535 ∧ s.fck.minute ≤ 1439 ∧ s.fck.second ≤ 59)

/-- The output lists of the request ports keep to their 32 places, at most 8 frames wait at the Acquirer Port, and no
push is left over between commands (10 R179, R184; 09 R166). -/
def OutputsBounded (s : State) : Prop :=
  s.flp.out.length ≤ Config.outputPlaces ∧ s.fhp.out.length ≤ Config.outputPlaces
  ∧ s.gwp.out.length ≤ Config.exchangeEntries ∧ s.wnu.pushes = []

/-- Every line record is free or on one live check (03 R39). -/
def LinesConserved (s : State) : Prop :=
  s.freeLines + (s.liveChecks.map fun c => c.lines.length).sum = Config.lineRecords

/-- Live checks have distinct numbers in range, and each stands exactly in the open-check list of its table, which
holds at most 4 (01 R1, R2; 02 R25). -/
def ChecksSeated (s : State) : Prop :=
  (s.ckt.slots.length = Config.slotCount ∧ 1 ≤ s.ckt.nextNumber ∧ s.ckt.nextNumber ≤ Config.maxCheckNumber)
  ∧ ((s.liveChecks.map Check.number).Nodup
      ∧ ∀ c ∈ s.liveChecks, 1 ≤ c.number ∧ c.number ≤ Config.maxCheckNumber ∧ tableExists c.table = true)
  ∧ s.fmp.lists.length = Config.tableCount
  ∧ (∀ table, (s.tableList table).Nodup ∧ (s.tableList table).length ≤ Config.tableListMax
      ∧ ∀ slot, slot ∈ s.tableList table ↔ ∃ c, s.check? slot = some c ∧ c.table = table)
  ∧ ∀ a ∈ s.apu.table, ∀ table owner, a.change = .transferCheck table owner → table ≤ Config.tableCount

/-- Every tender stands in the tender list of its check at its own number, and every list entry is such a tender
(06 R96 to R98). -/
def TendersListed (s : State) : Prop :=
  s.tdu.pool.length = Config.tenderRecords
  ∧ (∀ slot c, s.check? slot = some c → c.tenders.length ≤ Config.tenderListMax
      ∧ ∀ k i, c.tenders[k]? = some i → ∃ t, s.tender? i = some t ∧ t.slot = slot ∧ t.number = k + 1)
  ∧ ∀ i t, s.tender? i = some t →
      ∃ c k, s.check? t.slot = some c ∧ c.tenders[k]? = some i ∧ t.number = k + 1

/-- The pending-status list holds exactly the tenders with a pending status, once each, and every terminal's pending
count is the number of them that it holds (06 R118 to R120). -/
def StatusesCounted (s : State) : Prop :=
  s.wnu.pendCounts.length = Config.terminalCount
  ∧ s.tdu.pendingList.Nodup
  ∧ (∀ i, i ∈ s.tdu.pendingList ↔ ∃ t, s.tender? i = some t ∧ t.hasStatus = true)
  ∧ (∀ i t, s.tender? i = some t → t.latest.isSome = true → t.primary.isSome = true)
  ∧ (∀ i t n, s.tender? i = some t → t.holder = some n → terminalExists n = true)
  ∧ ∀ n, terminalExists n = true →
      s.pendCount n = s.tdu.pendingList.countP fun i => (s.tender? i).any fun t => decide (t.holder = some n)

/-- The exchange table has 8 entries, the tags in use are distinct and from 1 to 255, and so is the tag counter
(07 R134). -/
def ExchangesTagged (s : State) : Prop :=
  s.aqp.entries.length = Config.exchangeEntries
  ∧ ((s.aqp.entries.filterMap id).map Exchange.tag).Nodup
  ∧ (∀ e ∈ s.aqp.entries.filterMap id, 1 ≤ e.tag ∧ e.tag ≤ 255)
  ∧ 1 ≤ s.aqp.tagCounter ∧ s.aqp.tagCounter ≤ 255

/-- At most 16 approval records, with distinct numbers from 1 to 255; a check holds APPROVAL exactly when it has a
record, and then one only (08 R144, R150). -/
def ApprovalsHeld (s : State) : Prop :=
  (s.apu.table.length ≤ Config.approvalRecords ∧ 1 ≤ s.apu.counter ∧ s.apu.counter ≤ 255)
  ∧ ((s.apu.table.map Approval.number).Nodup ∧ ∀ a ∈ s.apu.table, 1 ≤ a.number ∧ a.number ≤ 255)
  ∧ (s.apu.table.map Approval.slot).Nodup
  ∧ ∀ slot, slot ∈ s.apu.table.map Approval.slot ↔ ∃ c, s.check? slot = some c ∧ c.holds.approval = true

/-- At most 96 watch entries, one for each terminal and check number, one hit entry for each check number in a hit
set, and at most 8 watches and unwatched hits for each terminal (09 R159, R163). -/
def WatchesLimited (s : State) : Prop :=
  s.wnu.watches.length ≤ Config.watchEntries
  ∧ (s.wnu.watches.map fun w => (w.terminal, w.check)).Nodup
  ∧ ∀ t, ((s.hitSet t).map Hit.check).Nodup ∧ (s.watchesOf t).length + s.unwatchedHits t ≤ Config.watchLimit

/-- Every live check shows the totals of its own lines and covers under the settings in force, with a total within the
money range, and a LOCKED plan's shares sum to its total (01 R6, 04 R62, R64). -/
def TalliesHold (s : State) : Prop :=
  ∀ c ∈ s.liveChecks,
    c.totals = totalsOf s.sst.work c.covers c.lines ∧ c.totals.total ≤ Config.maxAmount
    ∧ (∀ l ∈ c.lines, l.seat ≤ 30 ∧ l.cls ∈ taxClasses)
    ∧ (c.plan.kind = .even → 1 ≤ c.plan.count)
    ∧ (c.plan.state = .locked → c.plan.shareSum = c.totals.total)

/-! ### Tenders, portions, needs and holds -/

/-- The tenders that a check can have in each of its states (01 R9, R17 to R20): none counts in OPEN and PRESENTED, none
is being captured in SETTLING, all are at rest in PAID and CLOSE_FAULT, and all but those being captured in CLOSING. -/
def CheckState.admitsTender : CheckState → TenderState → Bool
  | .opened, st => !st.counts
  | .presented, st => !st.counts
  | .settling, st => decide (st ≠ .capturing)
  | .paid, st => decide (st = .authorized) || st.isDone
  | .closing, st => decide (st = .authorized) || decide (st = .capturing) || st.isDone
  | .closeFault, st => decide (st = .authorized) || st.isDone

/-- Every check has only tenders that its state admits, one in SETTLING or PAID is in the state derived from its records,
and a line change is parked only on a check in OPEN or PRESENTED (01 R9; 03 R50, R52). -/
def TendersFitChecks (s : State) : Prop :=
  (∀ slot c, s.check? slot = some c →
    (∀ x ∈ s.tendersOf c, c.state.admitsTender x.state = true)
    ∧ (c.state = .settling ∨ c.state = .paid → c.state = derivedState c.plan (s.tendersOf c)))
  ∧ ∀ a ∈ s.apu.table, (∃ line, a.change = .voidLine line ∨ ∃ d, a.change = .discountLine line d) →
      ∀ c, s.check? a.slot = some c → c.orderable = true

/-- The sum that stands against portion number n of a check: the amounts of its tenders that count (05 R87). -/
def State.countedSum (s : State) (c : Check) (n : Nat) : Nat :=
  (((s.tendersOf c).filter fun x => x.state.counts && x.portion == n).map Tender.amount).sum

/-- Every portion's counted sum is that of the tenders that count against it and is within its share, every tender that
counts does so against a portion, and a portion is claimed by exactly its tender in TIP_WAIT or AUTHORIZING
(05 R87, R90). -/
def PortionsCounted (s : State) : Prop :=
  ∀ slot c, s.check? slot = some c →
    (c.plan.portions.map Portion.number).Nodup
    ∧ (∀ x ∈ s.tendersOf c, x.state.counts = true → x.portion ∈ c.plan.portions.map Portion.number)
    ∧ ∀ p ∈ c.plan.portions, p.counted = s.countedSum c p.number ∧ p.counted ≤ p.share
      ∧ ∀ i, p.claim = some i ↔
          i ∈ c.tenders ∧ ∃ x, s.tender? i = some x ∧ x.portion = p.number ∧ x.state.claims = true

/-- The state of the tender whose need has a kind (07 R132, R134). -/
def NeedKind.tenderState : NeedKind → TenderState
  | .auth => .authorizing .auth
  | .increment => .authorizing .increment
  | .reverse => .reversing
  | .capture => .capturing

/-- The tenders that hold a place in the wait queue, and after them those that hold an exchange entry. -/
def State.needing (s : State) : List Nat :=
  s.aqp.queue.map Need.tender ++ (s.aqp.entries.filterMap id).map Exchange.tender

/-- No tender holds two places of the wait queue and the exchange table together; each that holds one is in the state
that placed its need, sent exactly when it has the entry; and every tender in such a state holds one (07 R132,
R134). -/
def NeedsMatched (s : State) : Prop :=
  s.needing.Nodup
  ∧ (∀ n ∈ s.aqp.queue, ∃ x, s.tender? n.tender = some x ∧ x.state = n.kind.tenderState ∧ x.sent = false)
  ∧ (∀ e ∈ s.aqp.entries.filterMap id, ∃ x, s.tender? e.tender = some x ∧ x.state = e.kind.tenderState ∧ x.sent = true)
  ∧ ∀ i x, s.tender? i = some x → x.state.exchanging = true → i ∈ s.needing

/-- A tender's amount plus tip is within its hold ceiling in AUTHORIZED, CAPTURING and AUTHORIZING (INCREMENT), the tip
held in the last being above it; before approval there is no authorized total (04 R76 to R78). -/
def CeilingsHold (s : State) : Prop :=
  ∀ i x, s.tender? i = some x →
    (x.state = .authorized ∨ x.state = .capturing ∨ x.state = .authorizing .increment →
      ∃ a t, x.authTotal = some a ∧ x.tolerance = some t ∧ x.amount + x.tip ≤ a + a * t / 100000)
    ∧ (x.state = .authorizing .increment →
      ∃ h ceiling, x.heldTip = some h ∧ x.ceiling = some ceiling ∧ ceiling < x.amount + h)
    ∧ (x.state = .tipWait → x.authTotal = none)
    ∧ (x.state = .authorizing .auth → x.authTotal = none ∧ x.authAmount = some (x.amount + x.tip))

end Sys2Proof.Machine
end

