-- ==== Sys2Proof/Certificates/Slice0/Obligations.lean ====
section
/-! DEFINITION. The statements about the model: what each command does when it is carried out, what the shared
operations of the part do, which parts of the state a command leaves alone, and what every step keeps. -/

open Sys2Proof Sys2Proof.Machine

/-! ## The step, reset, and the codes of a request -/

/-- The command at the front of the queue is carried out on the state with the rest of the queue; on an empty queue
the block idles (the model's own queue, log entries 1 and 2). -/
def Obligations.StepRunsFrontCommand : Prop :=
  (∀ (c : Instr) (rest : List Instr) (s : State), s.pending = c :: rest → step s = exec c { s with pending := rest })
  ∧ ∀ s : State, s.pending = [] → step s = .next s

/-- Every command answers a next state, and none changes the queue of commands. -/
def Obligations.EveryCommandAnswersNext : Prop :=
  ∀ (i : Instr) (s : State), ∃ t, exec i s = .next t ∧ t.pending = s.pending

/-- The state at reset: what a cold start leaves free, empty, 0 or set (R1, R2, R39, R96, R119, R134, R143, R150,
R159, R171, R194), and that it meets every invariant below; the factory contents and the level of LINK_OK are the
model's choice (log entries 3 and 4). -/
def Obligations.ResetState : Prop :=
  State.reset.ckt.slots = List.replicate 192 none ∧ State.reset.ckt.nextNumber = 1 ∧ State.reset.freeLines = 3072
  ∧ State.reset.tdu.pool = List.replicate 320 none ∧ State.reset.tdu.pendingList = []
  ∧ State.reset.fmp.lists = List.replicate 400 [] ∧ State.reset.fmp.present = List.replicate 48 false
  ∧ State.reset.aqp.entries = List.replicate 8 none ∧ State.reset.aqp.queue = []
  ∧ State.reset.aqp.tagCounter = 1 ∧ State.reset.aqp.timeouts = 0 ∧ State.reset.aqp.discarded = 0
  ∧ State.reset.apu = { table := [], counter := 1 }
  ∧ State.reset.wnu.watches = [] ∧ State.reset.wnu.hits = List.replicate 48 []
  ∧ State.reset.wnu.pendCounts = List.replicate 48 0
  ∧ State.reset.wnu.startup = true ∧ State.reset.wnu.startKind = .cold
  ∧ State.reset.sst.work = Settings.defaults ∧ State.reset.sst.save = .idle
  ∧ State.reset.fck.unset = true ∧ State.reset.fck.timebase = 0
  ∧ State.reset.flp.out = [] ∧ State.reset.fhp.out = [] ∧ State.reset.pending = []
  ∧ CommandsFit State.reset ∧ SettingsInRange State.reset ∧ CountersInRange State.reset ∧ OutputsBounded State.reset
  ∧ LinesConserved State.reset ∧ ChecksSeated State.reset ∧ TendersListed State.reset ∧ StatusesCounted State.reset
  ∧ ExchangesTagged State.reset ∧ ApprovalsHeld State.reset ∧ WatchesLimited State.reset ∧ TalliesHold State.reset
  ∧ TendersFitChecks State.reset ∧ PortionsCounted State.reset ∧ NeedsMatched State.reset ∧ CeilingsHold State.reset

/-- A request that is taken is answered with a code, in one frame, or in one or more where READ LINES or READ PART
STATUS is TAKEN, behind the frames that waited in the output list of its port (R180); unless that code is TAKEN, PARKED
or DEFERRED, nothing changes beyond what the frame itself carries, but for the split-fault record that a LOCK SPLIT
answered RANGE writes on its check when it would otherwise have been admitted (R181, R28, R70, R85). -/
def Obligations.RefusedRequestsChangeNothing : Prop :=
  ∀ (i : Instr) (h : Hdr) (kind : Nat) (cls : ReqClass) (s : State),
    requestOf i = some (h, kind, cls) → i.wf = true → s.takes h = .taken →
    ∃ (code : Code) (bodies : List (List Byte)) (u : State),
      exec i s = .next ((u.answer h kind { code, bodies }).flushPushes)
      ∧ code ≠ .malformed ∧ bodies ≠ []
      ∧ (bodies.length = 1 ∨ code = .taken ∧ (kind = 0x23 ∨ kind = 0x85))
      ∧ u.outList h.port = s.outList h.port
      ∧ (code = .taken ∨ code = .parked ∨ code = .deferred ∨ u = s.hear h.term
          ∨ ∃ check slot c, i = .lockSplit h check ∧ code = .range
              ∧ Judged s h .change ∧ Named s check slot c ∧ s.mayChange h.term c = true ∧ Ready c h
              ∧ c.orderable = true ∧ c.plan.kind = .custom ∧ c.plan.shareSum ≠ c.totals.total
              ∧ u = (s.hear h.term).modCheck slot fun _ =>
                  { c with splitFault := some (splitFaultOf c.plan.shareSum c.totals.total) })

/-- The first step of the access decision refuses a request of a class that does not admit the requester, whatever the
request names (R31); once it admits, a check number that no live check carries answers ABSENT (R3). -/
def Obligations.EarlyRefusals : Prop :=
  (∀ (i : Instr) (h : Hdr) (kind : Nat) (cls : ReqClass) (s : State),
    requestOf i = some (h, kind, cls) → i.wf = true → s.takes h = .taken → s.admits cls h.term = false →
    exec i s = .next ((s.hear h.term).finish h kind .denied []))
  ∧ ∀ (i : Instr) (h : Hdr) (kind : Nat) (cls : ReqClass) (number : Nat) (s : State),
    requestOf i = some (h, kind, cls) → i.wf = true → Judged s h cls →
    namedCheck i = some number → s.findSlot number = none →
    exec i s = .next ((s.hear h.term).finish h kind .absent [])

/-- A request whose expected version differs from that of the check it names answers STALE, with the version and
state, or a code that precedes STALE; a held check refuses every request that would change it with HELD or a code that
precedes HELD; a request on a check in a state outside its row of the table of R8 answers BUSY or a code that precedes BUSY;
APPROVE of a check that holds MANAGER answers HELD; each way nothing changes (R5, R8, R147, R153, R181). -/
def Obligations.StaleAndHeldRefusals : Prop :=
  (∀ (i : Instr) (h : Hdr) (kind : Nat) (cls : ReqClass) (number slot : Nat) (c : Check) (s : State),
    requestOf i = some (h, kind, cls) → i.wf = true → Judged s h cls →
    comparesVersion i = true → namedCheck i = some number → Named s number slot c →
    h.ver ≠ 65535 → h.ver ≠ c.version →
    ∃ (code : Code) (body : List Byte),
      exec i s = .next ((s.hear h.term).finish h kind code body)
      ∧ (code = .denied ∨ code = .absent ∨ code = .range
          ∨ code = .stale ∧ body = be2 c.version ++ be1 c.state.toNat))
  ∧ (∀ (i : Instr) (h : Hdr) (kind : Nat) (cls : ReqClass) (number slot : Nat) (c : Check) (s : State),
    requestOf i = some (h, kind, cls) → i.wf = true → Judged s h cls →
    refusedWhenHeld i = true → namedCheck i = some number → Named s number slot c → c.held = true →
    ∃ (code : Code) (body : List Byte),
      exec i s = .next ((s.hear h.term).finish h kind code body)
      ∧ (code = .denied ∨ code = .absent ∨ code = .range ∨ code = .stale ∨ code = .held))
  ∧ (∀ (i : Instr) (h : Hdr) (kind : Nat) (cls : ReqClass) (number slot : Nat) (c : Check) (s : State),
    requestOf i = some (h, kind, cls) → i.wf = true → Judged s h cls →
    namedCheck i = some number → Named s number slot c → admittedIn c i = false →
    ∃ (code : Code) (body : List Byte),
      exec i s = .next ((s.hear h.term).finish h kind code body)
      ∧ (code = .denied ∨ code = .absent ∨ code = .range
          ∨ code = .stale ∧ h.ver ≠ 65535 ∧ h.ver ≠ c.version
          ∨ code = .held ∧ c.held = true
          ∨ code = .pending ∧ (s.hear h.term).anyPending c = true
          ∨ code = .claimed ∧ (∃ q ∈ c.plan.portions, q.claim.isSome = true)
          ∨ code = .busy ∧ body = []))
  ∧ ∀ (h : Hdr) (number slot n : Nat) (c : Check) (a : Approval) (s : State), Judged s h .manager →
    Named s number slot c → s.approvalOf slot = some a → n = 0 ∨ n = a.number →
    h.term = 0 ∨ a.requester ≠ some h.term → c.holds.manager = true →
    exec (.approve h number n) s = .next ((s.hear h.term).finish h 0x52 .held [])

/-! ## Requests carried out: presence and reading -/

/-- HELLO, READ CHECK, READ LINES, READ TABLE, READ PART STATUS and READ SETTING are answered with what they read, and
change nothing but what their frame carries; READ SETTING answers RANGE for a number of 0 or above 23 and DENIED to a
terminal (R33, R12, R54, R38, R186, R190, R182, R31). The order and sizes of the fields of an answer are those of log
entry 14, a count in one byte is that of log entry 11. -/
def Obligations.ReadingRequestsComplete : Prop :=
  (∀ (s : State) (h : Hdr), s.takes h = .taken →
    exec (.hello h) s = .next ((s.hear h.term).finish h 0x01 .taken
      (be1 (s.role h.term).toNat ++ be1 (s.sectionsMask h.term).toNat ++ be1 (s.setting 22)
        ++ countByte (s.pendCount h.term) ++ flagByte (!(s.hitSet h.term).isEmpty))))
  ∧ (∀ (s : State) (h : Hdr) (number slot : Nat) (c : Check), Judged s h .read → Named s number slot c →
    s.mayRead h.term c = true →
    exec (.readCheck h number) s = .next ((s.hear h.term).finish h 0x11 .taken (s.summary c)))
  ∧ (∀ (s : State) (h : Hdr) (number slot first last : Nat) (c : Check), Judged s h .read → Named s number slot c →
    s.mayRead h.term c = true → 1 ≤ first → first ≤ last → last ≤ 120 →
    exec (.readLines h number first last) s = .next
      (((s.hear h.term).answer h 0x23 { code := .taken, bodies := c.lineFrames first last }).flushPushes))
  ∧ (∀ (s : State) (h : Hdr) (table : Nat), Judged s h .floorServer → 1 ≤ table → table ≤ 400 →
    exec (.readTable h table) s = .next (s.finish h 0x73 .taken
      (be1 (s.sectionOf table) ++ (((s.tableList table).filterMap s.check?).map seatedBytes).flatten)))
  ∧ (∀ (s : State) (h : Hdr), Judged s h .floorServer →
    exec (.readPartStatus h) s = .next ((s.answer h 0x85
      { code := .taken, bodies := [s.statusPart0, s.statusPart1, s.statusPart2] }).flushPushes))
  ∧ (∀ (s : State) (h : Hdr) (n : Nat), Judged s h .floorServer → n = 0 ∨ 23 < n →
    exec (.readSetting h n) s = .next (s.finish h 0x81 .range (be1 1 ++ be1 0 ++ be1 1 ++ be4 0 ++ be4 0 ++ be4 0 ++ be1 0)))
  ∧ (∀ (s : State) (h : Hdr) (n : Nat), Judged s h .floorServer → 1 ≤ n → n ≤ 23 →
    exec (.readSetting h n) s = .next (s.finish h 0x81 .taken
      (be1 n ++ be4 (s.setting n) ++ be4 (settingBounds n).1 ++ be4 (settingBounds n).2)))
  ∧ settingBounds 22 = (0, 2 ^ 8 - 1) ∧ settingBounds 23 = (0, 2 ^ 13 - 1)
  ∧ ∀ (s : State) (h : Hdr) (n : Nat), s.takes h = .taken → h.term ≠ 0 →
    exec (.readSetting h n) s = .next ((s.hear h.term).finish h 0x81 .denied [])

/-! ## Requests on checks -/

/-- OPEN CHECK makes an OPEN check of version 0 in the lowest free slot and joins it to its table's list (R11, R1). -/
def Obligations.OpenCheckCompletes : Prop :=
  ∀ (s : State) (h : Hdr) (table covers owner slot : Nat),
    Judged s h .change →
    (s.isServer h.term = true → (owner = 255 ∨ owner = h.term) ∧ s.works h.term (s.sectionOf table) = true) →
    (s.isServer h.term = false → owner = 255 ∨ s.mayOwn owner = true) →
    1 ≤ table → table ≤ 400 → 1 ≤ covers → covers ≤ 30 → s.sectionOf table ≠ 0 →
    s.freeSlot = some slot → (s.tableList table).length < 4 →
    ∃ (c : Check) (t : State),
      exec (.openCheck h table covers owner) s = .next (t.finish h 0x10 .taken (s.summary c))
      ∧ c.number = s.freeNumber ∧ c.table = table ∧ c.covers = covers
      ∧ c.owner = (if owner = 255 then h.term else owner)
      ∧ c.state = .opened ∧ c.version = 0 ∧ c.holds.any = false ∧ c.closeFault = none
      ∧ c.openedDay = s.fck.day ∧ c.openedMinute = s.fck.minute ∧ c.aged = false ∧ c.agedAck = false
      ∧ c.nextLine = 1 ∧ c.lines = [] ∧ c.tenders = []
      ∧ c.totals = { subtotal := 0, taxes := [0, 0, 0, 0, 0, 0, 0, 0], service := 0, total := 0 }
      ∧ c.plan.kind = .unsplit ∧ c.plan.state = .locked
      ∧ c.plan.portions = [{ number := 1, share := 0, seat := none, counted := 0, claim := none }]
      ∧ t = { s.hear h.term with
              ckt := { slots := s.ckt.slots.set slot (some c), nextNumber := cycleSucc 9999 s.freeNumber }
              fmp := { (s.hear h.term).fmp with lists := mod1 s.fmp.lists table (· ++ [slot]) } }

/-- UPDATE CHECK, PRESENT CHECK and a TRANSFER CHECK that is not parked change their check, once each with one
version step (R13, R14, R15, R4); what a recomputation gives is stated in SplitRequestsComplete. That TRANSFER CHECK is
answered with the check summary is log entry 15. -/
def Obligations.CheckRequestsComplete : Prop :=
  (∀ (s : State) (h : Hdr) (number slot covers : Nat) (c c' : Check), Judged s h .change → Named s number slot c →
    s.mayChange h.term c = true → Ready c h → c.orderable = true → 1 ≤ covers → covers ≤ 30 →
    recompute s.sst.work { c with covers } = .ok c' →
    exec (.updateCheck h number covers) s = .next
      (((s.hear h.term).modCheck slot fun _ => { c' with version := nextVersion c.version }).finish h 0x12 .taken
        (s.summary { c' with version := nextVersion c.version })))
  ∧ (∀ (s : State) (h : Hdr) (number slot : Nat) (c : Check), Judged s h .change → Named s number slot c →
    s.mayChange h.term c = true → Ready c h → c.state = .opened →
    exec (.presentCheck h number) s = .next
      ((((s.hear h.term).modCheck slot fun _ =>
            { c with version := nextVersion c.version, state := .presented }).handEvent number .presented).finish
        h 0x13 .taken (s.summary { c with version := nextVersion c.version, state := .presented })))
  ∧ (∀ (s : State) (h : Hdr) (number slot table owner : Nat) (c : Check), Judged s h .change →
    Named s number slot c → s.mayChange h.term c = true → Ready c h → c.closeRunning = false →
    ¬(movesTable c table = false ∧ changesOwner c owner = false) →
    (movesTable c table = true → table ≤ 400 ∧ s.sectionOf table ≠ 0 ∧ (s.tableList table).length < 4
      ∧ (s.isServer h.term = true → s.works h.term (s.sectionOf table) = true)) →
    (changesOwner c owner = true → s.mayOwn owner = true ∧ s.isServer h.term = false) →
    exec (.transferCheck h number table owner) s = .next
      (((if movesTable c table then ((s.hear h.term).unseat c.table slot).seatAt table slot
          else s.hear h.term).modCheck slot fun _ =>
            { c with table := if movesTable c table then table else c.table
                     owner := if changesOwner c owner then owner else c.owner
                     version := nextVersion c.version }).finish h 0x14 .taken
        (s.summary { c with table := if movesTable c table then table else c.table
                            owner := if changesOwner c owner then owner else c.owner
                            version := nextVersion c.version })))

/-- VOID CHECK from a manager or the floor server retires an OPEN or PRESENTED check; CLOSE CHECK retires a check with
nothing to capture, and else takes it to CLOSING with its captures, from PAID or CLOSE_FAULT (R16, R17, R18, R103). The
answers to a retirement follow log entries 12 and 14; that the answer from CLOSE_FAULT carries the summary is log entry
15. -/
def Obligations.ClosingRequestsComplete : Prop :=
  (∀ (s : State) (h : Hdr) (number slot : Nat) (c : Check), Judged s h .change → Named s number slot c →
    s.mayChange h.term c = true → Ready c h → s.isServer h.term = false →
    (s.hear h.term).anyPending c = false → c.orderable = true →
    exec (.voidCheck h number) s = .next
      (((s.hear h.term).retire slot).finish h 0x15 .taken (be2 number ++ [Config.retiredByte])))
  ∧ (∀ (s : State) (h : Hdr) (number slot : Nat) (c : Check), Judged s h .change → Named s number slot c →
    s.mayChange h.term c = true → Ready c h → (s.hear h.term).anyPending c = false → c.mayClose = true →
    (s.hear h.term).toCapture c = [] →
    exec (.closeCheck h number) s = .next
      (((s.hear h.term).retire slot).finish h 0x16 .taken (be2 number ++ [Config.retiredByte])))
  ∧ (∀ (s : State) (h : Hdr) (number slot : Nat) (c : Check), Judged s h .change → Named s number slot c →
    s.mayChange h.term c = true → Ready c h → (s.hear h.term).anyPending c = false → c.mayClose = true →
    (s.hear h.term).toCapture c ≠ [] →
    ∃ t : State, exec (.closeCheck h number) s = .next (t.finish h 0x16 .taken
        (s.summary { c with version := nextVersion c.version, state := .closing, closeFault := none }))
      ∧ t.check? slot = some { c with version := nextVersion c.version, state := .closing, closeFault := none }
      ∧ (∀ j, j ≠ slot → t.check? j = s.check? j)
      ∧ t.aqp.queue = s.aqp.queue ++ (((s.hear h.term).toCapture c).map fun i => ({ tender := i, kind := .capture } : Need))
      ∧ ∀ i, t.tender? i = ((s.hear h.term).tender? i).map fun x =>
          if i ∈ (s.hear h.term).toCapture c then { x with state := .capturing, captureFault := false, sent := false }
          else x)

/-! ## Requests on lines and plans -/

/-- ADD LINES, and VOID LINE and DISCOUNT LINE that are not parked, write their lines, the figures computed from them
and one version step; ADD LINES reopens a PRESENTED check (R40, R41, R43, R46 to R48, R51); what a recomputation gives is
stated in SplitRequestsComplete. The order of the fields of the answers is log entry 14. -/
def Obligations.LineRequestsComplete : Prop :=
  (∀ (s : State) (h : Hdr) (number slot : Nat) (entries : List LineEntry) (c c' : Check), Judged s h .change →
    Named s number slot c → s.mayChange h.term c = true → 1 ≤ entries.length → entries.length ≤ 8 →
    firstBadEntry 1 entries = none → recompute s.sst.work (c.withLines entries h.term) = .ok c' →
    Ready c h → c.orderable = true → c.nextLine + entries.length ≤ 121 → entries.length ≤ s.freeLines →
    exec (.addLines h number entries) s = .next
      ((fun t : State => (if c.state = .presented then t.handEvent number .reopened else t).finish h 0x20 .taken
          (be1 c.nextLine ++ be1 entries.length
            ++ s.summary { c' with version := nextVersion c.version, state := .opened }))
        (({ s.hear h.term with freeLines := s.freeLines - entries.length } : State).modCheck slot fun _ =>
          { c' with version := nextVersion c.version, state := .opened })))
  ∧ (∀ (s : State) (h : Hdr) (number slot line : Nat) (c c' : Check) (l : Line), Judged s h .change →
    Named s number slot c → s.mayChange h.term c = true → c.line? line = some l → l.void = false →
    recompute s.sst.work (c.withVoid line) = .ok c' → Ready c h → c.orderable = true →
    (s.isServer h.term = true → c.state ≠ .presented) →
    exec (.voidLine h number line) s = .next
      (((s.hear h.term).modCheck slot fun _ => { c' with version := nextVersion c.version }).finish h 0x21 .taken
        (be1 line ++ be4 (l.gross - l.discount) ++ s.summary { c' with version := nextVersion c.version })))
  ∧ (∀ (s : State) (h : Hdr) (number slot line amount : Nat) (c c' : Check) (l : Line), Judged s h .change →
    Named s number slot c → s.mayChange h.term c = true → c.line? line = some l → l.void = false →
    amount ≤ 99999999 → recompute s.sst.work (c.withDiscount line (min amount l.gross)) = .ok c' →
    Ready c h → c.orderable = true →
    (s.isServer h.term = true → min amount l.gross ≤ l.gross * s.setting 14 / 100000) →
    exec (.discountLine h number line amount) s = .next
      (((s.hear h.term).modCheck slot fun _ => { c' with version := nextVersion c.version }).finish h 0x22 .taken
        (be1 line ++ be4 amount ++ be4 (min amount l.gross) ++ be4 (l.gross - min amount l.gross)
          ++ s.summary { c' with version := nextVersion c.version })))

/-- A SERVER's void of a check, transfer to another owner, void of a line on a PRESENTED check and discount above the
threshold are answered PARKED: an approval record takes the first free number, the check gains APPROVAL with one version
step, its leases pause with the hold, APPROVAL_WAITING is announced when the table was empty, and nothing else of the
check changes (R15, R16, R50, R52, R144, R150, R151). The layout of the answer's parked change is log entry 14;
that a discount lowered to one still above the threshold is parked is log entry 39. -/
def Obligations.ParkedChangesComplete : Prop :=
  ∀ (s : State) (h : Hdr) (number slot : Nat) (c : Check) (i : Instr) (kind : Nat) (change : Parked),
    Judged s h .change → Named s number slot c → s.mayChange h.term c = true → Ready c h →
    s.isServer h.term = true → s.apu.table.length < 16 → s.approvalOf slot = none →
    ((i = .voidCheck h number ∧ kind = 0x15 ∧ change = .voidCheck ∧ c.orderable = true
        ∧ (s.hear h.term).anyPending c = false)
      ∨ (∃ table owner, i = .transferCheck h number table owner ∧ kind = 0x14
          ∧ change = .transferCheck (if movesTable c table then table else 0) owner
          ∧ changesOwner c owner = true ∧ s.mayOwn owner = true ∧ c.closeRunning = false
          ∧ (movesTable c table = true → table ≤ 400 ∧ s.sectionOf table ≠ 0 ∧ (s.tableList table).length < 4
              ∧ s.works h.term (s.sectionOf table) = true))
      ∨ (∃ line l c', i = .voidLine h number line ∧ kind = 0x21 ∧ change = .voidLine line
          ∧ c.line? line = some l ∧ l.void = false ∧ c.state = .presented
          ∧ recompute s.sst.work (c.withVoid line) = .ok c')
      ∨ (∃ line amount l c', i = .discountLine h number line amount ∧ kind = 0x22
          ∧ change = .discountLine line (min amount l.gross) ∧ c.line? line = some l ∧ l.void = false
          ∧ c.orderable = true ∧ amount ≤ 99999999 ∧ l.gross * s.setting 14 / 100000 < min amount l.gross
          ∧ recompute s.sst.work (c.withDiscount line (min amount l.gross)) = .ok c')) →
    ∃ (a : Approval) (t : State),
      exec i s = .next (t.finish h kind .parked (be1 a.number ++ be1 change.toNat ++ parkedBytes change
        ++ s.summary { c with holds := { c.holds with approval := true }, version := nextVersion c.version }))
      ∧ a.number = firstFree (s.apu.table.map Approval.number) 255 (s.apu.table.length + 1) s.apu.counter
      ∧ a.slot = slot ∧ a.requester = some h.term ∧ a.change = change ∧ a.deadline = s.fck.timebase + s.setting 19
      ∧ t.apu = { table := s.apu.table ++ [a], counter := cycleSucc 255 a.number }
      ∧ t.check? slot = some { c with holds := { c.holds with approval := true }, version := nextVersion c.version }
      ∧ (∀ j, j ≠ slot → t.check? j = s.check? j)
      ∧ t = (fun u : State => if s.apu.table = [] then u.announceWaiting else u)
          (({ s.hear h.term with apu := { table := s.apu.table ++ [a], counter := cycleSucc 255 a.number } } :
            State).addHold slot .approval)
      ∧ (∀ i, t.tender? i = ((s.hear h.term).tender? i).map fun x =>
          if x.slot = slot ∧ x.state = .tipWait then
            { x with lease := match x.lease with
                | .running d => .paused (max 1 (d - s.fck.timebase))
                | l => l }
          else x)
      ∧ t.wnu.hits = (s.handEvent number .held).wnu.hits
      ∧ t.freeLines = s.freeLines ∧ t.fmp.lists = s.fmp.lists ∧ t.sst = s.sst ∧ t.aqp = s.aqp

/-- SET SPLIT builds a plan, SET PORTION enters a CUSTOM amount and makes the plan DRAFT, and LOCK SPLIT locks a CUSTOM
plan whose amounts sum to the total, or answers RANGE and writes the split-fault record. SET PORTION writes the one amount
and leaves every other portion; a CUSTOM plan starts in DRAFT with amounts of 0; a recomputation, of lines, covers or a
parked change too, keeps the CUSTOM amounts and returns a LOCKED CUSTOM plan to DRAFT exactly when the total changes, and
builds any other plan anew (R83 to R86, R70, R71, R6, R62, R66). The order
of the fields of the answers is log entry 14, the sum that SET PORTION reports log entry 36. -/
def Obligations.SplitRequestsComplete : Prop :=
  (∀ (s : State) (h : Hdr) (number slot kind count : Nat) (k : PlanKind) (c : Check), Judged s h .change →
    Named s number slot c → s.mayChange h.term c = true → PlanKind.ofNat? kind = some k →
    badSplitCount k count = false → (k = .bySeat → badSeatCount (seatsPresent c.lines).length = false) →
    Ready c h → c.orderable = true →
    exec (.setSplit h number kind count) s = .next
      ((fun c' : Check => ((s.hear h.term).modCheck slot fun _ => c').finish h 0x30 .taken (s.summary c'))
        { c with version := nextVersion c.version, totals := totalsOf s.sst.work c.covers c.lines
                 plan := buildPlan s.sst.work c.covers c.lines k count, splitFault := none }))
  ∧ (∀ (s : State) (h : Hdr) (number slot portion amount : Nat) (c : Check), Judged s h .change →
    Named s number slot c → s.mayChange h.term c = true → c.plan.kind = .custom →
    1 ≤ portion → portion ≤ c.plan.count → portion ≤ 20 → amount ≤ c.totals.total →
    Ready c h → c.orderable = true →
    exec (.setPortion h number portion amount) s = .next
      (((s.hear h.term).modCheck slot fun _ =>
          { c with version := nextVersion c.version, plan := c.plan.enter portion amount }).finish h 0x31 .taken
        (be1 portion ++ be4 amount ++ be4 (c.plan.enter portion amount).shareSum ++ be4 c.totals.total)))
  ∧ (∀ (s : State) (h : Hdr) (number slot : Nat) (c : Check), Judged s h .change →
    Named s number slot c → s.mayChange h.term c = true → c.plan.kind = .custom →
    Ready c h → c.orderable = true → c.plan.shareSum = c.totals.total →
    exec (.lockSplit h number) s = .next
      ((fun c' : Check => ((s.hear h.term).modCheck slot fun _ => c').finish h 0x32 .taken (s.summary c'))
        { c with version := nextVersion c.version, plan := { c.plan with state := .locked }, splitFault := none }))
  ∧ (∀ (s : State) (h : Hdr) (number slot : Nat) (c : Check), Judged s h .change →
    Named s number slot c → s.mayChange h.term c = true → c.plan.kind = .custom →
    Ready c h → c.orderable = true → c.plan.shareSum ≠ c.totals.total →
    exec (.lockSplit h number) s = .next
      ((fun f : SplitFault =>
          ((s.hear h.term).modCheck slot fun _ => { c with splitFault := some f }).finish h 0x32 .range
            (be1 5 ++ be1 0 ++ be1 0 ++ be4 f.sum ++ be4 f.total ++ be4 f.difference ++ be1 f.isOver.toNat))
        { sum := min c.plan.shareSum 99999999, total := c.totals.total
          isOver := decide (c.totals.total < c.plan.shareSum)
          difference := min (c.plan.shareSum - c.totals.total + (c.totals.total - c.plan.shareSum)) 99999999 }))
  -- SET PORTION on a plan
  ∧ (∀ (plan : Plan) (portion amount : Nat),
    (plan.enter portion amount).kind = plan.kind ∧ (plan.enter portion amount).count = plan.count
    ∧ (plan.enter portion amount).state = .draft
    ∧ (plan.enter portion amount).portions.length = plan.portions.length
    ∧ ∀ (k : Nat) (q : Portion), plan.portions[k]? = some q →
        (plan.enter portion amount).portions[k]? = some (if q.number = portion then { q with share := amount } else q))
  -- a CUSTOM plan as SET SPLIT builds it
  ∧ (∀ (w : Settings) (covers n : Nat) (lines : List Line),
    (buildPlan w covers lines .custom n).kind = .custom ∧ (buildPlan w covers lines .custom n).count = n
    ∧ (buildPlan w covers lines .custom n).state = .draft
    ∧ (buildPlan w covers lines .custom n).portions
        = (List.range n).map fun p => { number := p + 1, share := 0, seat := none, counted := 0, claim := none })
  -- a recomputation
  ∧ ∀ (w : Settings) (c c' : Check), recompute w c = .ok c' ↔
    (totalsOf w c.covers c.lines).total ≤ 99999999
    ∧ (c.plan.kind = .bySeat → 1 ≤ (seatsPresent c.lines).length ∧ (seatsPresent c.lines).length ≤ 20)
    ∧ c' = { c with
        totals := totalsOf w c.covers c.lines
        plan := if c.plan.kind = .custom then
            { c.plan with state :=
                if c.plan.state = .locked ∧ (totalsOf w c.covers c.lines).total ≠ c.totals.total then .draft
                else c.plan.state }
          else buildPlan w c.covers c.lines c.plan.kind c.plan.count }

/-! ## Requests on tenders -/

/-- START TENDER takes the lowest free record: cash counts the smaller of what is given and the balance and ends
PAID_CASH with its change; a card tender takes the amount asked, 0 asking for the whole balance, and waits in TIP_WAIT
with its lease, or in AUTHORIZING with its AUTH need. The tender joins its check's list and the version steps once; the
portion counts the amount and a card tender takes its claim; the state is derived, and a changed one hands on its event
(R72, R73, R99, R101, R102, R4, R9, R10, R87, R90). The answer's order, the tender number and then the status body, is log
entry 14. -/
def Obligations.StartTenderCompletes : Prop :=
  (∀ (s : State) (h : Hdr) (number slot portion kind asked i : Nat) (token : List Byte) (c : Check) (p : Portion),
    Judged s h .change → Named s number slot c → s.mayChange h.term c = true → token.length = 32 →
    portion ≤ c.plan.count → c.plan.portion? portion = some p → asked ≤ 99999999 → p.claim = none →
    Ready c h → c.startBusy = false → c.tenders.length < 16 → s.freeTenderIndex = some i →
    (kind = 0 → p.balance ≠ 0 →
      exec (.startTender h number portion kind asked token) s = .next
        ((fun t : State => t.finish h 0x40 .taken (be1 (c.tenders.length + 1) ++ t.tenderBody i))
          ((s.hear h.term).beginTender i
            { newTender slot (c.tenders.length + 1) portion .cash (holderOf h.term) (s.sectionOf c.table)
                (min (if asked = 0 then p.balance else asked) p.balance) with
              state := .done .paidCash, cashGiven := some (if asked = 0 then p.balance else asked)
              change := some ((if asked = 0 then p.balance else asked)
                - min (if asked = 0 then p.balance else asked) p.balance) })))
    ∧ (kind = 1 → (if asked = 0 then p.balance else asked) ≠ 0 → asked ≤ p.balance →
      exec (.startTender h number portion kind asked token) s = .next
        ((fun t : State => t.finish h 0x40 .taken (be1 (c.tenders.length + 1) ++ t.tenderBody i))
          ((s.hear h.term).beginTender i
            { newTender slot (c.tenders.length + 1) portion .tipFirst (holderOf h.term) (s.sectionOf c.table)
                (if asked = 0 then p.balance else asked) with
              state := .tipWait, token := some token, lease := .running (s.fck.timebase + s.setting 15) })))
    ∧ (kind = 2 → (if asked = 0 then p.balance else asked) ≠ 0 → asked ≤ p.balance →
      exec (.startTender h number portion kind asked token) s = .next
        ((fun t : State => t.finish h 0x40 .taken (be1 (c.tenders.length + 1) ++ t.tenderBody i))
          (((s.hear h.term).beginTender i
            { newTender slot (c.tenders.length + 1) portion .tipLater (holderOf h.term) (s.sectionOf c.table)
                (if asked = 0 then p.balance else asked) with
              state := .authorizing .auth, token := some token
              authAmount := some (if asked = 0 then p.balance else asked) }).placeNeed i .auth))))
  -- what a new tender makes of its check
  ∧ (∀ (s : State) (i : Nat) (x : Tender) (c : Check), s.check? x.slot = some c → i < s.tdu.pool.length →
    c.closeRunning = false →
    ∃ c', (s.beginTender i x).check? x.slot = some c'
      ∧ c' = { c with
          version := nextVersion c.version
          tenders := c.tenders ++ [i]
          plan := { c.plan with portions := c.plan.portions.map fun q =>
            if q.number = x.portion then
              { q with
                counted := q.counted + x.amount
                claim := if x.state = .tipWait ∨ x.state = .authorizing .auth ∨ x.state = .authorizing .increment
                  then some i else q.claim }
            else q }
          state := derivedState c'.plan ((s.beginTender i x).tendersOf c') }
      ∧ (s.beginTender i x).wnu = (if c'.state = c.state then s.wnu
          else (s.handEvent c.number (derivedEvent c'.state)).wnu)
      ∧ (s.beginTender i x).tender? i = some x
      ∧ (∀ j, j ≠ i → (s.beginTender i x).tender? j = s.tender? j)
      ∧ (∀ j, j ≠ x.slot → (s.beginTender i x).check? j = s.check? j)
      ∧ s.beginTender i x = { s with
          ckt := { s.ckt with slots := (s.beginTender i x).ckt.slots }
          tdu := { s.tdu with pool := (s.beginTender i x).tdu.pool }
          wnu := (s.beginTender i x).wnu })
  -- what a need makes of its tender
  ∧ ∀ (s : State) (i : Nat) (k : NeedKind),
    (s.placeNeed i k).aqp = { s.aqp with queue := s.aqp.queue ++ [{ tender := i, kind := k }] }
    ∧ (s.placeNeed i k).tender? i = (s.tender? i).map (fun x => { x with sent := false })
    ∧ ∀ j, j ≠ i → (s.placeNeed i k).tender? j = s.tender? j

/-- SUBMIT TIP: a TIP_WAIT tender goes to AUTHORIZING for amount plus tip; an AUTHORIZED one takes a new tip within its
ceiling at once, and above it holds the tip and places an INCREMENT (R74, R75, R77, R105, R106). That the answer is the
status body alone is log entry 14. -/
def Obligations.SubmitTipCompletes : Prop :=
  ∀ (s : State) (h : Hdr) (number slot tender form figure i : Nat) (c : Check) (x : Tender) (tip : Nat),
    Judged s h .change → Named s number slot c → s.mayChange h.term c = true →
    NamedTender (s.hear h.term) c tender i x →
    ((form = 0 ∧ tip = figure)
      ∨ (form = 1 ∧ figure ≤ 200000 ∧ tip = roundCent (s.setting 9) (x.amount * figure))) →
    tip ≤ x.amount * s.setting 12 / 100000 → x.amount + tip ≤ 99999999 →
    Ready c h → c.closeRunning = false →
    (x.state = .tipWait →
      exec (.submitTip h number tender form figure) s = .next
        ((fun t : State => t.finish h 0x41 .taken (t.tenderBody i))
          (((s.hear h.term).tenderEvent i fun y =>
            { y with tip, authAmount := some (y.amount + tip), state := .authorizing .auth
                     lease := .absent }).placeNeed i .auth)))
    ∧ (x.state = .authorized → x.amount + tip ≤ x.ceiling.getD 0 → tip ≠ x.tip →
      exec (.submitTip h number tender form figure) s = .next
        ((fun t : State => t.finish h 0x41 .taken (t.tenderBody i))
          ((s.hear h.term).tenderEvent i fun y => { y with tip })))
    ∧ (x.state = .authorized → x.amount + tip ≤ x.ceiling.getD 0 → tip = x.tip →
      exec (.submitTip h number tender form figure) s = .next
        ((s.hear h.term).finish h 0x41 .taken ((s.hear h.term).tenderBody i)))
    ∧ (x.state = .authorized → x.ceiling.getD 0 < x.amount + tip → c.claimedByOther i x = false →
      exec (.submitTip h number tender form figure) s = .next
        ((fun t : State => t.finish h 0x41 .taken (t.tenderBody i))
          (((s.hear h.term).tenderEvent i fun y =>
            { y with heldTip := some tip, state := .authorizing .increment }).placeNeed i .increment)))

/-- WITHDRAW TENDER acts by the tender's state, or is DEFERRED on a held check; FETCH STATUS reports the status it
clears; ABANDON TENDER writes a faulted tender off (R112, R113, R115, R121, R116, R20). -/
def Obligations.TenderRequestsComplete : Prop :=
  (∀ (s : State) (h : Hdr) (number slot tender i : Nat) (c : Check) (x : Tender), Judged s h .tender →
    Named s number slot c → NamedTender (s.hear h.term) c tender i x → s.mayTender h.term x = true →
    c.isStale h.ver = false → x.hasStatus = false → c.closeRunning = false →
    (c.held = true → x.state ≠ .reversing → x.state ≠ .capturing → x.state.isDone = false →
      (x.state.exchanging = true → x.sent = false ∨ x.withdrawRequested = false) →
      exec (.withdrawTender h number tender) s = .next
        ((fun t : State => t.finish h 0x42 .deferred (t.tenderBody i))
          ((s.hear h.term).modTender i fun y => { y with deferredWithdraw := true })))
    ∧ (c.held = false → x.state = .tipWait →
      exec (.withdrawTender h number tender) s = .next
        ((fun t : State => t.finish h 0x42 .taken (t.tenderBody i))
          ((s.hear h.term).tenderEvent i fun y => y.finish .withdrawn)))
    ∧ (c.held = false → x.state = .authorized →
      exec (.withdrawTender h number tender) s = .next
        ((fun t : State => t.finish h 0x42 .taken (t.tenderBody i))
          (((s.hear h.term).tenderEvent i Tender.toReversing).placeNeed i .reverse)))
    ∧ (c.held = false → x.state = .authorizing .auth → x.sent = false →
      exec (.withdrawTender h number tender) s = .next
        ((fun t : State => t.finish h 0x42 .taken (t.tenderBody i))
          (((s.hear h.term).removeNeed i).tenderEvent i fun y => y.finish .withdrawn)))
    ∧ (c.held = false → x.state = .authorizing .increment → x.sent = false →
      exec (.withdrawTender h number tender) s = .next
        ((fun t : State => t.finish h 0x42 .taken (t.tenderBody i))
          ((((s.hear h.term).removeNeed i).tenderEvent i Tender.toReversing).placeNeed i .reverse)))
    ∧ (c.held = false → (∃ k, x.state = .authorizing k) → x.sent = true → x.withdrawRequested = false →
      exec (.withdrawTender h number tender) s = .next
        ((fun t : State => t.finish h 0x42 .taken (t.tenderBody i))
          ((s.hear h.term).modTender i fun y => { y with withdrawRequested := true }))))
  ∧ (∀ (s : State) (h : Hdr) (number slot tender i : Nat) (c : Check) (x : Tender), Judged s h .tender →
    Named s number slot c → NamedTender (s.hear h.term) c tender i x → s.mayTender h.term x = true →
    exec (.fetchStatus h number tender) s = .next
      (((s.hear h.term).collect i).finish h 0x43 .taken ((s.hear h.term).tenderBody i)))
  ∧ (∀ (s : State) (h : Hdr) (number slot tender i : Nat) (c : Check) (x : Tender), Judged s h .floorServer →
    Named s number slot c → NamedTender s c tender i x → c.isStale h.ver = false → c.state = .closeFault →
    x.state = .authorized → x.captureFault = true →
    exec (.abandonTender h number tender) s = .next
      ((fun t : State => t.finish h 0x44 .taken (t.tenderBody i))
        ((s.modTender i fun y => { y with state := .done .writtenOff, captureFault := false }).modCheck slot fun _ =>
          { c with version := nextVersion c.version, closeFault := c.closeFault.map (· - 1) })))

/-! ## Holds, approvals, watches and notices -/

/-- HOLD CHECK adds MANAGER, and is TAKEN without effect when it is there; RELEASE CHECK removes it; APPROVE makes the
parked change, or reports the code that refuses it, or retires the check, as the second judgement of each kind of change
gives it; REJECT ends the record unmade; both remove APPROVAL and hand the ending on (R145, R146, R153 to R156). The
bodies of the answers are log entry 14's, the byte of a retirement log entry 12's. -/
def Obligations.HoldAndApprovalRequestsComplete : Prop :=
  (∀ (s : State) (h : Hdr) (number slot : Nat) (c : Check), Judged s h .manager → Named s number slot c →
    c.isStale h.ver = false → c.state ≠ .closing → c.holds.manager = false →
    exec (.holdCheck h number) s = .next
      ((fun t : State => t.finish h 0x50 .taken (t.summaryAt slot)) ((s.hear h.term).addHold slot .manager)))
  ∧ (∀ (s : State) (h : Hdr) (number slot : Nat) (c : Check), Judged s h .manager → Named s number slot c →
    c.isStale h.ver = false → c.state ≠ .closing → c.holds.manager = true →
    exec (.holdCheck h number) s = .next ((s.hear h.term).finish h 0x50 .taken (s.summary c)))
  ∧ (∀ (s : State) (h : Hdr) (number slot : Nat) (c : Check), Judged s h .manager → Named s number slot c →
    c.isStale h.ver = false → c.holds.manager = true →
    exec (.releaseCheck h number) s = .next
      ((fun t : State => t.finish h 0x51 .taken (t.summaryAt slot)) ((s.hear h.term).removeHold slot .manager)))
  ∧ (∀ (s : State) (h : Hdr) (number slot n : Nat) (c : Check) (a : Approval), Judged s h .manager →
    Named s number slot c → s.approvalOf slot = some a → n = 0 ∨ n = a.number →
    h.term = 0 ∨ a.requester ≠ some h.term → c.holds.manager = false →
    (∀ code, ((s.hear h.term).dropApproval a).evaluate slot c a.change = .refused code →
      exec (.approve h number n) s = .next
        ((fun t : State => t.finish h 0x52 .taken (be1 a.number ++ be1 code.toNat ++ t.summaryAt slot))
          ((((s.hear h.term).dropApproval a).removeHold slot .approval).announceEnding a number code.toNat)))
    ∧ (∀ u, ((s.hear h.term).dropApproval a).evaluate slot c a.change = .applied u →
      exec (.approve h number n) s = .next
        ((fun t : State => t.finish h 0x52 .taken (be1 a.number ++ be1 16 ++ t.summaryAt slot))
          ((u.removeHold slot .approval).announceEnding a number 16)))
    ∧ (∀ u, ((s.hear h.term).dropApproval a).evaluate slot c a.change = .retired u →
      exec (.approve h number n) s = .next
        ((u.announceEnding a number 16).finish h 0x52 .taken
          (be1 a.number ++ be1 16 ++ be2 number ++ [Config.retiredByte]))))
  ∧ (∀ (s : State) (h : Hdr) (number slot n : Nat) (c : Check) (a : Approval), Judged s h .manager →
    Named s number slot c → s.approvalOf slot = some a → n = 0 ∨ n = a.number →
    exec (.reject h number n) s = .next
      ((fun t : State => t.finish h 0x53 .taken (be1 a.number ++ t.summaryAt slot))
        ((((s.hear h.term).dropApproval a).removeHold slot .approval).announceEnding a number 17)))
  -- the second judgement of a line change
  ∧ (∀ (s : State) (slot line : Nat) (c : Check) (l : Line), c.line? line = some l →
    (∀ c', recompute s.sst.work (c.withVoid line) = .ok c' →
      s.evaluate slot c (.voidLine line) =
        if l.void = true then .refused .busy else .applied (s.modCheck slot fun _ => c'))
    ∧ ((∀ c', recompute s.sst.work (c.withVoid line) ≠ .ok c') →
      s.evaluate slot c (.voidLine line) = .refused .range)
    ∧ ∀ applied,
      (∀ c', recompute s.sst.work (c.withDiscount line (min applied l.gross)) = .ok c' →
        s.evaluate slot c (.discountLine line applied) =
          if l.void = true then .refused .busy else .applied (s.modCheck slot fun _ => c'))
      ∧ ((∀ c', recompute s.sst.work (c.withDiscount line (min applied l.gross)) ≠ .ok c') →
        s.evaluate slot c (.discountLine line applied) = .refused .range))
  -- of a void of the check, and of a transfer
  ∧ (∀ (s : State) (slot : Nat) (c : Check), s.evaluate slot c .voidCheck =
      if s.anyPending c = true then .refused .pending
      else if c.orderable = false then .refused .busy
      else .retired (s.retire slot))
  ∧ (∀ (s : State) (slot table owner : Nat) (c : Check), s.evaluate slot c (.transferCheck table owner) =
      if changesOwner c owner = true ∧ s.mayOwn owner = false ∨ movesTable c table = false ∧ changesOwner c owner = false
      then .refused .range
      else if c.closeRunning = true ∨ movesTable c table = true ∧ s.sectionOf table = 0 then .refused .busy
      else if movesTable c table = true ∧ 4 ≤ (s.tableList table).length then .refused .full
      else .applied ((if movesTable c table then (s.unseat c.table slot).seatAt table slot else s).modCheck slot fun x =>
        { x with table := if movesTable c table then table else x.table
                 owner := if changesOwner c owner then owner else x.owner }))

/-- SET WATCH writes the terminal's mask for the check, DROP WATCH removes it and leaves its hits, FETCH HITS reports
the hit set and empties it; FETCH NEXT PENDING reports and collects the oldest status of an enabled class; ACK NOTICE
clears the STARTUP latch or acknowledges the aged checks (R160, R161, R164, R172, R173). The bodies of the answers follow
log entry 14, their counts log entry 11. -/
def Obligations.WatchAndNoticeRequestsComplete : Prop :=
  (∀ (s : State) (h : Hdr) (number slot mask : Nat) (c : Check), Judged s h .watch → Named s number slot c →
    s.mayRead h.term c = true → BitVec.ofNat 8 mask ≠ 0 → s.watchesCheck h.term number = true →
    exec (.setWatch h number mask) s = .next
      ((fun t : State => t.finish h 0x60 .taken
          (be2 number ++ be1 mask ++ be1 c.state.toNat ++ be2 c.version ++ t.watchCounts h.term))
        { s.hear h.term with wnu := { (s.hear h.term).wnu with watches := s.wnu.watches.map fun w =>
            if w.terminal = h.term ∧ w.check = number then { w with mask := BitVec.ofNat 8 mask } else w } }))
  ∧ (∀ (s : State) (h : Hdr) (number slot mask : Nat) (c : Check), Judged s h .watch → Named s number slot c →
    s.mayRead h.term c = true → BitVec.ofNat 8 mask ≠ 0 → s.watchesCheck h.term number = false →
    s.wnu.watches.length < 96 →
    (s.watchesOf h.term).length + 1
      + ((s.hitSet h.term).countP fun x => x.check != number && !s.watchesCheck h.term x.check) ≤ 8 →
    exec (.setWatch h number mask) s = .next
      ((fun t : State => t.finish h 0x60 .taken
          (be2 number ++ be1 mask ++ be1 c.state.toNat ++ be2 c.version ++ t.watchCounts h.term))
        { s.hear h.term with wnu := { (s.hear h.term).wnu with watches := s.wnu.watches ++
            [{ terminal := h.term, check := number, mask := BitVec.ofNat 8 mask }] } }))
  ∧ (∀ (s : State) (h : Hdr) (number : Nat), Judged s h .watch → s.watchesCheck h.term number = true →
    exec (.dropWatch h number) s = .next
      ((fun t : State => t.finish h 0x61 .taken (t.watchCounts h.term))
        { s.hear h.term with wnu := { (s.hear h.term).wnu with watches := s.wnu.watches.filter fun w =>
            !(w.terminal == h.term && w.check == number) } }))
  ∧ (∀ (s : State) (h : Hdr), Judged s h .watch →
    exec (.fetchHits h) s = .next
      (((s.hear h.term).setHits h.term []).finish h 0x62 .taken ((s.hitSet h.term).map hitBytes).flatten))
  ∧ (∀ (s : State) (h : Hdr) (i : Nat) (rest : List Nat), Judged s h .floorServer → s.eligible = i :: rest →
    exec (.fetchNextPending h) s = .next
      ((s.collect i).finish h 0x68 .taken (s.tenderBody i ++ countByte (s.collect i).eligible.length)))
  ∧ (∀ (s : State) (h : Hdr), Judged s h .floorServer → s.eligible = [] →
    exec (.fetchNextPending h) s = .next (s.finish h 0x68 .absent []))
  ∧ (∀ (s : State) (h : Hdr), Judged s h .floorServer →
    exec (.ackNoticeStartup h 13) s = .next
      (({ s with wnu := { s.wnu with startup := false } } : State).finish h 0x69 .taken (be1 s.wnu.startKind.toNat)))
  ∧ (∀ (s : State) (h : Hdr), Judged s h .floorServer →
    exec (.ackNoticeAged h) s = .next
      (({ s with ckt := { s.ckt with slots := s.ckt.slots.map (Option.map fun (c : Check) =>
          { c with agedAck := c.agedAck || c.aged }) } } : State).finish h 0x69 .taken
        (countByte ((s.liveChecks.filter fun c => c.aged && !c.agedAck).length))))

/-! ## Floor map, settings, clock and link requests -/

/-- SET TABLE writes the section of its tables, SET TERMINAL a terminal's role and mask with what a role change sets
off, FORGET TERMINAL releases a terminal (R34, R36, R37). The bodies of the answers follow log entry 14, their counts log
entry 11. -/
def Obligations.FloorMapRequestsComplete : Prop :=
  (∀ (s : State) (h : Hdr) (first last sect : Nat), Judged s h .floorServer → 1 ≤ first → first ≤ last →
    last ≤ 400 → sect ≤ 8 → s.sst.save ≠ .saving →
    (sect = 0 → ∀ table, first ≤ table → table ≤ last → s.tableList table = []) →
    ∃ t : State,
      exec (.setTable h first last sect) s = .next (t.finish h 0x70 .taken
        (countByte ((tablesFrom first last).countP fun table => s.sectionOf table != sect)))
      ∧ (s.sst.work.sections.length = 400 → ∀ table, t.sectionOf table =
          if first ≤ table ∧ table ≤ last then sect else s.sectionOf table)
      ∧ t = { s with sst := { s.sst with work := { s.sst.work with sections := t.sst.work.sections } } })
  ∧ (∀ (s : State) (h : Hdr) (n role mask : Nat) (new : Role), Judged s h .floorServer → 1 ≤ n → n ≤ 48 →
    Role.ofNat? role = some new → s.sst.save ≠ .saving →
    exec (.setTerminal h n role mask) s = .next
      ((fun t : State => (match new with
          | .off => if s.role n = Role.off then t.setPresent n false else (t.releaseTerminal n).1
          | .server => t
          | .manager => if s.role n ≠ Role.manager ∧ s.isPresent n = true ∧ s.apu.table ≠ [] then
              t.raise (.approvalWaiting n) else t).finish h 0x71 .taken (be1 role ++ be1 mask))
        { s with sst := { s.sst with work := { s.sst.work with
            roles := set1 s.sst.work.roles n new, masks := set1 s.sst.work.masks n (BitVec.ofNat 8 mask) } } }))
  ∧ (∀ (s : State) (h : Hdr) (n : Nat), Judged s h .floorServer → 1 ≤ n → n ≤ 48 →
    exec (.forgetTerminal h n) s = .next ((s.releaseTerminal n).1.finish h 0x72 .taken
      (countByte (s.releaseTerminal n).2.withdrawn ++ countByte (s.releaseTerminal n).2.unheld
        ++ countByte (s.releaseTerminal n).2.watches)))

/-- SET SETTING writes the value clamped to its range, SAVE SETTINGS starts a save of a copy, LOAD SETTINGS replaces the
working copy and releases the terminals it turns OFF, CLEAR LINK FAULT ends a FAILED link (R189, R192, R193, R131). SET
CLOCK writes the day and minute, clears the seconds and clock-unset and changes nothing else, answers RANGE for a minute
above 1,439, and is DENIED to a terminal (R195, R182, R31). The bodies of the answers follow log entry 14, their counts
log entry 11, and the grants that follow an UP link are commands of their own (log entry 8). -/
def Obligations.SettingsRequestsComplete : Prop :=
  (∀ (s : State) (h : Hdr) (n v : Nat), Judged s h .floorServer → 1 ≤ n → n ≤ 23 → s.sst.save ≠ .saving →
    (n ≤ 11 → s.liveChecks = []) →
    exec (.setSetting h n v) s = .next
      ((fun applied : Nat => ({ s with sst := { s.sst with work := { s.sst.work with
            values := set1 s.sst.work.values n applied } } } : State).finish h 0x80 .taken
          (be1 n ++ be4 v ++ be4 applied))
        (if n = 22 then v % 256 else if n = 23 then v % 8192
          else max (settingBounds n).1 (min v (settingBounds n).2))))
  ∧ (∀ (s : State) (h : Hdr), Judged s h .floorServer → s.sst.save ≠ .saving →
    exec (.saveSettings h) s = .next
      (({ s with sst := { s.sst with saveCopy := some s.sst.work, site := none, save := .saving } } : State).finish
        h 0x82 .taken []))
  ∧ (∀ (s : State) (h : Hdr) (source : Nat) (area : Area) (loaded : LoadedFrom), Judged s h .floorServer →
    (source = 0 ∧ s.sst.site = some area ∧ loaded = .site)
      ∨ (source = 1 ∧ s.sst.factory = some area ∧ loaded = .factory) →
    area.valid = true → s.sst.save ≠ .saving → s.liveChecks = [] →
    exec (.loadSettings h source) s = .next
      (((s.turnedOff area.contents.toSettings).foldl (fun (t : State) n => (t.releaseTerminal n).1)
          { s with sst := { s.sst with work := area.contents.toSettings, loaded } }).finish h 0x83 .taken
        (be1 source ++ countByte (s.turnedOff area.contents.toSettings).length)))
  ∧ (∀ (s : State) (h : Hdr), Judged s h .floorServer →
    exec (.clearLinkFault h) s = .next
      ((fun t : State => t.finish h 0x90 .taken t.linkBody)
        { s with aqp := { s.aqp with
            timeouts := 0
            link := if s.aqp.link = .failed then (if s.aqp.linkOk then .up else .down) else s.aqp.link } }))
  ∧ (∀ (s : State) (h : Hdr) (day minute : Nat), Judged s h .floorServer → 1439 < minute →
    exec (.setClock h day minute) s = .next
      (s.finish h 0x84 .range (be1 1 ++ be1 0 ++ be1 2 ++ be4 0 ++ be4 0 ++ be4 0 ++ be1 0)))
  ∧ (∀ (s : State) (h : Hdr) (day minute : Nat), Judged s h .floorServer → minute ≤ 1439 →
    exec (.setClock h day minute) s = .next
      (({ s with fck := { s.fck with day, minute, second := 0, unset := false } } : State).finish h 0x84 .taken
        (be2 day ++ be2 minute)))
  ∧ ∀ (s : State) (h : Hdr) (day minute : Nat), s.takes h = .taken → h.term ≠ 0 →
    exec (.setClock h day minute) s = .next ((s.hear h.term).finish h 0x84 .denied [])

/-! ## Frames and transactions -/

/-- What each frame that is not a well-formed request changes: an answer MALFORMED with its reason, or one error count,
which stops at 65,535, and the assembler; and what a request whose frame is not taken does: reason 1 with no presence
update, the overrun count or the framing count of its port alone, or nothing (R175, R176, R178, R179, R126, R28, R187).
The order of the tests on a frame, and that a frame met in SKIP or in an ignored transaction is lost, are log entry
17's; that the assembler moves in whole commands is log entry 34's. -/
def Obligations.BadFramesCounted : Prop :=
  (∀ (s : State) (h : Hdr) (kind bodyLen : Nat), s.takes h = .taken → bodyLengths kind = [] →
    exec (.malformedRequest h kind bodyLen) s = .next ((s.hear h.term).finish h kind .malformed (be1 2)))
  ∧ (∀ (s : State) (h : Hdr) (kind bodyLen : Nat), s.takes h = .taken → bodyLengths kind ≠ [] →
    bodyLen ∉ bodyLengths kind →
    exec (.malformedRequest h kind bodyLen) s = .next ((s.hear h.term).finish h kind .malformed (be1 3)))
  ∧ (∀ (s : State) (h : Hdr) (kind bodyLen : Nat), s.takes h = .badRequester →
    exec (.malformedRequest h kind bodyLen) s = .next (s.answer h kind (reply .malformed (be1 1))))
  -- a request whose frame is not taken
  ∧ (∀ (i : Instr) (h : Hdr) (kind : Nat) (cls : ReqClass) (s : State), requestOf i = some (h, kind, cls) →
    (s.takes h = .badRequester → exec i s = .next (s.answer h kind (reply .malformed (be1 1))))
    ∧ (s.takes h = .overrun → exec i s = .next (match h.port with
        | .flp => { s with flp := { s.flp with overruns := satSucc s.flp.overruns } }
        | .fhp => { s with fhp := { s.fhp with overruns := satSucc s.fhp.overruns } }))
    ∧ (s.takes h = .tagZero → exec i s = .next (match h.port with
        | .flp => { s with flp := { s.flp with framingErrors := satSucc s.flp.framingErrors } }
        | .fhp => { s with fhp := { s.fhp with framingErrors := satSucc s.fhp.framingErrors } }))
    ∧ (s.takes h = .lost → exec i s = .next s))
  ∧ (∀ (s : State) (h : Hdr), s.takes h =
      if s.running = false ∨ s.receives h.port = false then .lost
      else if h.tag = 0 then .tagZero
      else if 32 < (s.outList h.port).length + 12 then .overrun
      else if h.port = .flp ∧ 1 ≤ h.term ∧ h.term ≤ 48 ∨ h.port = .fhp ∧ h.term = 0 then .taken
      else .badRequester)
  ∧ (∀ (s : State) (port : ReqPort), s.running = true → s.receives port = true →
    exec (.tagZeroFrame port) s = .next (match port with
      | .flp => { s with flp := { s.flp with framingErrors := satSucc s.flp.framingErrors } }
      | .fhp => { s with fhp := { s.fhp with framingErrors := satSucc s.fhp.framingErrors } }))
  ∧ (∀ (s : State) (port : Port), s.portReceives port = true →
    exec (.crcErrorFrame port) s = .next (match port with
      | .flp => { s with flp := { s.flp with crcErrors := satSucc s.flp.crcErrors } }
      | .fhp => { s with fhp := { s.fhp with crcErrors := satSucc s.fhp.crcErrors } }
      | .aqp => { s with gwp := { s.gwp with crcErrors := satSucc s.gwp.crcErrors } }))
  ∧ (∀ (s : State) (port : ReqPort), s.running = true → s.receives port = true →
    32 < (s.outList port).length + 12 →
    exec (.requestOverrun port) s = .next (match port with
      | .flp => { s with flp := { s.flp with overruns := satSucc s.flp.overruns } }
      | .fhp => { s with fhp := { s.fhp with overruns := satSucc s.fhp.overruns } }))
  ∧ (∀ (s : State) (len : Nat), s.running = true → s.flp.assembler = .idle → len < 5 ∨ 245 < len →
    exec (.frameLenError .flp len) s = .next
      { s with flp := { s.flp with framingErrors := satSucc s.flp.framingErrors, assembler := .skip } })
  ∧ (∀ (s : State) (len : Nat), s.running = true → s.gwp.assembler = .idle → len < 3 ∨ 245 < len →
    exec (.frameLenError .aqp len) s = .next
      { s with gwp := { s.gwp with framingErrors := satSucc s.gwp.framingErrors, assembler := .skip } })
  ∧ (∀ (s : State) (port : StreamPort) (count : Nat), s.running = true → s.assembler port = .skip →
    exec (.frameIdleTimeout port count) s = .next (s.assemblerIdle port))
  ∧ (∀ (s : State) (port : StreamPort) (count : Nat), s.running = true → s.assembler port ≠ .skip → 0 < count →
    exec (.frameIdleTimeout port count) s = .next (s.framingError port .idle))
  ∧ ∀ (s : State) (kind : Nat), s.running = true → s.gwp.assembler = .idle → kind ≠ 0xC8 →
    exec (.nonResultFrame kind) s = .next { s with aqp := { s.aqp with discarded := satSucc s.aqp.discarded } }

/-- A Front-of-House transaction whose bytes carry the whole frame of a request runs that request, presents the frame
at the head of the output list before it, and lets that frame leave when all of it was shifted out (R177). -/
def Obligations.TransactionRunsRequest : Prop :=
  ∀ (s t : State) (i : Instr) (h : Hdr) (kind : Nat) (body content extra : List Byte),
    i.wf = true → requestParts i = some (h, kind, body) → h.port = .fhp → encodeRequest i = some content →
    s.running = true → s.fhp.ignore = false → exec i s = .next t →
    exec (.fhpTransaction (frameWire content ++ extra)) s = .next
      ((t.leaveHead (frameWire content ++ extra).length s.fhp.out.head?).setSdo
        (shiftedOut (frameWire content ++ extra).length ((s.fhp.out.head?.map Frame.wire).getD [])))

/-- A transaction that carries no request shifts the presented frame out and lets it leave; a frame that has left a
stream port is gone from its list and its bytes are those of its wire form (R177, R179, R184). -/
def Obligations.OutputFramesLeave : Prop :=
  (∀ (s : State) (f : Frame) (fs : List Frame) (n : Nat), s.running = true → s.fhp.ignore = false →
    s.fhp.out = f :: fs → 2 ≤ n → f.wire.length ≤ n →
    exec (.fhpTransaction (List.replicate n 0)) s = .next
      { s with fhp := { s.fhp with out := fs, sdo := f.wire ++ List.replicate (n - f.wire.length) 0 } })
  ∧ (∀ (s : State) (f : Frame) (fs : List Frame) (n : Nat), s.running = true → s.fhp.ignore = false →
    s.fhp.out = f :: fs → 2 ≤ n → n < f.wire.length →
    exec (.fhpTransaction (List.replicate n 0)) s = .next
      { s with fhp := { s.fhp with sdo := f.wire.take n } })
  ∧ (∀ (s : State) (f : Frame) (fs : List Frame), s.running = true → s.flp.out = f :: fs →
    exec (.outputFrameSent .flp) s = .next { s with flp := { s.flp with out := fs, sent := f.wire } })
  ∧ (∀ (s : State) (f : Frame) (fs : List Frame), s.running = true → s.gwp.out = f :: fs →
    exec (.outputFrameSent .aqp) s = .next { s with gwp := { s.gwp with out := fs, txd := f.wire } })

/-! ## Acquirer events -/

/-- A RESULT that matches an exchange by tag and kind frees its entry and ends the exchange; every other RESULT is
discarded and counted; each sets the consecutive-timeout count to 0. A timeout frees the entry, raises that count, which
fails the link at the setting with its departure from UP, and then ends the exchange (R126, R128, R129, R136, R137). That a
RESULT with another LEN still sets the count to 0 is log entry 26, the list of the timeouts found due log entry 6; bytes
of the body that are all 0 are absent (R184). -/
def Obligations.ResultsAndTimeoutsEndExchanges : Prop :=
  (∀ (s : State) (tag j : Nat) (e : Exchange) (body : List Byte), s.running = true → s.gwp.assembler = .idle →
    body.length = 20 → s.entryIndex tag = some j → s.exchange? j = some e →
    (body.getD 0 0).toNat = e.kind.toNat →
    exec (.result tag body) s = .next
      (((({ s with aqp := { s.aqp with timeouts := 0, entries := s.aqp.entries.set j none } } : State).endExchange
          e.kind e.tender
          (if body.getD 1 0 = 0 then
            .approved (presentBytes ((body.drop 2).take 12)) (presentBytes ((body.drop 14).take 6))
          else .refused))).flushPushes))
  ∧ (∀ (s : State) (tag : Nat) (body : List Byte), s.running = true → s.gwp.assembler = .idle →
    (body.length ≠ 20 ∨ s.entryIndex tag = none
      ∨ ∃ j e, s.entryIndex tag = some j ∧ s.exchange? j = some e ∧ (body.getD 0 0).toNat ≠ e.kind.toNat) →
    exec (.result tag body) s = .next
      { s with aqp := { s.aqp with timeouts := 0, discarded := satSucc s.aqp.discarded } })
  ∧ ∀ (s : State) (tag j : Nat) (e : Exchange), s.running = true → tag ∈ s.due.exchanges →
    s.entryIndex tag = some j → s.exchange? j = some e → e.deadline ≤ s.fck.timebase →
    (s.aqp.timeouts + 1 < s.setting 18 →
      exec (.exchangeTimeout tag) s = .next
        (({ s with
            due := { s.due with exchanges := s.due.exchanges.filter (· != tag) }
            aqp := { s.aqp with entries := s.aqp.entries.set j none
                                timeouts := s.aqp.timeouts + 1 } } : State).endExchange
          e.kind e.tender .timeout).flushPushes)
    ∧ (s.setting 18 ≤ s.aqp.timeouts + 1 →
      exec (.exchangeTimeout tag) s = .next
        (((fun t : State => if s.aqp.link = .up then t.departUp else t) { s with
            due := { s.due with exchanges := s.due.exchanges.filter (· != tag) }
            aqp := { s.aqp with entries := s.aqp.entries.set j none
                                timeouts := s.setting 18, link := .failed } }).endExchange
          e.kind e.tender .timeout).flushPushes)

/-- GRANT gives the head of the wait queue a free entry with the next tag, sends its message, and marks the tender
sent, and nothing else changes; the lowest free entry is log entry 10, and the departure of the head frame while 8
frames wait, which R184 lets no ninth join, is the model's choice, log entry 27 (R79, R125, R133 to R135, R184). The
LINK_OK input: its fall takes an UP link to DOWN with the departure from UP, its rise a DOWN link to UP, and a FAILED
link follows neither; while the link is not UP the oldest queued AUTH or INCREMENT need is completed as NO_LINK. The
departure completes every queued AUTH and INCREMENT need and leaves the others in their order (R127, R129, R130; log
entry 9 for the need that one command completes). -/
def Obligations.GrantAndLinkEventsComplete : Prop :=
  (∀ (s : State) (n : Need) (rest : List Need) (j : Nat) (x : Tender),
    s.running = true → s.aqp.link = .up → s.freeEntry = some j → s.aqp.queue = n :: rest →
    s.tender? n.tender = some x →
    exec .grant s = .next (({ s with
      aqp := { s.aqp with
        queue := rest
        entries := s.aqp.entries.set j (some
          { tag := s.nextTag, tender := n.tender, kind := n.kind, amount := messageAmount x n.kind
            deadline := s.fck.timebase + s.setting 16 })
        tagCounter := cycleSucc 255 s.nextTag }
      gwp := { s.gwp with
        out := (if s.gwp.out.length < 8 then s.gwp.out else s.gwp.out.tail) ++
          [.message s.nextTag n.kind.toNat (messageBody (s.numberAt x.slot) x n.kind (messageAmount x n.kind))]
        txd := if s.gwp.out.length < 8 then s.gwp.txd
          else (s.gwp.out.head?.map Frame.wire).getD s.gwp.txd } } : State).modTender n.tender fun y =>
      { y with sent := true, authTag := if n.kind = .auth then some s.nextTag else y.authTag }))
  ∧ (∀ s : State, s.running = true →
    exec .linkOkFall s = .next (if s.aqp.link = .up then
      (({ s with aqp := { s.aqp with linkOk := false, link := .down } } : State).departUp).flushPushes
      else { s with aqp := { s.aqp with linkOk := false } }))
  ∧ (∀ s : State, s.running = true →
    exec .linkOkRise s = .next { s with aqp := { s.aqp with
      linkOk := true, link := if s.aqp.link = .down then .up else s.aqp.link } })
  ∧ (∀ (s : State) (before after : List Need) (n : Need), s.running = true → s.aqp.link ≠ .up →
    s.aqp.queue = before ++ n :: after → (∀ m ∈ before, m.kind = .reverse ∨ m.kind = .capture) →
    n.kind = .auth ∨ n.kind = .increment →
    exec .noLinkCompletion s = .next
      (((({ s with aqp := { s.aqp with queue := s.aqp.queue.filter fun m => m.tender != n.tender } } : State)).endExchange
        n.kind n.tender .noLink).flushPushes))
  ∧ (∀ s : State, (s.aqp.queue.map Need.tender).Nodup →
    (∀ n ∈ s.departUp.aqp.queue, n.kind = .reverse ∨ n.kind = .capture)
    ∧ (s.aqp.queue.filter fun n => !n.kind.ofHold) <+: s.departUp.aqp.queue)

/-! ## Timers, starts and power -/

/-- What a tick found due is carried out: a lease expires, an approval record ends EXPIRED, a terminal that no frame has
come from becomes SILENT, a check becomes aged (R93, R152, R29, R22). A second advances both clocks, the seconds passing
59 to 0 with the minute and its age tests, and finds what is due (R194, R189); MINUTE TICK is the second that ends a
minute, on the minute clock alone, while main power is present, RESET_N low or high, and nothing at any other second
(R194; log entry 7). The end of a save writes the site area
or leaves it invalid (R192). The due lists are the model's (log entry 6). -/
def Obligations.TimerEventsComplete : Prop :=
  (∀ (s : State) (number tender slot i deadline : Nat) (c : Check) (x : Tender), s.running = true →
    Named s number slot c → NamedTender s c tender i x → i ∈ s.due.leases → x.lease = .running deadline →
    deadline ≤ s.fck.timebase →
    exec (.leaseExpiry number tender) s = .next
      (((({ s with due := { s.due with leases := s.due.leases.filter (· != i) } } : State).tenderEvent i fun y =>
        y.finish .withdrawn).setStatus i .leaseExpired).flushPushes))
  ∧ (∀ (s : State) (n : Nat) (a : Approval), s.running = true → s.approvalNumbered n = some a →
    n ∈ s.due.approvals → a.deadline ≤ s.fck.timebase →
    exec (.approvalExpiry n) s = .next
      (((((({ s with due := { s.due with approvals := s.due.approvals.filter (· != n) } } : State).dropApproval
        a).removeHold a.slot .approval).announceEnding a (s.numberAt a.slot) 18)).flushPushes))
  ∧ (∀ (s : State) (n : Nat), s.running = true → n ∈ s.due.silences → s.isPresent n = true →
    exec (.terminalSilence n) s = .next { s with
      due := { s.due with silences := s.due.silences.filter (· != n) }
      fmp := { s.fmp with present := set1 s.fmp.present n false } })
  ∧ (∀ (s : State) (number slot : Nat) (c : Check), s.power.mainLow = false → Named s number slot c →
    number ∈ s.due.ages → c.aged = false →
    exec (.checkAged number) s = .next
      (({ s with due := { s.due with ages := s.due.ages.filter (· != number) } } : State).modCheck slot fun _ =>
        { c with aged := true }))
  -- the ticks
  ∧ (∀ s : State, s.running = true → s.fck.second ≤ 59 → s.fck.minute ≤ 1439 → s.fck.day ≤ 65535 → ∃ t,
    exec .secondTick s = .next t
    ∧ t.fck.timebase = s.fck.timebase + 1 ∧ t.fck.unset = s.fck.unset
    ∧ t.fck.second ≤ 59 ∧ t.fck.minute ≤ 1439
    ∧ (t.fck.day * 1440 + t.fck.minute) * 60 + t.fck.second
        = ((s.fck.day * 1440 + s.fck.minute) * 60 + s.fck.second + 1) % (65536 * 1440 * 60)
    ∧ (∀ tag, tag ∈ t.due.exchanges ↔
        ∃ (j : Nat) (e : Exchange),
          s.aqp.entries[j]? = some (some e) ∧ e.tag = tag ∧ e.deadline ≤ s.fck.timebase + 1)
    ∧ (∀ i, i ∈ t.due.leases ↔
        ∃ x d, s.tender? i = some x ∧ x.lease = .running d ∧ d ≤ s.fck.timebase + 1)
    ∧ (∀ n, n ∈ t.due.approvals ↔ ∃ a ∈ s.apu.table, a.number = n ∧ a.deadline ≤ s.fck.timebase + 1)
    ∧ (∀ n, n ∈ t.due.silences ↔ 1 ≤ n ∧ n ≤ 48 ∧ s.isPresent n = true
        ∧ (n ∈ s.due.silences ∨ s.lastHeard n + s.setting 20 ≤ s.fck.timebase + 1))
    ∧ (s.fck.second < 59 → t.due.ages = s.due.ages)
    ∧ (s.fck.second = 59 → ∀ n, n ∈ t.due.ages ↔ ∃ c ∈ s.liveChecks, c.number = n ∧ c.aged = false
        ∧ (n ∈ s.due.ages ∨ s.setting 21 ≠ 0 ∧ s.setting 21 ≤ t.age c))
    ∧ t = { s with fck := t.fck, due := t.due })
  ∧ (∀ s : State, s.power.mainLow = false → s.fck.second = 59 → s.fck.minute ≤ 1439 → s.fck.day ≤ 65535 → ∃ t,
    exec .minuteTick s = .next t
    ∧ (t.fck.day * 1440 + t.fck.minute) = (s.fck.day * 1440 + s.fck.minute + 1) % (65536 * 1440)
    ∧ t.fck.minute ≤ 1439 ∧ t.fck.second = 0 ∧ t.fck.timebase = s.fck.timebase ∧ t.fck.unset = s.fck.unset
    ∧ (∀ n, n ∈ t.due.ages ↔ ∃ c ∈ s.liveChecks, c.number = n ∧ c.aged = false
        ∧ (n ∈ s.due.ages ∨ s.setting 21 ≠ 0 ∧ s.setting 21 ≤ t.age c))
    ∧ t = { s with fck := t.fck, due := { s.due with ages := t.due.ages } })
  ∧ (∀ s : State, s.fck.second < 59 ∨ s.power.mainLow = true → exec .minuteTick s = .next s)
  ∧ (∀ s : State, s.running = false → exec .secondTick s = .next s)
  -- the end of a save
  ∧ (∀ (s : State) (w : Settings), s.running = true → s.sst.save = .saving → s.sst.saveCopy = some w →
    exec (.saveEnd true) s = .next { s with sst := { s.sst with
        site := some { contents := w.toRaw, crc := crc32 w.toRaw.image }, save := .idle, saveCopy := none } }
    ∧ exec (.saveEnd false) s = .next { s with sst := { s.sst with
        site := none, save := .failed, saveCopy := none } })

/-- RESET_N and main power halt the part; the battery clock counts while it is halted, without ticks while main power is
absent, and with a minute tick at each advance of the minute while it is present and RESET_N is low (R194; log entry 7);
a start without retention is a cold
start, which keeps only the stored areas and LINK_OK, and the loss of retention clears what was retained (R143, R187,
R196, R197; log entry 20 for the cleared values). -/
def Obligations.PowerEventsComplete : Prop :=
  (∀ s : State,
    exec (.resetAssert .resetPin) s = .next { s with power := { s.power with resetLow := true } }
    ∧ exec (.resetAssert .mainPower) s = .next { s with power := { s.power with mainLow := true } })
  ∧ (∀ (s : State) (seconds : Nat), s.running = false → s.power.retention = true → s.fck.second ≤ 59 →
    s.fck.minute ≤ 1439 →
    ∃ t, exec (.clockAdvanceWithoutPower seconds) s = .next t
      ∧ t = { s with fck := t.fck, due := { s.due with ages := t.due.ages } }
      ∧ (s.power.mainLow = true ∨ s.fck.second + seconds < 60 → t.due = s.due)
      ∧ (s.power.mainLow = false → 60 ≤ s.fck.second + seconds → ∀ n, n ∈ t.due.ages ↔
          ∃ c ∈ s.liveChecks, c.number = n ∧ c.aged = false
            ∧ (n ∈ s.due.ages ∨ s.setting 21 ≠ 0 ∧ ∃ k, 1 ≤ k ∧ k ≤ (s.fck.second + seconds) / 60
                ∧ s.setting 21 ≤ ({ s with fck := s.fck.advance (60 * k) } : State).age c))
      ∧ t.fck.second = (s.fck.second + seconds) % 60 ∧ t.fck.unset = s.fck.unset ∧ t.fck.timebase = s.fck.timebase
      ∧ t.fck.minute ≤ 1439 ∧ t.fck.day ≤ 65535
      ∧ t.fck.day * 1440 + t.fck.minute
          = (s.fck.day * 1440 + s.fck.minute + (s.fck.second + seconds) / 60) % (65536 * 1440))
  ∧ (∀ (c : FloorClock) (k : Nat), c.second ≤ 59 → c.minute ≤ 1439 →
    (c.advance (60 * k)).day * 1440 + (c.advance (60 * k)).minute
      = (c.day * 1440 + c.minute + k) % (65536 * 1440))
  ∧ (∀ (s : State) (selLow : Bool), s.running = false → s.power.retention = false →
    exec (.coldStart selLow) s = .next
      { State.reset with
        aqp := { State.reset.aqp with linkOk := s.aqp.linkOk, link := if s.aqp.linkOk then .up else .down }
        sst := { s.sst with work := s.sst.fallback.1, loaded := s.sst.fallback.2, save := .idle, saveCopy := none }
        flp := { State.reset.flp with sent := s.flp.sent }
        fhp := { State.reset.fhp with sdo := s.fhp.sdo, ignore := selLow }
        gwp := { State.reset.gwp with txd := s.gwp.txd }
        pending := s.pending })
  ∧ (∀ s : State, s.power.mainLow = true → ∃ t,
    exec .retentionIndicatorLost s = .next t ∧ t.power = { s.power with retention := false }
    ∧ t.ckt = State.reset.ckt ∧ t.tdu = State.reset.tdu ∧ t.freeLines = 3072 ∧ t.apu = State.reset.apu
    ∧ t.sst.site = s.sst.site ∧ t.sst.factory = s.sst.factory ∧ t.aqp.linkOk = s.aqp.linkOk)

/-- A warm start changes each tender as the table of R124 shows: the statuses join the pending-status list in pool index
order and raise their holders' counts, and the portions release the claims and uncount the amounts of the tenders changed;
a lease in TIP_WAIT restarts in full or stays paused under a hold, and every approval deadline restarts. A CLOSING check
goes to CLOSE_FAULT, any other with a recovered tender is derived anew, each with one version step and its event, and every
check else stays as it was. The wait queue is rebuilt from the REVERSING tenders in pool index order, every terminal is
SILENT, and what R197 keeps is kept (R23, R27, R95, R120, R124, R143, R150, R174, R187, R197). That the events of several
checks reach the hits in slot order is the model's choice (log entry 32), and so is that an ageing found due at a minute
tick stays due over the start (log entry 6). -/
def Obligations.WarmStartRecovers : Prop :=
  ∀ (s : State) (selLow : Bool), s.running = false → s.power.retention = true →
    ∃ t : State, exec (.warmStart selLow) s = .next t
      -- tenders, statuses, leases and approval records
      ∧ (∀ i, t.tender? i = (s.tender? i).map fun x =>
          match x.state with
          | .tipWait =>
            { x with lease := match x.lease with
                | .absent => .absent
                | .running _ => .running (s.setting 15)
                | .paused n => if (s.check? x.slot).any Check.held then .paused n else .running (s.setting 15) }
          | .authorizing .auth => Tender.withStatus
            (if x.sent then
              { x with state := .reversing, attempts := 0, withdrawRequested := false, sent := false, heldTip := none }
            else { x with state := .done .withdrawn, lease := .absent, sent := false, withdrawRequested := false })
            .restart
          | .authorizing .increment => Tender.withStatus
            (if x.withdrawRequested then
              { x with state := .reversing, attempts := 0, withdrawRequested := false, sent := false, heldTip := none }
            else { x with state := .authorized, sent := false, heldTip := none })
            .restart
          | .reversing => { x with sent := false, withdrawRequested := false }
          | .capturing => { x with
              state := .authorized, captureFault := true, sent := false, heldTip := none, withdrawRequested := false }
          | .authorized | .done _ => x)
      ∧ t.tdu.pendingList = s.tdu.pendingList ++ s.tendersWhere (fun x =>
          (decide (x.state = .authorizing .auth) || decide (x.state = .authorizing .increment)) && !x.hasStatus)
      ∧ (s.wnu.pendCounts.length = 48 → ∀ n, terminalExists n = true → t.pendCount n = s.pendCount n
          + s.tdu.pool.countP fun o => o.any fun x =>
            (decide (x.state = .authorizing .auth) || decide (x.state = .authorizing .increment))
              && !x.hasStatus && decide (x.holder = some n))
      ∧ t.apu = { s.apu with table := s.apu.table.map fun a => { a with deadline := s.setting 19 } }
      ∧ t.aqp.queue = (t.tendersWhere fun x => decide (x.state = .reversing)).map
          (fun i => ({ tender := i, kind := .reverse } : Need))
      -- checks
      ∧ (∀ slot, s.check? slot = none → t.check? slot = none)
      ∧ (∀ slot c, s.check? slot = some c → ∃ c', t.check? slot = some c'
          ∧ c'.plan = { c.plan with portions := c.plan.portions.map fun q =>
              { q with
                counted := q.counted - ((s.tdu.pool.filterMap id).map fun x =>
                  if x.slot = slot ∧ x.portion = q.number ∧ x.state = .authorizing .auth ∧ x.sent = false
                  then x.amount else 0).sum
                claim := q.claim.filter fun i => !(s.tender? i).any fun x =>
                  decide (x.slot = slot ∧ x.portion = q.number
                    ∧ (x.state = .authorizing .auth ∨ x.state = .authorizing .increment ∨ x.state = .capturing)) } }
          ∧ (c.state = .closing → c' = { c with
              plan := c'.plan
              version := nextVersion c.version
              state := .closeFault
              closeFault := some ((t.tendersOf c').countP Tender.faulted) })
          ∧ (c.state ≠ .closing →
              (∃ i x, s.tender? i = some x ∧ x.slot = slot ∧ (x.state = .capturing ∨ ∃ k, x.state = .authorizing k)) →
              c' = { c with
                plan := c'.plan
                version := nextVersion c.version
                state := if c.state = .settling ∨ c.state = .paid then derivedState c'.plan (t.tendersOf c')
                  else c.state })
          ∧ (c.state ≠ .closing →
              (∀ i x, s.tender? i = some x → x.slot = slot → x.state ≠ .capturing ∧ ∀ k, x.state ≠ .authorizing k) →
              c' = c))
      -- events, watches and hits
      ∧ t.wnu.hits = (((List.range s.ckt.slots.length).filterMap fun slot =>
          match s.check? slot, t.check? slot with
          | some c, some c' => if c'.state = c.state then none
              else some (c.number, if c'.state = .closeFault then EventKind.closeFault else derivedEvent c'.state)
          | _, _ => none).foldl (fun (u : State) e => u.handEvent e.1 e.2) s).wnu.hits
      ∧ t.wnu.watches = s.wnu.watches ∧ t.wnu.pushes = []
      ∧ t.wnu.startup = true ∧ t.wnu.startKind = .warm
      -- what the start sets and what it keeps
      ∧ t.aqp = { s.aqp with
          queue := t.aqp.queue, entries := List.replicate 8 none, timeouts := 0, discarded := 0
          link := if s.aqp.linkOk then .up else .down }
      ∧ t.fmp = { lists := s.fmp.lists, present := List.replicate 48 false, lastHeard := List.replicate 48 0 }
      ∧ t.sst = { s.sst with save := .idle, saveCopy := none }
      ∧ t.fck = { s.fck with timebase := 0 }
      ∧ t.ckt.nextNumber = s.ckt.nextNumber ∧ t.freeLines = s.freeLines
      ∧ t.flp = { State.reset.flp with sent := s.flp.sent }
      ∧ t.fhp = { State.reset.fhp with sdo := s.fhp.sdo, ignore := selLow }
      ∧ t.gwp = { State.reset.gwp with txd := s.gwp.txd }
      ∧ t.due = { State.reset.due with ages := s.due.ages }
      ∧ t.power = State.reset.power

/-! ## The Tally Engine, the notices and the layouts -/

/-- The tax of a class is its base times its rate setting over 100,000, rounded by the mode of R57, and 0 for a base or a
rate of 0; service is the subtotal times the service rate, rounded so, when the threshold is not 0 and the covers are at
or above it, and else 0; the taxes do not depend on the covers, and a recomputation writes these figures (R60, R61). -/
def Obligations.TaxAndServiceRules : Prop :=
  (∀ q : Nat, roundCent 0 q = (q + 50000) / 100000
    ∧ roundCent 1 q = q / 100000
        + if 50000 < q % 100000 ∨ q % 100000 = 50000 ∧ q / 100000 % 2 = 1 then 1 else 0)
  ∧ (∀ (w : Settings) (covers : Nat) (lines : List Line),
    (totalsOf w covers lines).taxes.length = 8
    ∧ ∀ cls base, 1 ≤ cls → cls ≤ 8 →
      base = ((lines.filter fun l => !l.void && l.cls == cls).map fun l => l.quantity * l.price - l.discount).sum →
      (totalsOf w covers lines).taxes[cls - 1]? = some (roundCent (w.value 9) (base * w.value cls))
      ∧ (base = 0 ∨ w.value cls = 0 → (totalsOf w covers lines).taxes[cls - 1]? = some 0)
      ∧ settingBounds cls = (0, 30000))
  ∧ (∀ (w : Settings) (covers covers' : Nat) (lines : List Line),
    (totalsOf w covers lines).taxes = (totalsOf w covers' lines).taxes
    ∧ (w.value 11 ≠ 0 → w.value 11 ≤ covers → (totalsOf w covers lines).service
        = roundCent (w.value 9) ((totalsOf w covers lines).subtotal * w.value 10))
    ∧ (w.value 11 = 0 ∨ covers < w.value 11 → (totalsOf w covers lines).service = 0)
    ∧ (w.value 10 = 0 → (totalsOf w covers lines).service = 0)
    ∧ ((w.value 11 ≤ covers ↔ w.value 11 ≤ covers') →
        (totalsOf w covers lines).service = (totalsOf w covers' lines).service))
  ∧ settingBounds 10 = (0, 30000) ∧ settingBounds 11 = (0, 30)
  ∧ ∀ (w : Settings) (c c' : Check), recompute w c = .ok c' → c'.totals = totalsOf w c.covers c.lines

/-- NOTE_N is low exactly while some source from 1 to 13 is pending and its enable is set, and each of the thirteen
sources is pending exactly while its condition holds, STARTUP while its latch is set (R169, R170). While the part is
halted NOTE_N is a free value (log entry 13). -/
def Obligations.NoticeOutputFollowsSources : Prop :=
  ∀ s : State,
    (s.running = true → (s.noteLow = true ↔
      ∃ n, 1 ≤ n ∧ n ≤ 13 ∧ s.sourcePending n = true ∧ (s.setting 23).testBit (n - 1) = true))
    ∧ (s.running = false → s.noteLow = Config.noteLowHalted)
    ∧ (∀ n, s.sourceEnabled n = true ↔ 1 ≤ n ∧ (s.setting 23).testBit (n - 1) = true)
    ∧ (∀ n, 1 ≤ n → n ≤ 8 → (s.sourcePending n = true ↔
      ∃ i ∈ s.tdu.pendingList, ∃ x, s.tender? i = some x ∧ x.noticeClass = n))
    ∧ (s.sourcePending 9 = true ↔ s.apu.table ≠ [])
    ∧ (s.sourcePending 10 = true ↔ ∃ c ∈ s.liveChecks, c.state = .closeFault)
    ∧ (s.sourcePending 11 = true ↔ s.aqp.link ≠ .up)
    ∧ (s.sourcePending 12 = true ↔ ∃ c ∈ s.liveChecks, c.aged = true ∧ c.agedAck = false)
    ∧ (s.sourcePending 13 = true ↔ s.wnu.startup = true)

/-- Remainder apportionment: the parts sum to the target, each is its floor or one cent more, and the cents go to the
larger remainders first, among equal ones to the lower portion number (R63). -/
def Obligations.ApportionmentIsExact : Prop :=
  ∀ (target d : Nat) (ns : List Nat), 0 < d → (ns.map (· / d)).sum ≤ target →
    target ≤ (ns.map (· / d)).sum + ns.length →
    (apportion target d ns).length = ns.length
    ∧ (apportion target d ns).sum = target
    ∧ (∀ p < ns.length, (apportion target d ns).getD p 0 = ns.getD p 0 / d
        ∨ (apportion target d ns).getD p 0 = ns.getD p 0 / d + 1)
    ∧ ∀ p q, p < ns.length → q < ns.length →
        (ns.getD p 0 % d < ns.getD q 0 % d ∨ (ns.getD p 0 % d = ns.getD q 0 % d ∧ q < p)) →
        (apportion target d ns).getD p 0 = ns.getD p 0 / d + 1 →
        (apportion target d ns).getD q 0 = ns.getD q 0 / d + 1

/-- Under an EVEN plan of n portions each receives the floor of total / n and the first total mod n one cent more; a
portion's balance is its share from the start, and one of share 0 counts as settled; with the worked examples (R65). -/
def Obligations.EvenSharesRule : Prop :=
  (∀ total n : Nat, 1 ≤ n → (evenShares total n).length = n ∧ (evenShares total n).sum = total
    ∧ evenShares total n = apportion total n (List.replicate n total)
    ∧ ∀ p < n, (evenShares total n)[p]? = some (total / n + if p < total % n then 1 else 0))
  ∧ (∀ total n p : Nat, total < n → total ≤ p → p < n → (evenShares total n)[p]? = some 0)
  ∧ (∀ (w : Settings) (covers n : Nat) (lines : List Line), 2 ≤ n →
    (buildPlan w covers lines .even n).portions.map Portion.share
        = evenShares (totalsOf w covers lines).total n
    ∧ ∀ p ∈ (buildPlan w covers lines .even n).portions, p.balance = p.share)
  ∧ (∀ plan : Plan, (∀ p ∈ plan.portions, p.share ≠ 0 → p.balance = 0) → plan.settled = true)
  ∧ evenShares 12451 4 = [3113, 3113, 3113, 3112] ∧ evenShares 6225 2 = [3113, 3112]
  ∧ ∀ n : Nat, evenShares 0 n = List.replicate n 0

/-- Under a BY_SEAT plan the portion bases of a class sum to its base, the portion taxes to the check's tax of the class,
the service parts to the service, and the shares to the total (R66 to R69, R64). -/
def Obligations.SeatSharesAddUp : Prop :=
  ∀ (w : Settings) (covers : Nat) (lines : List Line),
    (∀ l ∈ lines, l.void = false → l.seat ≤ 30 ∧ l.cls ∈ taxClasses) → seatsPresent lines ≠ [] →
    (∀ cls ∈ taxClasses, (portionBases lines (seatsPresent lines) cls).sum = classBase lines cls)
    ∧ (∀ cls ∈ taxClasses, (portionTaxes w lines (seatsPresent lines) cls).sum = classTax w lines cls)
    ∧ (serviceParts w covers lines (seatsPresent lines)).sum = serviceOf w covers lines
    ∧ (seatShares w covers lines (seatsPresent lines)).length = (seatsPresent lines).length
    ∧ (seatShares w covers lines (seatsPresent lines)).sum = (totalsOf w covers lines).total

/-- The sizes of the layouts: the check summary has 82 bytes and 11 for each portion, the tender status body 64, an
acquirer message body 52, and the parts of the part status 111, 288 and 1 with 15 for each approval record
(R184, R185, R186). -/
def Obligations.LayoutSizes : Prop :=
  (∀ (s : State) (c : Check), c.totals.taxes.length = 8 →
    (s.summary c).length = 82 + 11 * c.plan.portions.length)
  ∧ (∀ (check : Nat) (x : Tender) (primary latest : Option Status),
    (∀ code, x.approvalCode = some code → code.length = 6) → (∀ ref, x.acqRef = some ref → ref.length = 12) →
    (tenderBytes check x primary latest).length = 64)
  ∧ (∀ (check : Nat) (x : Tender) (k : NeedKind) (amount : Nat),
    (∀ ref, x.acqRef = some ref → ref.length = 12) → (∀ token, x.token = some token → token.length = 32) →
    (messageBody check x k amount).length = 52)
  ∧ ∀ s : State, s.aqp.entries.length = 8 → s.statusPart0.length = 111
    ∧ s.statusPart1.length = 288 ∧ s.statusPart2.length = 1 + 15 * s.apu.table.length

/-! ## The shared operations -/

/-- A frame from a terminal makes it PRESENT, last heard now, and renews the leases of the TIP_WAIT tenders it holds;
a silence found due for it is dropped, and on its return each condition that still holds is announced by one push; a frame
of the floor server changes nothing (R28, R30, R91, R29; log entry 6 for the silence found due). -/
def Obligations.FramesUpdatePresence : Prop :=
  (∀ s : State, s.hear 0 = s)
  ∧ ∀ (s : State) (t : Nat), 1 ≤ t → t ≤ 48 → s.fmp.present.length = 48 → s.fmp.lastHeard.length = 48 →
    (s.hear t).isPresent t = true ∧ (s.hear t).lastHeard t = s.fck.timebase
    ∧ (∀ u, u ≠ t → (s.hear t).isPresent u = s.isPresent u ∧ (s.hear t).lastHeard u = s.lastHeard u)
    ∧ (∀ i, (s.hear t).tender? i = (s.tender? i).map fun x =>
        if x.holder = some t ∧ x.state = .tipWait then
          { x with lease := match x.lease with
              | .absent => .absent
              | .running _ => .running (s.fck.timebase + s.setting 15)
              | .paused _ => .paused (s.setting 15) }
        else x)
    ∧ s.hear t = { s with
        fmp := { s.fmp with present := (s.hear t).fmp.present, lastHeard := (s.hear t).fmp.lastHeard }
        tdu := { s.tdu with pool := (s.hear t).tdu.pool }
        wnu := { s.wnu with pushes := (s.hear t).wnu.pushes }
        due := { s.due with silences := s.due.silences.filter (· != t) } }
    ∧ ∃ ps : List Push, (s.hear t).wnu.pushes = s.wnu.pushes ++ ps
      ∧ (s.isPresent t = true → ps = [])
      ∧ (s.isPresent t = false → ps.Perm
        ((if 0 < s.pendCount t then [.statusReady t] else [])
          ++ (if s.hitSet t ≠ [] then [.hitsReady t] else [])
          ++ (if s.role t = Role.manager ∧ s.apu.table ≠ [] then [.approvalWaiting t] else [])))

/-- The pushes that an event has raised are placed behind the frames that wait, its answer among them, in the order raised
and with bodies taken when the event is done; those that find no place are dropped and counted (R166, R179, R183). The
list and its order, and so which pushes are dropped, are the model's choice, log entry 33: R166 gives the order no
meaning. -/
def Obligations.PushesLeaveLast : Prop :=
  ∀ s : State, s.flp.out.length ≤ 32 → s.flp.pushDrops ≤ 65535 →
    s.flushPushes = { s with
      flp := { s.flp with
        out := s.flp.out ++ (s.wnu.pushes.map s.pushFrame).take (32 - s.flp.out.length)
        pushDrops := min 65535 (s.flp.pushDrops + (s.wnu.pushes.length - (32 - s.flp.out.length))) }
      wnu := { s.wnu with pushes := [] } }

/-- An event kind of a check joins the hits of exactly the terminals that watch it for that kind, oldest entries first;
HITS_READY is raised for a PRESENT terminal whose hit set was empty (R162, R167). -/
def Obligations.EventsReachWatches : Prop :=
  ∀ (s : State) (t number : Nat) (k : EventKind), 1 ≤ t → t ≤ 48 → s.wnu.hits.length = 48 →
    (∀ m, (Awaits s t number k → m = number →
          (s.handEvent number k).hitKinds t m = s.hitKinds t m ||| k.mask)
        ∧ (¬(Awaits s t number k ∧ m = number) → (s.handEvent number k).hitKinds t m = s.hitKinds t m))
    ∧ ((s.hitSet t).map Hit.check) <+: (((s.handEvent number k).hitSet t).map Hit.check)
    ∧ ∃ ps, (s.handEvent number k).wnu.pushes = s.wnu.pushes ++ ps
        ∧ (Push.hitsReady t ∈ ps ↔ Awaits s t number k ∧ s.isPresent t = true ∧ s.hitSet t = [])

/-- The number a counter finds: the first from its value on, the top being followed by 1, that is not in use
(R2, R134, R150). -/
def Obligations.FirstFreeNumber : Prop :=
  ∀ (used : List Nat) (top n : Nat), 1 ≤ n → n ≤ top → used.length < top →
    ∃ k, firstFree used top (used.length + 1) n = (cycleSucc top)^[k] n
      ∧ (cycleSucc top)^[k] n ∉ used ∧ (∀ j < k, (cycleSucc top)^[j] n ∈ used)
      ∧ 1 ≤ (cycleSucc top)^[k] n ∧ (cycleSucc top)^[k] n ≤ top

/-- Retirement returns the lines, frees the tenders with their statuses, takes the slot off its table's list, records
RETIRED and deletes the watches, ends the approval record as DISCARDED, and frees the slot (R21, R120, R155; log entry 6
for the ageing found due; the order of the pushes it raises is the model's, log entry 33). -/
def Obligations.RetirementEffects : Prop :=
  ∀ (s : State) (slot : Nat) (c : Check), s.check? slot = some c →
    (s.retire slot).check? slot = none ∧ (∀ j, j ≠ slot → (s.retire slot).check? j = s.check? j)
    ∧ (s.retire slot).ckt.nextNumber = s.ckt.nextNumber
    ∧ (s.retire slot).freeLines = s.freeLines + c.lines.length
    ∧ (∀ i, (s.retire slot).tender? i = if i ∈ c.tenders then none else s.tender? i)
    ∧ (s.retire slot).tdu.pendingList = s.tdu.pendingList.filter
        (fun i => !(decide (i ∈ c.tenders) && (s.tender? i).any Tender.hasStatus))
    ∧ (s.retire slot).fmp = { s.fmp with lists := mod1 s.fmp.lists c.table (List.filter (· != slot)) }
    ∧ (s.retire slot).wnu.hits = (s.handEvent c.number .retired).wnu.hits
    ∧ (s.retire slot).wnu.watches = s.wnu.watches.filter (fun w => w.check != c.number)
    ∧ (s.retire slot).apu.table = (match s.approvalOf slot with
        | none => s.apu.table
        | some a => s.apu.table.filter fun b => b.number != a.number)
    ∧ (c.tenders.Nodup → ∀ n, terminalExists n = true → (s.retire slot).pendCount n
        = s.pendCount n - c.tenders.countP fun i => (s.tender? i).any fun x => x.hasStatus && decide (x.holder = some n))
    ∧ (s.retire slot).wnu.pushes = (s.handEvent c.number .retired).wnu.pushes
        ++ (match s.approvalOf slot with
          | none => []
          | some a => match a.requester with
            | none => []
            | some t => if s.isPresent t = true then [.approvalDone t a.number c.number a.change.toNat 19] else [])
    ∧ (s.retire slot).due = { s.due with ages := s.due.ages.filter (· != c.number) }
    ∧ (s.retire slot).aqp = s.aqp ∧ (s.retire slot).sst = s.sst ∧ (s.retire slot).fck = s.fck

/-- A status set on a tender with none becomes its primary, joins the end of the list and raises its holder's count,
which raises STATUS_READY for a PRESENT holder exactly when that count was 0; on one that has a primary it becomes the
latest; collecting removes both and lowers the count, and raises no push (R118 to R121, R167). -/
def Obligations.StatusesSetAndCollected : Prop :=
  ∀ (s : State) (i : Nat) (x : Tender) (st : Status), StatusesCounted s → s.tender? i = some x →
    (s.setStatus i st).tender? i = some (x.withStatus st)
    ∧ (∀ j, j ≠ i → (s.setStatus i st).tender? j = s.tender? j ∧ (s.collect i).tender? j = s.tender? j)
    ∧ (s.setStatus i st).tdu.pendingList = (if x.hasStatus then s.tdu.pendingList else s.tdu.pendingList ++ [i])
    ∧ (∀ n, terminalExists n = true → (s.setStatus i st).pendCount n
        = s.pendCount n + (if x.hasStatus = false ∧ x.holder = some n then 1 else 0))
    ∧ (s.setStatus i st).wnu.pushes = s.wnu.pushes ++ (match x.holder with
        | none => []
        | some n => if x.hasStatus = false ∧ s.pendCount n = 0 ∧ s.isPresent n = true then [.statusReady n] else [])
    ∧ (s.collect i).tender? i = some { x with primary := none, latest := none }
    ∧ (s.collect i).tdu.pendingList = s.tdu.pendingList.filter (· != i)
    ∧ (∀ n, terminalExists n = true → (s.collect i).pendCount n
        = s.pendCount n - (if x.hasStatus = true ∧ x.holder = some n then 1 else 0))
    ∧ (s.collect i).wnu.pushes = s.wnu.pushes
    ∧ (s.setStatus i st).ckt = s.ckt ∧ (s.collect i).ckt = s.ckt

/-- A tender event changes the tender, then its portion, steps the version of its check once, derives the state of a
SETTLING or PAID check from the records as they then stand, and hands on the event of a change (R88, R9, R10). -/
def Obligations.TenderEventCarriesTrain : Prop :=
  ∀ (s : State) (i : Nat) (x : Tender) (c : Check) (f : Tender → Tender),
    s.tender? i = some x → s.check? x.slot = some c →
    ∃ c', (s.tenderEvent i f).check? x.slot = some c'
      ∧ c' = { c with version := nextVersion c.version, plan := c.plan.follow i x (f x), state := c'.state }
      ∧ c'.state = (if c.state = .settling ∨ c.state = .paid
          then derivedState c'.plan ((s.tenderEvent i f).tendersOf c') else c.state)
      ∧ (s.tenderEvent i f).tender? i = some (f x)
      ∧ (∀ j, j ≠ i → (s.tenderEvent i f).tender? j = s.tender? j)
      ∧ (∀ j, j ≠ x.slot → (s.tenderEvent i f).check? j = s.check? j)
      ∧ (s.tenderEvent i f).wnu = (if c'.state = c.state then s.wnu
          else (s.handEvent c.number (derivedEvent c'.state)).wnu)
      ∧ (s.tenderEvent i f).tdu.pendingList = s.tdu.pendingList ∧ (s.tenderEvent i f).aqp = s.aqp
      ∧ (s.tenderEvent i f).freeLines = s.freeLines ∧ (s.tenderEvent i f).fmp = s.fmp
      ∧ (s.tenderEvent i f).apu = s.apu ∧ (s.tenderEvent i f).sst = s.sst

/-- What the end of an exchange makes of its tender and of the wait queue, for each kind and each end, no other tender
changing but by a retirement. A capture that ends while another of its check runs steps the version alone; the last one,
approved or not, retires a CLOSING check of which no tender is faulted then, and else takes it to CLOSE_FAULT with their
number, one version step and the event CLOSE_FAULT (R107 to R111, R19). -/
def Obligations.ExchangeEndsChangeTender : Prop :=
  (∀ (s : State) (i : Nat) (x : Tender) (ref code : Option (List Byte)), s.tender? i = some x →
    -- AUTH
    ((s.endExchange .auth i (.approved ref code)).tender? i = some
        { x with state := if x.withdrawRequested then .reversing else .authorized
                 attempts := if x.withdrawRequested then 0 else x.attempts
                 withdrawRequested := false, sent := false, heldTip := none
                 authTotal := x.authAmount, tolerance := some (s.setting 13), acqRef := ref, approvalCode := code }
      ∧ (s.endExchange .auth i (.approved ref code)).aqp.queue = s.aqp.queue
          ++ if x.withdrawRequested then [{ tender := i, kind := .reverse }] else [])
    ∧ ((s.endExchange .auth i .refused).tender? i = some ((x.finish .declined).withStatus .declined)
      ∧ (s.endExchange .auth i .refused).aqp.queue = s.aqp.queue)
    ∧ ((s.endExchange .auth i .noLink).tender? i = some ((x.finish .noLink).withStatus .noLink)
      ∧ (s.endExchange .auth i .noLink).aqp.queue = s.aqp.queue)
    ∧ ((s.endExchange .auth i .timeout).tender? i = some (x.toReversing.withStatus .timeout)
      ∧ (s.endExchange .auth i .timeout).aqp.queue = s.aqp.queue ++ [{ tender := i, kind := .reverse }])
    -- INCREMENT
    ∧ ((s.endExchange .increment i (.approved ref code)).tender? i = some
        { x with state := if x.withdrawRequested then .reversing else .authorized
                 attempts := if x.withdrawRequested then 0 else x.attempts
                 withdrawRequested := false, sent := false, heldTip := none
                 authTotal := some (x.amount + x.heldTip.getD x.tip), tip := x.heldTip.getD x.tip
                 approvalCode := code }
      ∧ (s.endExchange .increment i (.approved ref code)).aqp.queue = s.aqp.queue
          ++ if x.withdrawRequested then [{ tender := i, kind := .reverse }] else [])
    ∧ (∀ e, e = .refused ∨ e = .timeout ∨ e = .noLink →
      (s.endExchange .increment i e).tender? i = some
        (Tender.withStatus { x with
            state := if x.withdrawRequested then .reversing else .authorized
            attempts := if x.withdrawRequested then 0 else x.attempts
            withdrawRequested := false, sent := false, heldTip := none } .tipRefused)
      ∧ (s.endExchange .increment i e).aqp.queue = s.aqp.queue
          ++ if x.withdrawRequested then [{ tender := i, kind := .reverse }] else [])
    -- REVERSE
    ∧ ((s.endExchange .reverse i (.approved ref code)).tender? i = some ((x.finish .reversed).withStatus .reversed)
      ∧ (s.endExchange .reverse i (.approved ref code)).aqp.queue = s.aqp.queue)
    ∧ (∀ e, e = .refused ∨ e = .timeout ∨ e = .noLink →
      (x.attempts + 1 < s.setting 17 →
        (s.endExchange .reverse i e).tender? i = some { x with attempts := x.attempts + 1, sent := false }
        ∧ (s.endExchange .reverse i e).aqp.queue = s.aqp.queue ++ [{ tender := i, kind := .reverse }])
      ∧ (s.setting 17 ≤ x.attempts + 1 →
        (s.endExchange .reverse i e).tender? i = some
          (Tender.withStatus { x.finish .reverseUnconfirmed with attempts := x.attempts + 1 } .reverseUnconfirmed)
        ∧ (s.endExchange .reverse i e).aqp.queue = s.aqp.queue))
    ∧ (∀ k e j, k ≠ NeedKind.capture → j ≠ i → (s.endExchange k i e).tender? j = s.tender? j)
    -- CAPTURE
    ∧ (∀ e, (s.endExchange .capture i e).aqp.queue = s.aqp.queue)
    -- CAPTURE, while another capture of the check runs
    ∧ (∀ c j y, s.check? x.slot = some c → c.state = .closing → j ∈ c.tenders → j ≠ i → s.tender? j = some y →
        y.state = .capturing →
      (s.endExchange .capture i (.approved ref code)).tender? i = some (x.finish .captured)
      ∧ (∀ e, e = .refused ∨ e = .timeout ∨ e = .noLink →
        (s.endExchange .capture i e).tender? i = some
          { x with state := .authorized, sent := false, heldTip := none, captureFault := true })
      ∧ ∀ e, (∀ m, m ≠ i → (s.endExchange .capture i e).tender? m = s.tender? m)
        ∧ (s.endExchange .capture i e).wnu = s.wnu
        ∧ ∃ c', (s.endExchange .capture i e).check? x.slot = some c'
          ∧ c' = { c with version := nextVersion c.version, plan := c'.plan }))
  -- the last capture
  ∧ ∀ (s : State) (i : Nat) (x : Tender) (c : Check) (ref code : Option (List Byte)),
    s.tender? i = some x → s.check? x.slot = some c → c.state = .closing → i ∈ c.tenders →
    (∀ j ∈ c.tenders, j ≠ i → ∀ y, s.tender? j = some y → y.state ≠ .capturing) →
    ((∀ j ∈ c.tenders, j ≠ i → ∀ y, s.tender? j = some y → y.faulted = false) →
      (s.endExchange .capture i (.approved ref code)).check? x.slot = none
      ∧ (s.endExchange .capture i (.approved ref code)).tender? i = none)
    ∧ ∀ e, (e = .approved ref code ∧ (∃ j ∈ c.tenders, j ≠ i ∧ ∃ y, s.tender? j = some y ∧ y.faulted = true))
        ∨ e = .refused ∨ e = .timeout ∨ e = .noLink →
      ∃ c', (s.endExchange .capture i e).check? x.slot = some c'
        ∧ c'.state = .closeFault ∧ c'.version = nextVersion c.version
        ∧ c'.closeFault = some (((s.endExchange .capture i e).tendersOf c).countP Tender.faulted)
        ∧ c' = { c with
            plan := c'.plan, version := nextVersion c.version, state := .closeFault, closeFault := c'.closeFault }
        ∧ (s.endExchange .capture i e).tender? i = some (if e = .approved ref code then x.finish .captured
            else { x with state := .authorized, sent := false, heldTip := none, captureFault := true })
        ∧ (∀ m, m ≠ i → (s.endExchange .capture i e).tender? m = s.tender? m)
        ∧ (s.endExchange .capture i e).wnu = (s.handEvent c.number .closeFault).wnu

/-- The release of a terminal: it is SILENT, its TIP_WAIT tenders are withdrawn with LEASE_EXPIRED, it holds no tender,
its pending count is 0, its watches and hits are gone, and the records it parked have no requester (R35). -/
def Obligations.ReleasedTerminalHoldsNothing : Prop :=
  ∀ (s : State) (t : Nat), 1 ≤ t → t ≤ 48 → s.fmp.present.length = 48 → s.wnu.hits.length = 48 →
    s.wnu.pendCounts.length = 48 →
    ((s.releaseTerminal t).1.isPresent t = false ∧ (s.releaseTerminal t).1.fmp.lastHeard = s.fmp.lastHeard)
    ∧ (∀ i, (s.releaseTerminal t).1.tender? i = (s.tender? i).map fun x =>
        if x.holder = some t then
          { (if x.state = .tipWait then (x.finish .withdrawn).withStatus .leaseExpired else x) with holder := none }
        else x)
    ∧ (s.releaseTerminal t).1.pendCount t = 0
    ∧ ((s.releaseTerminal t).1.wnu.watches = s.wnu.watches.filter (fun w => w.terminal != t)
        ∧ (s.releaseTerminal t).1.hitSet t = [])
    ∧ (s.releaseTerminal t).1.apu = { s.apu with table := s.apu.table.map (fun a =>
        if a.requester = some t then { a with requester := none } else a) }
    ∧ (s.releaseTerminal t).1.sst = s.sst
    ∧ (s.releaseTerminal t).2 =
        { withdrawn := s.tdu.pool.countP fun o => o.any fun x => decide (x.holder = some t) && decide (x.state = .tipWait)
          unheld := s.tdu.pool.countP fun o => o.any fun x => decide (x.holder = some t)
          watches := (s.watchesOf t).length }

/-- A hold reason added to an unheld check steps the version, hands on HELD and pauses the leases of its TIP_WAIT
tenders; one removed while another stays steps the version alone; the last one removed hands on RELEASED, then each
deferred withdraw acts in tender-list order, its flag cleared and the withdraw carried out with its own version step,
derivation and place in the wait queue, and only then the leases that are still paused resume (R92, R115, R144, R149; the
premise TendersListed is an invariant stated beside this one). That a deferred withdraw on a sent AUTHORIZING tender, or
on one in REVERSING, CAPTURING or DONE, steps no version is the model's reading, log entry 40. -/
def Obligations.HoldsPauseLeases : Prop :=
  ∀ (s : State) (slot : Nat) (r : HoldReason) (c : Check), s.check? slot = some c →
    ((s.addHold slot r).check? slot = some { c with holds := c.holds.put r true, version := nextVersion c.version }
      ∧ (∀ i, (s.addHold slot r).tender? i = (s.tender? i).map fun x =>
          if c.held = false ∧ x.slot = slot ∧ x.state = .tipWait then
            { x with lease := match x.lease with
                | .running d => .paused (max 1 (d - s.fck.timebase))
                | l => l }
          else x)
      ∧ (s.addHold slot r).wnu = if c.held then s.wnu else (s.handEvent c.number .held).wnu)
    ∧ ((c.holds.put r false).any = true → s.removeHold slot r = s.modCheck slot fun _ =>
        { c with holds := c.holds.put r false, version := nextVersion c.version })
    ∧ ((c.holds.put r false).any = false →
        (∀ i ∈ c.tenders, ∀ x, s.tender? i = some x → x.deferredWithdraw = false) →
      (s.removeHold slot r).check? slot = some { c with holds := c.holds.put r false, version := nextVersion c.version }
      ∧ (∀ i, (s.removeHold slot r).tender? i = (s.tender? i).map fun x =>
          if x.slot = slot ∧ x.state = .tipWait then
            { x with lease := match x.lease with
                | .paused n => .running (s.fck.timebase + n)
                | l => l }
          else x)
      ∧ (s.removeHold slot r).wnu = (s.handEvent c.number .released).wnu)
    -- the release, with or without deferred withdraws
    ∧ ((c.holds.put r false).any = false →
      s.removeHold slot r = (c.tenders.foldl State.actDeferred
        ((s.modCheck slot fun _ => { c with holds := c.holds.put r false, version := nextVersion c.version }).handEvent
          c.number .released)).mapLeases slot (Lease.resume s.fck.timebase)
      ∧ (∀ (u : State) (i : Nat) (x : Tender), u.tender? i = some x → u.actDeferred i =
          if x.deferredWithdraw then
            (u.modTender i fun y => { y with deferredWithdraw := false }).withdraw i
          else u)
      ∧ (TendersListed s →
        (∀ i, (s.removeHold slot r).tender? i = (s.tender? i).map fun x =>
          if x.slot = slot then
            { x.released with lease := match x.released.lease with
                | .paused n => if x.released.state = .tipWait then .running (s.fck.timebase + n) else .paused n
                | l => l }
          else x)
        ∧ (∃ c', (s.removeHold slot r).check? slot = some c'
          ∧ c' = { c with
              holds := c.holds.put r false
              version := nextVersion^[1 + c.tenders.countP fun i => (s.tender? i).any Tender.endsHold] c.version
              plan := c'.plan
              state := if (c.state = .settling ∨ c.state = .paid) ∧ (∃ i ∈ c.tenders, (s.tender? i).any Tender.endsHold)
                then derivedState c'.plan ((s.removeHold slot r).tendersOf c') else c.state })
        ∧ (∀ j, j ≠ slot → (s.removeHold slot r).check? j = s.check? j)
        ∧ (s.removeHold slot r).aqp.queue = s.aqp.queue.filter
              (fun n => !(decide (n.tender ∈ c.tenders) && (s.tender? n.tender).any fun x =>
                x.endsHold && (decide (x.state = .authorizing .auth) || decide (x.state = .authorizing .increment))))
            ++ (c.tenders.filter fun i => (s.tender? i).any fun x =>
                x.endsHold && decide (x.released.state = .reversing)).map
                  (fun i => ({ tender := i, kind := .reverse } : Need))
        ∧ (s.removeHold slot r).tdu.pendingList = s.tdu.pendingList))

/-! ## Frames: what a command leaves alone -/

/-- A command that is not among those that may change a part of the state leaves that part as it was, whatever it
answers (the table of such commands is touches). -/
def Obligations.FramesKept : Prop :=
  ∀ (i : Instr) (s t : State) (p : Part), exec i s = .next t → touches p i = false → p.same s t

/-! ## Encoding -/

/-- Checksums and frames of known bytes: the CRC-16 and CRC-32 of the nine digits, and request frames written out byte
by byte from the tables of 10.6, which decode to their requests (R176, R185, R191). -/
def Obligations.KnownFramesDecode : Prop :=
  crc16 [0x31, 0x32, 0x33, 0x34, 0x35, 0x36, 0x37, 0x38, 0x39] = 0x29B1
  ∧ crc32 [0x31, 0x32, 0x33, 0x34, 0x35, 0x36, 0x37, 0x38, 0x39] = 0xCBF43926
  ∧ decodeRequest .flp [5, 7, 0x10, 0xFF, 0xFF, 0x00, 0x1B, 3, 255]
      = some (.openCheck { port := .flp, term := 5, tag := 7, ver := 65535 } 27 3 255)
  ∧ decodeRequest .flp [5, 8, 0x20, 0, 0, 0, 1, 0, 0x10, 0, 1, 2, 0, 0x02, 0xD5, 1]
      = some (.addLines { port := .flp, term := 5, tag := 8, ver := 0 } 1
          [{ item := 4096, seat := 1, quantity := 2, price := 725, cls := 1 }])
  ∧ decodeRequest .flp [5, 9, 0x41, 0, 4, 0, 1, 1, 0, 0, 0, 0x05, 0xDC]
      = some (.submitTip { port := .flp, term := 5, tag := 9, ver := 4 } 1 1 0 1500)
  ∧ decodeRequest .fhp [0, 3, 0x80, 0, 0, 12, 0, 1, 0x86, 0xA0]
      = some (.setSetting { port := .fhp, term := 0, tag := 3, ver := 0 } 12 100000)

/-- Every bit of a well-formed request is in its frame: decoding the bytes that encode it gives it back (10.6, R185). -/
def Obligations.DecodeOfEncode : Prop :=
  ∀ (i : Instr) (h : Hdr) (kind : Nat) (body content : List Byte),
    i.wf = true → requestParts i = some (h, kind, body) → encodeRequest i = some content →
    decodeRequest h.port content = some i

/-! ## What every step keeps -/

/-- Settings stay in their ranges, counts, versions and clock fields in theirs, the output lists within 32 places and
that of the Acquirer Port within 8, and no push is left between commands (R4, R126, R128, R175, R176, R179, R184, R188,
R189, R194). -/
def Obligations.RangesKept : Prop :=
  ∀ s t : State, step s = .next t →
    CommandsFit s → SettingsInRange s → CountersInRange s → OutputsBounded s →
    CommandsFit t ∧ SettingsInRange t ∧ CountersInRange t ∧ OutputsBounded t

/-- Every line record stays free or on one live check (R39). -/
def Obligations.LinesConservedByEveryStep : Prop :=
  ∀ s t : State, step s = .next t → LinesConserved s → LinesConserved t

/-- Check numbers stay distinct and every live check stays in exactly its table's list (R1, R2, R25). -/
def Obligations.ChecksStaySeated : Prop :=
  ∀ s t : State, step s = .next t → ChecksSeated s → ChecksSeated t

/-- Tender records and tender lists stay matched, by check and by number (R96 to R98). -/
def Obligations.TendersStayListed : Prop :=
  ∀ s t : State, step s = .next t → TendersListed s → TendersListed t

/-- The pending-status list and the pending counts stay those of the tenders (R118 to R120). -/
def Obligations.StatusesStayCounted : Prop :=
  ∀ s t : State, step s = .next t → StatusesCounted s → StatusesCounted t

/-- The exchanges keep distinct tags (R134). -/
def Obligations.ExchangesStayTagged : Prop :=
  ∀ s t : State, step s = .next t → ExchangesTagged s → ExchangesTagged t

/-- A check holds APPROVAL exactly while it has an approval record, and one only (R144, R150). -/
def Obligations.ApprovalsStayHeld : Prop :=
  ∀ s t : State, step s = .next t → ApprovalsHeld s → ApprovalsHeld t

/-- No terminal passes its limit of 8 watches and unwatched hits (R159, R163). -/
def Obligations.WatchLimitKept : Prop :=
  ∀ s t : State, step s = .next t → WatchesLimited s → WatchesLimited t

/-- Every live check shows the totals of its lines, its total within 99,999,999, and the shares of a LOCKED plan sum to
its total (R6, R62, R64). -/
def Obligations.TalliesHoldAlways : Prop :=
  ∀ s t : State, step s = .next t → TalliesHold s → TalliesHold t

/-- The tenders of a check stay such as its state admits, a check in SETTLING or PAID stays in the state derived from its
records, and a parked line change stays on a check in OPEN or PRESENTED (R9, R17 to R20); the premises are invariants
stated beside this one. -/
def Obligations.TendersStayFitting : Prop :=
  ∀ s t : State, step s = .next t → ChecksSeated s → TendersListed s → ApprovalsHeld s → PortionsCounted s →
    NeedsMatched s → TendersFitChecks s → TendersFitChecks t

/-- The counted sum of a portion stays the sum of the tenders that count against it, within its share, and its claim stays
its one tender in TIP_WAIT or AUTHORIZING (R87, R90); the premises are invariants stated beside this one. -/
def Obligations.PortionsStayCounted : Prop :=
  ∀ s t : State, step s = .next t → ChecksSeated s → TendersListed s → ApprovalsHeld s → TendersFitChecks s →
    NeedsMatched s → PortionsCounted s → PortionsCounted t

/-- No tender ever holds more than one place of the wait queue and the exchange table together, each that holds one is in
the state that placed its need, and every tender in such a state holds one (R132, R134); the premises are invariants
stated beside this one. -/
def Obligations.NeedsStayMatched : Prop :=
  ∀ s t : State, step s = .next t → ChecksSeated s → TendersListed s → ApprovalsHeld s → TendersFitChecks s →
    PortionsCounted s → NeedsMatched s → NeedsMatched t

/-- Amount plus tip stays within the hold ceiling in AUTHORIZED, CAPTURING and AUTHORIZING (INCREMENT), and the authorized
total of a tender never falls, nor does its tolerance snapshot change (R76 to R78); the premises are invariants stated
beside this one. -/
def Obligations.CeilingsStayKept : Prop :=
  ∀ s t : State, step s = .next t → ChecksSeated s → TendersListed s → ApprovalsHeld s → TendersFitChecks s →
    PortionsCounted s → NeedsMatched s → CeilingsHold s →
    CeilingsHold t
    ∧ ∀ i x y a, s.tender? i = some x → t.tender? i = some y → x.authTotal = some a →
        ∃ b, y.authTotal = some b ∧ a ≤ b ∧ y.tolerance = x.tolerance
end

