-- ==== Sys2Proof/Laws/FactoryArea.lean ====
section
/-! SUPPORT. The factory area of the reset state is valid: its checksum, computed over its image piece by piece. -/

namespace Sys2Proof.Machine

/-- The checksum over two pieces, from those over each. -/
theorem crc32_append {l₁ l₂ : List Byte} {a b c : Nat} (h₁ : l₁.foldl crc32Byte a = b) (h₂ : l₂.foldl crc32Byte b = c) :
    (l₁ ++ l₂).foldl crc32Byte a = c := by
  rw [List.foldl_append, h₁, h₂]

/-- The CRC-32 from the register after the last byte. -/
theorem crc32_of_fold {bs : List Byte} {c : Nat} (h : bs.foldl crc32Byte 0xFFFFFFFF = c) :
    crc32 bs = Nat.xor c 0xFFFFFFFF := by
  rw [crc32, h]

/-- The checksum over zeros carried from one register value to another. -/
theorem crc32_zeros_step (n c d : Nat) (h : (List.replicate 62 (0 : Byte)).foldl crc32Byte c = d) :
    (List.replicate (62 + n) (0 : Byte)).foldl crc32Byte c = (List.replicate n (0 : Byte)).foldl crc32Byte d := by
  rw [List.replicate_add, List.foldl_append, h]

/-- The image of the built-in defaults: the 92 bytes of the settings, then zeros. -/
theorem defaults_image :
    RawCopy.defaults.image = (defaultValues.map be4).flatten ++ List.replicate 496 (0 : Byte) := by decide +kernel

/-- The first settings that are not 0, as bytes. -/
def settingBytes1 : List Byte := [0, 1, 134, 160, 0, 0, 78, 32, 0, 0, 78, 32, 0, 0, 0, 90, 0, 0, 0, 30, 0, 0, 0, 3]

/-- The other settings that are not 0, as bytes. -/
def settingBytes2 : List Byte := [0, 0, 0, 3, 0, 0, 1, 44, 0, 0, 0, 120, 0, 0, 0, 180, 0, 0, 0, 0, 0, 0, 0, 0]

/-- The bytes of the settings: those of settings 1 to 11 are 0. -/
theorem default_value_bytes :
    (defaultValues.map be4).flatten = List.replicate 44 (0 : Byte) ++ (settingBytes1 ++ settingBytes2) := by decide +kernel

/-- The checksum register after settings 1 to 11. -/
theorem crc32_of_zeros : (List.replicate 44 (0 : Byte)).foldl crc32Byte 0xFFFFFFFF = 0x7cdb99e3 := by decide +kernel

/-- The checksum register after the next six settings. -/
theorem crc32_of_settingBytes1 : settingBytes1.foldl crc32Byte 0x7cdb99e3 = 0xf9c6d294 := by decide +kernel

/-- The checksum register after the last six settings. -/
theorem crc32_of_settingBytes2 : settingBytes2.foldl crc32Byte 0xf9c6d294 = 0x34e26f2a := by decide +kernel

/-- The checksum register after the bytes of the settings. -/
theorem crc32_of_default_values :
    ((defaultValues.map be4).flatten).foldl crc32Byte 0xFFFFFFFF = 0x34e26f2a :=
  (congrArg (List.foldl crc32Byte 0xFFFFFFFF) default_value_bytes).trans
    (crc32_append crc32_of_zeros (crc32_append crc32_of_settingBytes1 crc32_of_settingBytes2))

/-- The checksum register after the zeros that follow the settings. -/
theorem crc32_of_zero_tail : (List.replicate 496 (0 : Byte)).foldl crc32Byte 0x34e26f2a = 0x24d649c5 :=
  (crc32_zeros_step 434 0x34e26f2a 0x9fb80462 (by decide +kernel)).trans <|
  (crc32_zeros_step 372 0x9fb80462 0x774cccb4 (by decide +kernel)).trans <|
  (crc32_zeros_step 310 0x774cccb4 0x1d68324d (by decide +kernel)).trans <|
  (crc32_zeros_step 248 0x1d68324d 0xb7b9d564 (by decide +kernel)).trans <|
  (crc32_zeros_step 186 0xb7b9d564 0xea914e86 (by decide +kernel)).trans <|
  (crc32_zeros_step 124 0xea914e86 0xd472f624 (by decide +kernel)).trans <|
  (crc32_zeros_step 62 0xd472f624 0xf6d72ba5 (by decide +kernel)).trans <|
  (by decide +kernel : (List.replicate 62 (0 : Byte)).foldl crc32Byte 0xf6d72ba5 = 0x24d649c5)

/-- The stored CRC-32 of the factory area is the CRC-32 of its contents. -/
theorem factoryCrc_eq : crc32 RawCopy.defaults.image = factoryCrc := by
  have h : RawCopy.defaults.image.foldl crc32Byte 0xFFFFFFFF = 0x24d649c5 :=
    (congrArg (List.foldl crc32Byte 0xFFFFFFFF) defaults_image).trans
      (crc32_append crc32_of_default_values crc32_of_zero_tail)
  exact (crc32_of_fold h).trans (by decide)

/-- An area is valid when its stored CRC-32 is that of its contents (11 R191). -/
theorem Area.valid_of_crc (a : Area) (h : crc32 a.contents.image = a.crc) : a.valid = true := by
  simp [Area.valid, h]

/-- The factory area of the reset state is valid (log entry 3). -/
theorem factory_area_valid (a : Area) (h : State.reset.sst.factory = some a) : a.valid = true := by
  obtain rfl : { contents := RawCopy.defaults, crc := factoryCrc } = a := Option.some.inj h
  exact Area.valid_of_crc _ factoryCrc_eq

end Sys2Proof.Machine
end

