-- ==== Sys2Proof/Laws/FramesRecords.lean ====
section
/-! SUPPORT. Frames of the operations on single records: each field that an operation leaves alone, one simp lemma each. -/

namespace Sys2Proof.Machine

/-- A figure that every step of a fold keeps is kept by the fold. -/
theorem foldl_keeps {α β γ : Type} (P : β → γ) (f : β → α → β) (hf : ∀ b a, P (f b a) = P b) (l : List α) (b : β) :
    P (l.foldl f b) = P b := by
  induction l generalizing b with
  | nil => rfl
  | cons a l ih => rw [List.foldl_cons, ih, hf]

set_option Elab.async false

variable (s : State)

@[simp] theorem State.setWork_ckt (w : Settings) : (s.setWork w).ckt = s.ckt := rfl
@[simp] theorem State.setWork_freeLines (w : Settings) : (s.setWork w).freeLines = s.freeLines := rfl
@[simp] theorem State.setWork_tdu (w : Settings) : (s.setWork w).tdu = s.tdu := rfl
@[simp] theorem State.setWork_fmp (w : Settings) : (s.setWork w).fmp = s.fmp := rfl
@[simp] theorem State.setWork_aqp (w : Settings) : (s.setWork w).aqp = s.aqp := rfl
@[simp] theorem State.setWork_apu (w : Settings) : (s.setWork w).apu = s.apu := rfl
@[simp] theorem State.setWork_wnu (w : Settings) : (s.setWork w).wnu = s.wnu := rfl
@[simp] theorem State.setWork_sst_site (w : Settings) : (s.setWork w).sst.site = s.sst.site := rfl
@[simp] theorem State.setWork_sst_factory (w : Settings) : (s.setWork w).sst.factory = s.sst.factory := rfl
@[simp] theorem State.setWork_sst_save (w : Settings) : (s.setWork w).sst.save = s.sst.save := rfl
@[simp] theorem State.setWork_sst_saveCopy (w : Settings) : (s.setWork w).sst.saveCopy = s.sst.saveCopy := rfl
@[simp] theorem State.setWork_sst_loaded (w : Settings) : (s.setWork w).sst.loaded = s.sst.loaded := rfl
@[simp] theorem State.setWork_fck (w : Settings) : (s.setWork w).fck = s.fck := rfl
@[simp] theorem State.setWork_flp (w : Settings) : (s.setWork w).flp = s.flp := rfl
@[simp] theorem State.setWork_fhp (w : Settings) : (s.setWork w).fhp = s.fhp := rfl
@[simp] theorem State.setWork_gwp (w : Settings) : (s.setWork w).gwp = s.gwp := rfl
@[simp] theorem State.setWork_power (w : Settings) : (s.setWork w).power = s.power := rfl
@[simp] theorem State.setWork_due (w : Settings) : (s.setWork w).due = s.due := rfl
@[simp] theorem State.setWork_pending (w : Settings) : (s.setWork w).pending = s.pending := rfl

@[simp] theorem State.setPresent_ckt (t : Nat) (b : Bool) : (s.setPresent t b).ckt = s.ckt := rfl
@[simp] theorem State.setPresent_freeLines (t : Nat) (b : Bool) : (s.setPresent t b).freeLines = s.freeLines := rfl
@[simp] theorem State.setPresent_tdu (t : Nat) (b : Bool) : (s.setPresent t b).tdu = s.tdu := rfl
@[simp] theorem State.setPresent_fmp_lists (t : Nat) (b : Bool) : (s.setPresent t b).fmp.lists = s.fmp.lists := rfl
@[simp] theorem State.setPresent_fmp_lastHeard (t : Nat) (b : Bool) : (s.setPresent t b).fmp.lastHeard = s.fmp.lastHeard := rfl
@[simp] theorem State.setPresent_aqp (t : Nat) (b : Bool) : (s.setPresent t b).aqp = s.aqp := rfl
@[simp] theorem State.setPresent_apu (t : Nat) (b : Bool) : (s.setPresent t b).apu = s.apu := rfl
@[simp] theorem State.setPresent_wnu (t : Nat) (b : Bool) : (s.setPresent t b).wnu = s.wnu := rfl
@[simp] theorem State.setPresent_sst (t : Nat) (b : Bool) : (s.setPresent t b).sst = s.sst := rfl
@[simp] theorem State.setPresent_fck (t : Nat) (b : Bool) : (s.setPresent t b).fck = s.fck := rfl
@[simp] theorem State.setPresent_flp (t : Nat) (b : Bool) : (s.setPresent t b).flp = s.flp := rfl
@[simp] theorem State.setPresent_fhp (t : Nat) (b : Bool) : (s.setPresent t b).fhp = s.fhp := rfl
@[simp] theorem State.setPresent_gwp (t : Nat) (b : Bool) : (s.setPresent t b).gwp = s.gwp := rfl
@[simp] theorem State.setPresent_power (t : Nat) (b : Bool) : (s.setPresent t b).power = s.power := rfl
@[simp] theorem State.setPresent_due (t : Nat) (b : Bool) : (s.setPresent t b).due = s.due := rfl
@[simp] theorem State.setPresent_pending (t : Nat) (b : Bool) : (s.setPresent t b).pending = s.pending := rfl

@[simp] theorem State.setHits_ckt (t : Nat) (hs : List Hit) : (s.setHits t hs).ckt = s.ckt := rfl
@[simp] theorem State.setHits_freeLines (t : Nat) (hs : List Hit) : (s.setHits t hs).freeLines = s.freeLines := rfl
@[simp] theorem State.setHits_tdu (t : Nat) (hs : List Hit) : (s.setHits t hs).tdu = s.tdu := rfl
@[simp] theorem State.setHits_fmp (t : Nat) (hs : List Hit) : (s.setHits t hs).fmp = s.fmp := rfl
@[simp] theorem State.setHits_aqp (t : Nat) (hs : List Hit) : (s.setHits t hs).aqp = s.aqp := rfl
@[simp] theorem State.setHits_apu (t : Nat) (hs : List Hit) : (s.setHits t hs).apu = s.apu := rfl
@[simp] theorem State.setHits_wnu_watches (t : Nat) (hs : List Hit) : (s.setHits t hs).wnu.watches = s.wnu.watches := rfl
@[simp] theorem State.setHits_wnu_pendCounts (t : Nat) (hs : List Hit) : (s.setHits t hs).wnu.pendCounts = s.wnu.pendCounts := rfl
@[simp] theorem State.setHits_wnu_startup (t : Nat) (hs : List Hit) : (s.setHits t hs).wnu.startup = s.wnu.startup := rfl
@[simp] theorem State.setHits_wnu_startKind (t : Nat) (hs : List Hit) : (s.setHits t hs).wnu.startKind = s.wnu.startKind := rfl
@[simp] theorem State.setHits_wnu_pushes (t : Nat) (hs : List Hit) : (s.setHits t hs).wnu.pushes = s.wnu.pushes := rfl
@[simp] theorem State.setHits_sst (t : Nat) (hs : List Hit) : (s.setHits t hs).sst = s.sst := rfl
@[simp] theorem State.setHits_fck (t : Nat) (hs : List Hit) : (s.setHits t hs).fck = s.fck := rfl
@[simp] theorem State.setHits_flp (t : Nat) (hs : List Hit) : (s.setHits t hs).flp = s.flp := rfl
@[simp] theorem State.setHits_fhp (t : Nat) (hs : List Hit) : (s.setHits t hs).fhp = s.fhp := rfl
@[simp] theorem State.setHits_gwp (t : Nat) (hs : List Hit) : (s.setHits t hs).gwp = s.gwp := rfl
@[simp] theorem State.setHits_power (t : Nat) (hs : List Hit) : (s.setHits t hs).power = s.power := rfl
@[simp] theorem State.setHits_due (t : Nat) (hs : List Hit) : (s.setHits t hs).due = s.due := rfl
@[simp] theorem State.setHits_pending (t : Nat) (hs : List Hit) : (s.setHits t hs).pending = s.pending := rfl

@[simp] theorem State.setPendCount_ckt (t n : Nat) : (s.setPendCount t n).ckt = s.ckt := rfl
@[simp] theorem State.setPendCount_freeLines (t n : Nat) : (s.setPendCount t n).freeLines = s.freeLines := rfl
@[simp] theorem State.setPendCount_tdu (t n : Nat) : (s.setPendCount t n).tdu = s.tdu := rfl
@[simp] theorem State.setPendCount_fmp (t n : Nat) : (s.setPendCount t n).fmp = s.fmp := rfl
@[simp] theorem State.setPendCount_aqp (t n : Nat) : (s.setPendCount t n).aqp = s.aqp := rfl
@[simp] theorem State.setPendCount_apu (t n : Nat) : (s.setPendCount t n).apu = s.apu := rfl
@[simp] theorem State.setPendCount_wnu_watches (t n : Nat) : (s.setPendCount t n).wnu.watches = s.wnu.watches := rfl
@[simp] theorem State.setPendCount_wnu_hits (t n : Nat) : (s.setPendCount t n).wnu.hits = s.wnu.hits := rfl
@[simp] theorem State.setPendCount_wnu_startup (t n : Nat) : (s.setPendCount t n).wnu.startup = s.wnu.startup := rfl
@[simp] theorem State.setPendCount_wnu_startKind (t n : Nat) : (s.setPendCount t n).wnu.startKind = s.wnu.startKind := rfl
@[simp] theorem State.setPendCount_wnu_pushes (t n : Nat) : (s.setPendCount t n).wnu.pushes = s.wnu.pushes := rfl
@[simp] theorem State.setPendCount_sst (t n : Nat) : (s.setPendCount t n).sst = s.sst := rfl
@[simp] theorem State.setPendCount_fck (t n : Nat) : (s.setPendCount t n).fck = s.fck := rfl
@[simp] theorem State.setPendCount_flp (t n : Nat) : (s.setPendCount t n).flp = s.flp := rfl
@[simp] theorem State.setPendCount_fhp (t n : Nat) : (s.setPendCount t n).fhp = s.fhp := rfl
@[simp] theorem State.setPendCount_gwp (t n : Nat) : (s.setPendCount t n).gwp = s.gwp := rfl
@[simp] theorem State.setPendCount_power (t n : Nat) : (s.setPendCount t n).power = s.power := rfl
@[simp] theorem State.setPendCount_due (t n : Nat) : (s.setPendCount t n).due = s.due := rfl
@[simp] theorem State.setPendCount_pending (t n : Nat) : (s.setPendCount t n).pending = s.pending := rfl

@[simp] theorem State.modCheck_ckt_nextNumber (i : Nat) (f : Check → Check) : (s.modCheck i f).ckt.nextNumber = s.ckt.nextNumber := rfl
@[simp] theorem State.modCheck_freeLines (i : Nat) (f : Check → Check) : (s.modCheck i f).freeLines = s.freeLines := rfl
@[simp] theorem State.modCheck_tdu (i : Nat) (f : Check → Check) : (s.modCheck i f).tdu = s.tdu := rfl
@[simp] theorem State.modCheck_fmp (i : Nat) (f : Check → Check) : (s.modCheck i f).fmp = s.fmp := rfl
@[simp] theorem State.modCheck_aqp (i : Nat) (f : Check → Check) : (s.modCheck i f).aqp = s.aqp := rfl
@[simp] theorem State.modCheck_apu (i : Nat) (f : Check → Check) : (s.modCheck i f).apu = s.apu := rfl
@[simp] theorem State.modCheck_wnu (i : Nat) (f : Check → Check) : (s.modCheck i f).wnu = s.wnu := rfl
@[simp] theorem State.modCheck_sst (i : Nat) (f : Check → Check) : (s.modCheck i f).sst = s.sst := rfl
@[simp] theorem State.modCheck_fck (i : Nat) (f : Check → Check) : (s.modCheck i f).fck = s.fck := rfl
@[simp] theorem State.modCheck_flp (i : Nat) (f : Check → Check) : (s.modCheck i f).flp = s.flp := rfl
@[simp] theorem State.modCheck_fhp (i : Nat) (f : Check → Check) : (s.modCheck i f).fhp = s.fhp := rfl
@[simp] theorem State.modCheck_gwp (i : Nat) (f : Check → Check) : (s.modCheck i f).gwp = s.gwp := rfl
@[simp] theorem State.modCheck_power (i : Nat) (f : Check → Check) : (s.modCheck i f).power = s.power := rfl
@[simp] theorem State.modCheck_due (i : Nat) (f : Check → Check) : (s.modCheck i f).due = s.due := rfl
@[simp] theorem State.modCheck_pending (i : Nat) (f : Check → Check) : (s.modCheck i f).pending = s.pending := rfl

@[simp] theorem State.seatAt_ckt (table slot : Nat) : (s.seatAt table slot).ckt = s.ckt := rfl
@[simp] theorem State.seatAt_freeLines (table slot : Nat) : (s.seatAt table slot).freeLines = s.freeLines := rfl
@[simp] theorem State.seatAt_tdu (table slot : Nat) : (s.seatAt table slot).tdu = s.tdu := rfl
@[simp] theorem State.seatAt_fmp_present (table slot : Nat) : (s.seatAt table slot).fmp.present = s.fmp.present := rfl
@[simp] theorem State.seatAt_fmp_lastHeard (table slot : Nat) : (s.seatAt table slot).fmp.lastHeard = s.fmp.lastHeard := rfl
@[simp] theorem State.seatAt_aqp (table slot : Nat) : (s.seatAt table slot).aqp = s.aqp := rfl
@[simp] theorem State.seatAt_apu (table slot : Nat) : (s.seatAt table slot).apu = s.apu := rfl
@[simp] theorem State.seatAt_wnu (table slot : Nat) : (s.seatAt table slot).wnu = s.wnu := rfl
@[simp] theorem State.seatAt_sst (table slot : Nat) : (s.seatAt table slot).sst = s.sst := rfl
@[simp] theorem State.seatAt_fck (table slot : Nat) : (s.seatAt table slot).fck = s.fck := rfl
@[simp] theorem State.seatAt_flp (table slot : Nat) : (s.seatAt table slot).flp = s.flp := rfl
@[simp] theorem State.seatAt_fhp (table slot : Nat) : (s.seatAt table slot).fhp = s.fhp := rfl
@[simp] theorem State.seatAt_gwp (table slot : Nat) : (s.seatAt table slot).gwp = s.gwp := rfl
@[simp] theorem State.seatAt_power (table slot : Nat) : (s.seatAt table slot).power = s.power := rfl
@[simp] theorem State.seatAt_due (table slot : Nat) : (s.seatAt table slot).due = s.due := rfl
@[simp] theorem State.seatAt_pending (table slot : Nat) : (s.seatAt table slot).pending = s.pending := rfl

@[simp] theorem State.unseat_ckt (table slot : Nat) : (s.unseat table slot).ckt = s.ckt := rfl
@[simp] theorem State.unseat_freeLines (table slot : Nat) : (s.unseat table slot).freeLines = s.freeLines := rfl
@[simp] theorem State.unseat_tdu (table slot : Nat) : (s.unseat table slot).tdu = s.tdu := rfl
@[simp] theorem State.unseat_fmp_present (table slot : Nat) : (s.unseat table slot).fmp.present = s.fmp.present := rfl
@[simp] theorem State.unseat_fmp_lastHeard (table slot : Nat) : (s.unseat table slot).fmp.lastHeard = s.fmp.lastHeard := rfl
@[simp] theorem State.unseat_aqp (table slot : Nat) : (s.unseat table slot).aqp = s.aqp := rfl
@[simp] theorem State.unseat_apu (table slot : Nat) : (s.unseat table slot).apu = s.apu := rfl
@[simp] theorem State.unseat_wnu (table slot : Nat) : (s.unseat table slot).wnu = s.wnu := rfl
@[simp] theorem State.unseat_sst (table slot : Nat) : (s.unseat table slot).sst = s.sst := rfl
@[simp] theorem State.unseat_fck (table slot : Nat) : (s.unseat table slot).fck = s.fck := rfl
@[simp] theorem State.unseat_flp (table slot : Nat) : (s.unseat table slot).flp = s.flp := rfl
@[simp] theorem State.unseat_fhp (table slot : Nat) : (s.unseat table slot).fhp = s.fhp := rfl
@[simp] theorem State.unseat_gwp (table slot : Nat) : (s.unseat table slot).gwp = s.gwp := rfl
@[simp] theorem State.unseat_power (table slot : Nat) : (s.unseat table slot).power = s.power := rfl
@[simp] theorem State.unseat_due (table slot : Nat) : (s.unseat table slot).due = s.due := rfl
@[simp] theorem State.unseat_pending (table slot : Nat) : (s.unseat table slot).pending = s.pending := rfl

@[simp] theorem State.modTender_ckt (i : Nat) (f : Tender → Tender) : (s.modTender i f).ckt = s.ckt := rfl
@[simp] theorem State.modTender_freeLines (i : Nat) (f : Tender → Tender) : (s.modTender i f).freeLines = s.freeLines := rfl
@[simp] theorem State.modTender_tdu_pendingList (i : Nat) (f : Tender → Tender) : (s.modTender i f).tdu.pendingList = s.tdu.pendingList := rfl
@[simp] theorem State.modTender_fmp (i : Nat) (f : Tender → Tender) : (s.modTender i f).fmp = s.fmp := rfl
@[simp] theorem State.modTender_aqp (i : Nat) (f : Tender → Tender) : (s.modTender i f).aqp = s.aqp := rfl
@[simp] theorem State.modTender_apu (i : Nat) (f : Tender → Tender) : (s.modTender i f).apu = s.apu := rfl
@[simp] theorem State.modTender_wnu (i : Nat) (f : Tender → Tender) : (s.modTender i f).wnu = s.wnu := rfl
@[simp] theorem State.modTender_sst (i : Nat) (f : Tender → Tender) : (s.modTender i f).sst = s.sst := rfl
@[simp] theorem State.modTender_fck (i : Nat) (f : Tender → Tender) : (s.modTender i f).fck = s.fck := rfl
@[simp] theorem State.modTender_flp (i : Nat) (f : Tender → Tender) : (s.modTender i f).flp = s.flp := rfl
@[simp] theorem State.modTender_fhp (i : Nat) (f : Tender → Tender) : (s.modTender i f).fhp = s.fhp := rfl
@[simp] theorem State.modTender_gwp (i : Nat) (f : Tender → Tender) : (s.modTender i f).gwp = s.gwp := rfl
@[simp] theorem State.modTender_power (i : Nat) (f : Tender → Tender) : (s.modTender i f).power = s.power := rfl
@[simp] theorem State.modTender_due (i : Nat) (f : Tender → Tender) : (s.modTender i f).due = s.due := rfl
@[simp] theorem State.modTender_pending (i : Nat) (f : Tender → Tender) : (s.modTender i f).pending = s.pending := rfl

@[simp] theorem State.dropApproval_ckt (a : Approval) : (s.dropApproval a).ckt = s.ckt := rfl
@[simp] theorem State.dropApproval_freeLines (a : Approval) : (s.dropApproval a).freeLines = s.freeLines := rfl
@[simp] theorem State.dropApproval_tdu (a : Approval) : (s.dropApproval a).tdu = s.tdu := rfl
@[simp] theorem State.dropApproval_fmp (a : Approval) : (s.dropApproval a).fmp = s.fmp := rfl
@[simp] theorem State.dropApproval_aqp (a : Approval) : (s.dropApproval a).aqp = s.aqp := rfl
@[simp] theorem State.dropApproval_apu_counter (a : Approval) : (s.dropApproval a).apu.counter = s.apu.counter := rfl
@[simp] theorem State.dropApproval_wnu (a : Approval) : (s.dropApproval a).wnu = s.wnu := rfl
@[simp] theorem State.dropApproval_sst (a : Approval) : (s.dropApproval a).sst = s.sst := rfl
@[simp] theorem State.dropApproval_fck (a : Approval) : (s.dropApproval a).fck = s.fck := rfl
@[simp] theorem State.dropApproval_flp (a : Approval) : (s.dropApproval a).flp = s.flp := rfl
@[simp] theorem State.dropApproval_fhp (a : Approval) : (s.dropApproval a).fhp = s.fhp := rfl
@[simp] theorem State.dropApproval_gwp (a : Approval) : (s.dropApproval a).gwp = s.gwp := rfl
@[simp] theorem State.dropApproval_power (a : Approval) : (s.dropApproval a).power = s.power := rfl
@[simp] theorem State.dropApproval_due (a : Approval) : (s.dropApproval a).due = s.due := rfl
@[simp] theorem State.dropApproval_pending (a : Approval) : (s.dropApproval a).pending = s.pending := rfl

@[simp] theorem State.renewLeases_ckt (t : Nat) : (s.renewLeases t).ckt = s.ckt := rfl
@[simp] theorem State.renewLeases_freeLines (t : Nat) : (s.renewLeases t).freeLines = s.freeLines := rfl
@[simp] theorem State.renewLeases_tdu_pendingList (t : Nat) : (s.renewLeases t).tdu.pendingList = s.tdu.pendingList := rfl
@[simp] theorem State.renewLeases_fmp (t : Nat) : (s.renewLeases t).fmp = s.fmp := rfl
@[simp] theorem State.renewLeases_aqp (t : Nat) : (s.renewLeases t).aqp = s.aqp := rfl
@[simp] theorem State.renewLeases_apu (t : Nat) : (s.renewLeases t).apu = s.apu := rfl
@[simp] theorem State.renewLeases_wnu (t : Nat) : (s.renewLeases t).wnu = s.wnu := rfl
@[simp] theorem State.renewLeases_sst (t : Nat) : (s.renewLeases t).sst = s.sst := rfl
@[simp] theorem State.renewLeases_fck (t : Nat) : (s.renewLeases t).fck = s.fck := rfl
@[simp] theorem State.renewLeases_flp (t : Nat) : (s.renewLeases t).flp = s.flp := rfl
@[simp] theorem State.renewLeases_fhp (t : Nat) : (s.renewLeases t).fhp = s.fhp := rfl
@[simp] theorem State.renewLeases_gwp (t : Nat) : (s.renewLeases t).gwp = s.gwp := rfl
@[simp] theorem State.renewLeases_power (t : Nat) : (s.renewLeases t).power = s.power := rfl
@[simp] theorem State.renewLeases_due (t : Nat) : (s.renewLeases t).due = s.due := rfl
@[simp] theorem State.renewLeases_pending (t : Nat) : (s.renewLeases t).pending = s.pending := rfl

@[simp] theorem State.flushPushes_ckt : (s.flushPushes).ckt = s.ckt := rfl
@[simp] theorem State.flushPushes_freeLines : (s.flushPushes).freeLines = s.freeLines := rfl
@[simp] theorem State.flushPushes_tdu : (s.flushPushes).tdu = s.tdu := rfl
@[simp] theorem State.flushPushes_fmp : (s.flushPushes).fmp = s.fmp := rfl
@[simp] theorem State.flushPushes_aqp : (s.flushPushes).aqp = s.aqp := rfl
@[simp] theorem State.flushPushes_apu : (s.flushPushes).apu = s.apu := rfl
@[simp] theorem State.flushPushes_wnu_watches : (s.flushPushes).wnu.watches = s.wnu.watches := rfl
@[simp] theorem State.flushPushes_wnu_hits : (s.flushPushes).wnu.hits = s.wnu.hits := rfl
@[simp] theorem State.flushPushes_wnu_pendCounts : (s.flushPushes).wnu.pendCounts = s.wnu.pendCounts := rfl
@[simp] theorem State.flushPushes_wnu_startup : (s.flushPushes).wnu.startup = s.wnu.startup := rfl
@[simp] theorem State.flushPushes_wnu_startKind : (s.flushPushes).wnu.startKind = s.wnu.startKind := rfl
@[simp] theorem State.flushPushes_sst : (s.flushPushes).sst = s.sst := rfl
@[simp] theorem State.flushPushes_fck : (s.flushPushes).fck = s.fck := rfl
@[simp] theorem State.flushPushes_fhp : (s.flushPushes).fhp = s.fhp := rfl
@[simp] theorem State.flushPushes_gwp : (s.flushPushes).gwp = s.gwp := rfl
@[simp] theorem State.flushPushes_power : (s.flushPushes).power = s.power := rfl
@[simp] theorem State.flushPushes_due : (s.flushPushes).due = s.due := rfl
@[simp] theorem State.flushPushes_pending : (s.flushPushes).pending = s.pending := rfl

@[simp] theorem State.removeNeed_ckt (i : Nat) : (s.removeNeed i).ckt = s.ckt := rfl
@[simp] theorem State.removeNeed_freeLines (i : Nat) : (s.removeNeed i).freeLines = s.freeLines := rfl
@[simp] theorem State.removeNeed_tdu (i : Nat) : (s.removeNeed i).tdu = s.tdu := rfl
@[simp] theorem State.removeNeed_fmp (i : Nat) : (s.removeNeed i).fmp = s.fmp := rfl
@[simp] theorem State.removeNeed_aqp_linkOk (i : Nat) : (s.removeNeed i).aqp.linkOk = s.aqp.linkOk := rfl
@[simp] theorem State.removeNeed_aqp_link (i : Nat) : (s.removeNeed i).aqp.link = s.aqp.link := rfl
@[simp] theorem State.removeNeed_aqp_timeouts (i : Nat) : (s.removeNeed i).aqp.timeouts = s.aqp.timeouts := rfl
@[simp] theorem State.removeNeed_aqp_entries (i : Nat) : (s.removeNeed i).aqp.entries = s.aqp.entries := rfl
@[simp] theorem State.removeNeed_aqp_tagCounter (i : Nat) : (s.removeNeed i).aqp.tagCounter = s.aqp.tagCounter := rfl
@[simp] theorem State.removeNeed_aqp_discarded (i : Nat) : (s.removeNeed i).aqp.discarded = s.aqp.discarded := rfl
@[simp] theorem State.removeNeed_apu (i : Nat) : (s.removeNeed i).apu = s.apu := rfl
@[simp] theorem State.removeNeed_wnu (i : Nat) : (s.removeNeed i).wnu = s.wnu := rfl
@[simp] theorem State.removeNeed_sst (i : Nat) : (s.removeNeed i).sst = s.sst := rfl
@[simp] theorem State.removeNeed_fck (i : Nat) : (s.removeNeed i).fck = s.fck := rfl
@[simp] theorem State.removeNeed_flp (i : Nat) : (s.removeNeed i).flp = s.flp := rfl
@[simp] theorem State.removeNeed_fhp (i : Nat) : (s.removeNeed i).fhp = s.fhp := rfl
@[simp] theorem State.removeNeed_gwp (i : Nat) : (s.removeNeed i).gwp = s.gwp := rfl
@[simp] theorem State.removeNeed_power (i : Nat) : (s.removeNeed i).power = s.power := rfl
@[simp] theorem State.removeNeed_due (i : Nat) : (s.removeNeed i).due = s.due := rfl
@[simp] theorem State.removeNeed_pending (i : Nat) : (s.removeNeed i).pending = s.pending := rfl

@[simp] theorem State.placeNeed_ckt (i : Nat) (k : NeedKind) : (s.placeNeed i k).ckt = s.ckt := rfl
@[simp] theorem State.placeNeed_freeLines (i : Nat) (k : NeedKind) : (s.placeNeed i k).freeLines = s.freeLines := rfl
@[simp] theorem State.placeNeed_tdu_pendingList (i : Nat) (k : NeedKind) : (s.placeNeed i k).tdu.pendingList = s.tdu.pendingList := rfl
@[simp] theorem State.placeNeed_fmp (i : Nat) (k : NeedKind) : (s.placeNeed i k).fmp = s.fmp := rfl
@[simp] theorem State.placeNeed_aqp_linkOk (i : Nat) (k : NeedKind) : (s.placeNeed i k).aqp.linkOk = s.aqp.linkOk := rfl
@[simp] theorem State.placeNeed_aqp_link (i : Nat) (k : NeedKind) : (s.placeNeed i k).aqp.link = s.aqp.link := rfl
@[simp] theorem State.placeNeed_aqp_timeouts (i : Nat) (k : NeedKind) : (s.placeNeed i k).aqp.timeouts = s.aqp.timeouts := rfl
@[simp] theorem State.placeNeed_aqp_entries (i : Nat) (k : NeedKind) : (s.placeNeed i k).aqp.entries = s.aqp.entries := rfl
@[simp] theorem State.placeNeed_aqp_tagCounter (i : Nat) (k : NeedKind) : (s.placeNeed i k).aqp.tagCounter = s.aqp.tagCounter := rfl
@[simp] theorem State.placeNeed_aqp_discarded (i : Nat) (k : NeedKind) : (s.placeNeed i k).aqp.discarded = s.aqp.discarded := rfl
@[simp] theorem State.placeNeed_apu (i : Nat) (k : NeedKind) : (s.placeNeed i k).apu = s.apu := rfl
@[simp] theorem State.placeNeed_wnu (i : Nat) (k : NeedKind) : (s.placeNeed i k).wnu = s.wnu := rfl
@[simp] theorem State.placeNeed_sst (i : Nat) (k : NeedKind) : (s.placeNeed i k).sst = s.sst := rfl
@[simp] theorem State.placeNeed_fck (i : Nat) (k : NeedKind) : (s.placeNeed i k).fck = s.fck := rfl
@[simp] theorem State.placeNeed_flp (i : Nat) (k : NeedKind) : (s.placeNeed i k).flp = s.flp := rfl
@[simp] theorem State.placeNeed_fhp (i : Nat) (k : NeedKind) : (s.placeNeed i k).fhp = s.fhp := rfl
@[simp] theorem State.placeNeed_gwp (i : Nat) (k : NeedKind) : (s.placeNeed i k).gwp = s.gwp := rfl
@[simp] theorem State.placeNeed_power (i : Nat) (k : NeedKind) : (s.placeNeed i k).power = s.power := rfl
@[simp] theorem State.placeNeed_due (i : Nat) (k : NeedKind) : (s.placeNeed i k).due = s.due := rfl
@[simp] theorem State.placeNeed_pending (i : Nat) (k : NeedKind) : (s.placeNeed i k).pending = s.pending := rfl

@[simp] theorem State.setLink_ckt (l : LinkState) : (s.setLink l).ckt = s.ckt := rfl
@[simp] theorem State.setLink_freeLines (l : LinkState) : (s.setLink l).freeLines = s.freeLines := rfl
@[simp] theorem State.setLink_tdu (l : LinkState) : (s.setLink l).tdu = s.tdu := rfl
@[simp] theorem State.setLink_fmp (l : LinkState) : (s.setLink l).fmp = s.fmp := rfl
@[simp] theorem State.setLink_aqp_linkOk (l : LinkState) : (s.setLink l).aqp.linkOk = s.aqp.linkOk := rfl
@[simp] theorem State.setLink_aqp_timeouts (l : LinkState) : (s.setLink l).aqp.timeouts = s.aqp.timeouts := rfl
@[simp] theorem State.setLink_aqp_entries (l : LinkState) : (s.setLink l).aqp.entries = s.aqp.entries := rfl
@[simp] theorem State.setLink_aqp_queue (l : LinkState) : (s.setLink l).aqp.queue = s.aqp.queue := rfl
@[simp] theorem State.setLink_aqp_tagCounter (l : LinkState) : (s.setLink l).aqp.tagCounter = s.aqp.tagCounter := rfl
@[simp] theorem State.setLink_aqp_discarded (l : LinkState) : (s.setLink l).aqp.discarded = s.aqp.discarded := rfl
@[simp] theorem State.setLink_apu (l : LinkState) : (s.setLink l).apu = s.apu := rfl
@[simp] theorem State.setLink_wnu (l : LinkState) : (s.setLink l).wnu = s.wnu := rfl
@[simp] theorem State.setLink_sst (l : LinkState) : (s.setLink l).sst = s.sst := rfl
@[simp] theorem State.setLink_fck (l : LinkState) : (s.setLink l).fck = s.fck := rfl
@[simp] theorem State.setLink_flp (l : LinkState) : (s.setLink l).flp = s.flp := rfl
@[simp] theorem State.setLink_fhp (l : LinkState) : (s.setLink l).fhp = s.fhp := rfl
@[simp] theorem State.setLink_gwp (l : LinkState) : (s.setLink l).gwp = s.gwp := rfl
@[simp] theorem State.setLink_power (l : LinkState) : (s.setLink l).power = s.power := rfl
@[simp] theorem State.setLink_due (l : LinkState) : (s.setLink l).due = s.due := rfl
@[simp] theorem State.setLink_pending (l : LinkState) : (s.setLink l).pending = s.pending := rfl

@[simp] theorem State.dropWatchesOn_ckt (n : Nat) : (s.dropWatchesOn n).ckt = s.ckt := rfl
@[simp] theorem State.dropWatchesOn_freeLines (n : Nat) : (s.dropWatchesOn n).freeLines = s.freeLines := rfl
@[simp] theorem State.dropWatchesOn_tdu (n : Nat) : (s.dropWatchesOn n).tdu = s.tdu := rfl
@[simp] theorem State.dropWatchesOn_fmp (n : Nat) : (s.dropWatchesOn n).fmp = s.fmp := rfl
@[simp] theorem State.dropWatchesOn_aqp (n : Nat) : (s.dropWatchesOn n).aqp = s.aqp := rfl
@[simp] theorem State.dropWatchesOn_apu (n : Nat) : (s.dropWatchesOn n).apu = s.apu := rfl
@[simp] theorem State.dropWatchesOn_wnu_hits (n : Nat) : (s.dropWatchesOn n).wnu.hits = s.wnu.hits := rfl
@[simp] theorem State.dropWatchesOn_wnu_pendCounts (n : Nat) : (s.dropWatchesOn n).wnu.pendCounts = s.wnu.pendCounts := rfl
@[simp] theorem State.dropWatchesOn_wnu_startup (n : Nat) : (s.dropWatchesOn n).wnu.startup = s.wnu.startup := rfl
@[simp] theorem State.dropWatchesOn_wnu_startKind (n : Nat) : (s.dropWatchesOn n).wnu.startKind = s.wnu.startKind := rfl
@[simp] theorem State.dropWatchesOn_wnu_pushes (n : Nat) : (s.dropWatchesOn n).wnu.pushes = s.wnu.pushes := rfl
@[simp] theorem State.dropWatchesOn_sst (n : Nat) : (s.dropWatchesOn n).sst = s.sst := rfl
@[simp] theorem State.dropWatchesOn_fck (n : Nat) : (s.dropWatchesOn n).fck = s.fck := rfl
@[simp] theorem State.dropWatchesOn_flp (n : Nat) : (s.dropWatchesOn n).flp = s.flp := rfl
@[simp] theorem State.dropWatchesOn_fhp (n : Nat) : (s.dropWatchesOn n).fhp = s.fhp := rfl
@[simp] theorem State.dropWatchesOn_gwp (n : Nat) : (s.dropWatchesOn n).gwp = s.gwp := rfl
@[simp] theorem State.dropWatchesOn_power (n : Nat) : (s.dropWatchesOn n).power = s.power := rfl
@[simp] theorem State.dropWatchesOn_due (n : Nat) : (s.dropWatchesOn n).due = s.due := rfl
@[simp] theorem State.dropWatchesOn_pending (n : Nat) : (s.dropWatchesOn n).pending = s.pending := rfl

@[simp] theorem State.mapLeases_ckt (slot : Nat) (f : Lease → Lease) : (s.mapLeases slot f).ckt = s.ckt := rfl
@[simp] theorem State.mapLeases_freeLines (slot : Nat) (f : Lease → Lease) : (s.mapLeases slot f).freeLines = s.freeLines := rfl
@[simp] theorem State.mapLeases_tdu_pendingList (slot : Nat) (f : Lease → Lease) : (s.mapLeases slot f).tdu.pendingList = s.tdu.pendingList := rfl
@[simp] theorem State.mapLeases_fmp (slot : Nat) (f : Lease → Lease) : (s.mapLeases slot f).fmp = s.fmp := rfl
@[simp] theorem State.mapLeases_aqp (slot : Nat) (f : Lease → Lease) : (s.mapLeases slot f).aqp = s.aqp := rfl
@[simp] theorem State.mapLeases_apu (slot : Nat) (f : Lease → Lease) : (s.mapLeases slot f).apu = s.apu := rfl
@[simp] theorem State.mapLeases_wnu (slot : Nat) (f : Lease → Lease) : (s.mapLeases slot f).wnu = s.wnu := rfl
@[simp] theorem State.mapLeases_sst (slot : Nat) (f : Lease → Lease) : (s.mapLeases slot f).sst = s.sst := rfl
@[simp] theorem State.mapLeases_fck (slot : Nat) (f : Lease → Lease) : (s.mapLeases slot f).fck = s.fck := rfl
@[simp] theorem State.mapLeases_flp (slot : Nat) (f : Lease → Lease) : (s.mapLeases slot f).flp = s.flp := rfl
@[simp] theorem State.mapLeases_fhp (slot : Nat) (f : Lease → Lease) : (s.mapLeases slot f).fhp = s.fhp := rfl
@[simp] theorem State.mapLeases_gwp (slot : Nat) (f : Lease → Lease) : (s.mapLeases slot f).gwp = s.gwp := rfl
@[simp] theorem State.mapLeases_power (slot : Nat) (f : Lease → Lease) : (s.mapLeases slot f).power = s.power := rfl
@[simp] theorem State.mapLeases_due (slot : Nat) (f : Lease → Lease) : (s.mapLeases slot f).due = s.due := rfl
@[simp] theorem State.mapLeases_pending (slot : Nat) (f : Lease → Lease) : (s.mapLeases slot f).pending = s.pending := rfl

@[simp] theorem State.raise_ckt (p : Push) : (s.raise p).ckt = s.ckt := by unfold State.raise; split <;> simp
@[simp] theorem State.raise_freeLines (p : Push) : (s.raise p).freeLines = s.freeLines := by unfold State.raise; split <;> simp
@[simp] theorem State.raise_tdu (p : Push) : (s.raise p).tdu = s.tdu := by unfold State.raise; split <;> simp
@[simp] theorem State.raise_fmp (p : Push) : (s.raise p).fmp = s.fmp := by unfold State.raise; split <;> simp
@[simp] theorem State.raise_aqp (p : Push) : (s.raise p).aqp = s.aqp := by unfold State.raise; split <;> simp
@[simp] theorem State.raise_apu (p : Push) : (s.raise p).apu = s.apu := by unfold State.raise; split <;> simp
@[simp] theorem State.raise_wnu_watches (p : Push) : (s.raise p).wnu.watches = s.wnu.watches := by unfold State.raise; split <;> simp
@[simp] theorem State.raise_wnu_hits (p : Push) : (s.raise p).wnu.hits = s.wnu.hits := by unfold State.raise; split <;> simp
@[simp] theorem State.raise_wnu_pendCounts (p : Push) : (s.raise p).wnu.pendCounts = s.wnu.pendCounts := by unfold State.raise; split <;> simp
@[simp] theorem State.raise_wnu_startup (p : Push) : (s.raise p).wnu.startup = s.wnu.startup := by unfold State.raise; split <;> simp
@[simp] theorem State.raise_wnu_startKind (p : Push) : (s.raise p).wnu.startKind = s.wnu.startKind := by unfold State.raise; split <;> simp
@[simp] theorem State.raise_sst (p : Push) : (s.raise p).sst = s.sst := by unfold State.raise; split <;> simp
@[simp] theorem State.raise_fck (p : Push) : (s.raise p).fck = s.fck := by unfold State.raise; split <;> simp
@[simp] theorem State.raise_flp (p : Push) : (s.raise p).flp = s.flp := by unfold State.raise; split <;> simp
@[simp] theorem State.raise_fhp (p : Push) : (s.raise p).fhp = s.fhp := by unfold State.raise; split <;> simp
@[simp] theorem State.raise_gwp (p : Push) : (s.raise p).gwp = s.gwp := by unfold State.raise; split <;> simp
@[simp] theorem State.raise_power (p : Push) : (s.raise p).power = s.power := by unfold State.raise; split <;> simp
@[simp] theorem State.raise_due (p : Push) : (s.raise p).due = s.due := by unfold State.raise; split <;> simp
@[simp] theorem State.raise_pending (p : Push) : (s.raise p).pending = s.pending := by unfold State.raise; split <;> simp

@[simp] theorem State.recordHit_ckt (t n : Nat) (k : EventKind) : (s.recordHit t n k).ckt = s.ckt := by simp only [State.recordHit]; (repeat' split) <;> simp
@[simp] theorem State.recordHit_freeLines (t n : Nat) (k : EventKind) : (s.recordHit t n k).freeLines = s.freeLines := by simp only [State.recordHit]; (repeat' split) <;> simp
@[simp] theorem State.recordHit_tdu (t n : Nat) (k : EventKind) : (s.recordHit t n k).tdu = s.tdu := by simp only [State.recordHit]; (repeat' split) <;> simp
@[simp] theorem State.recordHit_fmp (t n : Nat) (k : EventKind) : (s.recordHit t n k).fmp = s.fmp := by simp only [State.recordHit]; (repeat' split) <;> simp
@[simp] theorem State.recordHit_aqp (t n : Nat) (k : EventKind) : (s.recordHit t n k).aqp = s.aqp := by simp only [State.recordHit]; (repeat' split) <;> simp
@[simp] theorem State.recordHit_apu (t n : Nat) (k : EventKind) : (s.recordHit t n k).apu = s.apu := by simp only [State.recordHit]; (repeat' split) <;> simp
@[simp] theorem State.recordHit_wnu_watches (t n : Nat) (k : EventKind) : (s.recordHit t n k).wnu.watches = s.wnu.watches := by simp only [State.recordHit]; (repeat' split) <;> simp
@[simp] theorem State.recordHit_wnu_pendCounts (t n : Nat) (k : EventKind) : (s.recordHit t n k).wnu.pendCounts = s.wnu.pendCounts := by simp only [State.recordHit]; (repeat' split) <;> simp
@[simp] theorem State.recordHit_wnu_startup (t n : Nat) (k : EventKind) : (s.recordHit t n k).wnu.startup = s.wnu.startup := by simp only [State.recordHit]; (repeat' split) <;> simp
@[simp] theorem State.recordHit_wnu_startKind (t n : Nat) (k : EventKind) : (s.recordHit t n k).wnu.startKind = s.wnu.startKind := by simp only [State.recordHit]; (repeat' split) <;> simp
@[simp] theorem State.recordHit_sst (t n : Nat) (k : EventKind) : (s.recordHit t n k).sst = s.sst := by simp only [State.recordHit]; (repeat' split) <;> simp
@[simp] theorem State.recordHit_fck (t n : Nat) (k : EventKind) : (s.recordHit t n k).fck = s.fck := by simp only [State.recordHit]; (repeat' split) <;> simp
@[simp] theorem State.recordHit_flp (t n : Nat) (k : EventKind) : (s.recordHit t n k).flp = s.flp := by simp only [State.recordHit]; (repeat' split) <;> simp
@[simp] theorem State.recordHit_fhp (t n : Nat) (k : EventKind) : (s.recordHit t n k).fhp = s.fhp := by simp only [State.recordHit]; (repeat' split) <;> simp
@[simp] theorem State.recordHit_gwp (t n : Nat) (k : EventKind) : (s.recordHit t n k).gwp = s.gwp := by simp only [State.recordHit]; (repeat' split) <;> simp
@[simp] theorem State.recordHit_power (t n : Nat) (k : EventKind) : (s.recordHit t n k).power = s.power := by simp only [State.recordHit]; (repeat' split) <;> simp
@[simp] theorem State.recordHit_due (t n : Nat) (k : EventKind) : (s.recordHit t n k).due = s.due := by simp only [State.recordHit]; (repeat' split) <;> simp
@[simp] theorem State.recordHit_pending (t n : Nat) (k : EventKind) : (s.recordHit t n k).pending = s.pending := by simp only [State.recordHit]; (repeat' split) <;> simp

@[simp] theorem State.handEvent_ckt (n : Nat) (k : EventKind) : (s.handEvent n k).ckt = s.ckt := by
  unfold State.handEvent; rw [foldl_keeps (fun s : State => s.ckt)]; (intros; try split) <;> simp
@[simp] theorem State.handEvent_freeLines (n : Nat) (k : EventKind) : (s.handEvent n k).freeLines = s.freeLines := by
  unfold State.handEvent; rw [foldl_keeps (fun s : State => s.freeLines)]; (intros; try split) <;> simp
@[simp] theorem State.handEvent_tdu (n : Nat) (k : EventKind) : (s.handEvent n k).tdu = s.tdu := by
  unfold State.handEvent; rw [foldl_keeps (fun s : State => s.tdu)]; (intros; try split) <;> simp
@[simp] theorem State.handEvent_fmp (n : Nat) (k : EventKind) : (s.handEvent n k).fmp = s.fmp := by
  unfold State.handEvent; rw [foldl_keeps (fun s : State => s.fmp)]; (intros; try split) <;> simp
@[simp] theorem State.handEvent_aqp (n : Nat) (k : EventKind) : (s.handEvent n k).aqp = s.aqp := by
  unfold State.handEvent; rw [foldl_keeps (fun s : State => s.aqp)]; (intros; try split) <;> simp
@[simp] theorem State.handEvent_apu (n : Nat) (k : EventKind) : (s.handEvent n k).apu = s.apu := by
  unfold State.handEvent; rw [foldl_keeps (fun s : State => s.apu)]; (intros; try split) <;> simp
@[simp] theorem State.handEvent_wnu_watches (n : Nat) (k : EventKind) : (s.handEvent n k).wnu.watches = s.wnu.watches := by
  unfold State.handEvent; rw [foldl_keeps (fun s : State => s.wnu.watches)]; (intros; try split) <;> simp
@[simp] theorem State.handEvent_wnu_pendCounts (n : Nat) (k : EventKind) : (s.handEvent n k).wnu.pendCounts = s.wnu.pendCounts := by
  unfold State.handEvent; rw [foldl_keeps (fun s : State => s.wnu.pendCounts)]; (intros; try split) <;> simp
@[simp] theorem State.handEvent_wnu_startup (n : Nat) (k : EventKind) : (s.handEvent n k).wnu.startup = s.wnu.startup := by
  unfold State.handEvent; rw [foldl_keeps (fun s : State => s.wnu.startup)]; (intros; try split) <;> simp
@[simp] theorem State.handEvent_wnu_startKind (n : Nat) (k : EventKind) : (s.handEvent n k).wnu.startKind = s.wnu.startKind := by
  unfold State.handEvent; rw [foldl_keeps (fun s : State => s.wnu.startKind)]; (intros; try split) <;> simp
@[simp] theorem State.handEvent_sst (n : Nat) (k : EventKind) : (s.handEvent n k).sst = s.sst := by
  unfold State.handEvent; rw [foldl_keeps (fun s : State => s.sst)]; (intros; try split) <;> simp
@[simp] theorem State.handEvent_fck (n : Nat) (k : EventKind) : (s.handEvent n k).fck = s.fck := by
  unfold State.handEvent; rw [foldl_keeps (fun s : State => s.fck)]; (intros; try split) <;> simp
@[simp] theorem State.handEvent_flp (n : Nat) (k : EventKind) : (s.handEvent n k).flp = s.flp := by
  unfold State.handEvent; rw [foldl_keeps (fun s : State => s.flp)]; (intros; try split) <;> simp
@[simp] theorem State.handEvent_fhp (n : Nat) (k : EventKind) : (s.handEvent n k).fhp = s.fhp := by
  unfold State.handEvent; rw [foldl_keeps (fun s : State => s.fhp)]; (intros; try split) <;> simp
@[simp] theorem State.handEvent_gwp (n : Nat) (k : EventKind) : (s.handEvent n k).gwp = s.gwp := by
  unfold State.handEvent; rw [foldl_keeps (fun s : State => s.gwp)]; (intros; try split) <;> simp
@[simp] theorem State.handEvent_power (n : Nat) (k : EventKind) : (s.handEvent n k).power = s.power := by
  unfold State.handEvent; rw [foldl_keeps (fun s : State => s.power)]; (intros; try split) <;> simp
@[simp] theorem State.handEvent_due (n : Nat) (k : EventKind) : (s.handEvent n k).due = s.due := by
  unfold State.handEvent; rw [foldl_keeps (fun s : State => s.due)]; (intros; try split) <;> simp
@[simp] theorem State.handEvent_pending (n : Nat) (k : EventKind) : (s.handEvent n k).pending = s.pending := by
  unfold State.handEvent; rw [foldl_keeps (fun s : State => s.pending)]; (intros; try split) <;> simp

@[simp] theorem State.raiseCount_ckt (o : Option Nat) : (s.raiseCount o).ckt = s.ckt := by simp only [State.raiseCount]; (repeat' split) <;> simp
@[simp] theorem State.raiseCount_freeLines (o : Option Nat) : (s.raiseCount o).freeLines = s.freeLines := by simp only [State.raiseCount]; (repeat' split) <;> simp
@[simp] theorem State.raiseCount_tdu (o : Option Nat) : (s.raiseCount o).tdu = s.tdu := by simp only [State.raiseCount]; (repeat' split) <;> simp
@[simp] theorem State.raiseCount_fmp (o : Option Nat) : (s.raiseCount o).fmp = s.fmp := by simp only [State.raiseCount]; (repeat' split) <;> simp
@[simp] theorem State.raiseCount_aqp (o : Option Nat) : (s.raiseCount o).aqp = s.aqp := by simp only [State.raiseCount]; (repeat' split) <;> simp
@[simp] theorem State.raiseCount_apu (o : Option Nat) : (s.raiseCount o).apu = s.apu := by simp only [State.raiseCount]; (repeat' split) <;> simp
@[simp] theorem State.raiseCount_wnu_watches (o : Option Nat) : (s.raiseCount o).wnu.watches = s.wnu.watches := by simp only [State.raiseCount]; (repeat' split) <;> simp
@[simp] theorem State.raiseCount_wnu_hits (o : Option Nat) : (s.raiseCount o).wnu.hits = s.wnu.hits := by simp only [State.raiseCount]; (repeat' split) <;> simp
@[simp] theorem State.raiseCount_wnu_startup (o : Option Nat) : (s.raiseCount o).wnu.startup = s.wnu.startup := by simp only [State.raiseCount]; (repeat' split) <;> simp
@[simp] theorem State.raiseCount_wnu_startKind (o : Option Nat) : (s.raiseCount o).wnu.startKind = s.wnu.startKind := by simp only [State.raiseCount]; (repeat' split) <;> simp
@[simp] theorem State.raiseCount_sst (o : Option Nat) : (s.raiseCount o).sst = s.sst := by simp only [State.raiseCount]; (repeat' split) <;> simp
@[simp] theorem State.raiseCount_fck (o : Option Nat) : (s.raiseCount o).fck = s.fck := by simp only [State.raiseCount]; (repeat' split) <;> simp
@[simp] theorem State.raiseCount_flp (o : Option Nat) : (s.raiseCount o).flp = s.flp := by simp only [State.raiseCount]; (repeat' split) <;> simp
@[simp] theorem State.raiseCount_fhp (o : Option Nat) : (s.raiseCount o).fhp = s.fhp := by simp only [State.raiseCount]; (repeat' split) <;> simp
@[simp] theorem State.raiseCount_gwp (o : Option Nat) : (s.raiseCount o).gwp = s.gwp := by simp only [State.raiseCount]; (repeat' split) <;> simp
@[simp] theorem State.raiseCount_power (o : Option Nat) : (s.raiseCount o).power = s.power := by simp only [State.raiseCount]; (repeat' split) <;> simp
@[simp] theorem State.raiseCount_due (o : Option Nat) : (s.raiseCount o).due = s.due := by simp only [State.raiseCount]; (repeat' split) <;> simp
@[simp] theorem State.raiseCount_pending (o : Option Nat) : (s.raiseCount o).pending = s.pending := by simp only [State.raiseCount]; (repeat' split) <;> simp

@[simp] theorem State.lowerCount_ckt (o : Option Nat) : (s.lowerCount o).ckt = s.ckt := by cases o <;> rfl
@[simp] theorem State.lowerCount_freeLines (o : Option Nat) : (s.lowerCount o).freeLines = s.freeLines := by cases o <;> rfl
@[simp] theorem State.lowerCount_tdu (o : Option Nat) : (s.lowerCount o).tdu = s.tdu := by cases o <;> rfl
@[simp] theorem State.lowerCount_fmp (o : Option Nat) : (s.lowerCount o).fmp = s.fmp := by cases o <;> rfl
@[simp] theorem State.lowerCount_aqp (o : Option Nat) : (s.lowerCount o).aqp = s.aqp := by cases o <;> rfl
@[simp] theorem State.lowerCount_apu (o : Option Nat) : (s.lowerCount o).apu = s.apu := by cases o <;> rfl
@[simp] theorem State.lowerCount_wnu_watches (o : Option Nat) : (s.lowerCount o).wnu.watches = s.wnu.watches := by cases o <;> rfl
@[simp] theorem State.lowerCount_wnu_hits (o : Option Nat) : (s.lowerCount o).wnu.hits = s.wnu.hits := by cases o <;> rfl
@[simp] theorem State.lowerCount_wnu_startup (o : Option Nat) : (s.lowerCount o).wnu.startup = s.wnu.startup := by cases o <;> rfl
@[simp] theorem State.lowerCount_wnu_startKind (o : Option Nat) : (s.lowerCount o).wnu.startKind = s.wnu.startKind := by cases o <;> rfl
@[simp] theorem State.lowerCount_wnu_pushes (o : Option Nat) : (s.lowerCount o).wnu.pushes = s.wnu.pushes := by cases o <;> rfl
@[simp] theorem State.lowerCount_sst (o : Option Nat) : (s.lowerCount o).sst = s.sst := by cases o <;> rfl
@[simp] theorem State.lowerCount_fck (o : Option Nat) : (s.lowerCount o).fck = s.fck := by cases o <;> rfl
@[simp] theorem State.lowerCount_flp (o : Option Nat) : (s.lowerCount o).flp = s.flp := by cases o <;> rfl
@[simp] theorem State.lowerCount_fhp (o : Option Nat) : (s.lowerCount o).fhp = s.fhp := by cases o <;> rfl
@[simp] theorem State.lowerCount_gwp (o : Option Nat) : (s.lowerCount o).gwp = s.gwp := by cases o <;> rfl
@[simp] theorem State.lowerCount_power (o : Option Nat) : (s.lowerCount o).power = s.power := by cases o <;> rfl
@[simp] theorem State.lowerCount_due (o : Option Nat) : (s.lowerCount o).due = s.due := by cases o <;> rfl
@[simp] theorem State.lowerCount_pending (o : Option Nat) : (s.lowerCount o).pending = s.pending := by cases o <;> rfl

@[simp] theorem State.unlist_ckt (i : Nat) (o : Option Nat) : (s.unlist i o).ckt = s.ckt := by simp [State.unlist]
@[simp] theorem State.unlist_freeLines (i : Nat) (o : Option Nat) : (s.unlist i o).freeLines = s.freeLines := by simp [State.unlist]
@[simp] theorem State.unlist_tdu_pool (i : Nat) (o : Option Nat) : (s.unlist i o).tdu.pool = s.tdu.pool := by simp [State.unlist]
@[simp] theorem State.unlist_fmp (i : Nat) (o : Option Nat) : (s.unlist i o).fmp = s.fmp := by simp [State.unlist]
@[simp] theorem State.unlist_aqp (i : Nat) (o : Option Nat) : (s.unlist i o).aqp = s.aqp := by simp [State.unlist]
@[simp] theorem State.unlist_apu (i : Nat) (o : Option Nat) : (s.unlist i o).apu = s.apu := by simp [State.unlist]
@[simp] theorem State.unlist_wnu_watches (i : Nat) (o : Option Nat) : (s.unlist i o).wnu.watches = s.wnu.watches := by simp [State.unlist]
@[simp] theorem State.unlist_wnu_hits (i : Nat) (o : Option Nat) : (s.unlist i o).wnu.hits = s.wnu.hits := by simp [State.unlist]
@[simp] theorem State.unlist_wnu_startup (i : Nat) (o : Option Nat) : (s.unlist i o).wnu.startup = s.wnu.startup := by simp [State.unlist]
@[simp] theorem State.unlist_wnu_startKind (i : Nat) (o : Option Nat) : (s.unlist i o).wnu.startKind = s.wnu.startKind := by simp [State.unlist]
@[simp] theorem State.unlist_wnu_pushes (i : Nat) (o : Option Nat) : (s.unlist i o).wnu.pushes = s.wnu.pushes := by simp [State.unlist]
@[simp] theorem State.unlist_sst (i : Nat) (o : Option Nat) : (s.unlist i o).sst = s.sst := by simp [State.unlist]
@[simp] theorem State.unlist_fck (i : Nat) (o : Option Nat) : (s.unlist i o).fck = s.fck := by simp [State.unlist]
@[simp] theorem State.unlist_flp (i : Nat) (o : Option Nat) : (s.unlist i o).flp = s.flp := by simp [State.unlist]
@[simp] theorem State.unlist_fhp (i : Nat) (o : Option Nat) : (s.unlist i o).fhp = s.fhp := by simp [State.unlist]
@[simp] theorem State.unlist_gwp (i : Nat) (o : Option Nat) : (s.unlist i o).gwp = s.gwp := by simp [State.unlist]
@[simp] theorem State.unlist_power (i : Nat) (o : Option Nat) : (s.unlist i o).power = s.power := by simp [State.unlist]
@[simp] theorem State.unlist_due (i : Nat) (o : Option Nat) : (s.unlist i o).due = s.due := by simp [State.unlist]
@[simp] theorem State.unlist_pending (i : Nat) (o : Option Nat) : (s.unlist i o).pending = s.pending := by simp [State.unlist]

@[simp] theorem State.setStatus_ckt (i : Nat) (st : Status) : (s.setStatus i st).ckt = s.ckt := by simp only [State.setStatus]; (repeat' split) <;> simp
@[simp] theorem State.setStatus_freeLines (i : Nat) (st : Status) : (s.setStatus i st).freeLines = s.freeLines := by simp only [State.setStatus]; (repeat' split) <;> simp
@[simp] theorem State.setStatus_fmp (i : Nat) (st : Status) : (s.setStatus i st).fmp = s.fmp := by simp only [State.setStatus]; (repeat' split) <;> simp
@[simp] theorem State.setStatus_aqp (i : Nat) (st : Status) : (s.setStatus i st).aqp = s.aqp := by simp only [State.setStatus]; (repeat' split) <;> simp
@[simp] theorem State.setStatus_apu (i : Nat) (st : Status) : (s.setStatus i st).apu = s.apu := by simp only [State.setStatus]; (repeat' split) <;> simp
@[simp] theorem State.setStatus_wnu_watches (i : Nat) (st : Status) : (s.setStatus i st).wnu.watches = s.wnu.watches := by simp only [State.setStatus]; (repeat' split) <;> simp
@[simp] theorem State.setStatus_wnu_hits (i : Nat) (st : Status) : (s.setStatus i st).wnu.hits = s.wnu.hits := by simp only [State.setStatus]; (repeat' split) <;> simp
@[simp] theorem State.setStatus_wnu_startup (i : Nat) (st : Status) : (s.setStatus i st).wnu.startup = s.wnu.startup := by simp only [State.setStatus]; (repeat' split) <;> simp
@[simp] theorem State.setStatus_wnu_startKind (i : Nat) (st : Status) : (s.setStatus i st).wnu.startKind = s.wnu.startKind := by simp only [State.setStatus]; (repeat' split) <;> simp
@[simp] theorem State.setStatus_sst (i : Nat) (st : Status) : (s.setStatus i st).sst = s.sst := by simp only [State.setStatus]; (repeat' split) <;> simp
@[simp] theorem State.setStatus_fck (i : Nat) (st : Status) : (s.setStatus i st).fck = s.fck := by simp only [State.setStatus]; (repeat' split) <;> simp
@[simp] theorem State.setStatus_flp (i : Nat) (st : Status) : (s.setStatus i st).flp = s.flp := by simp only [State.setStatus]; (repeat' split) <;> simp
@[simp] theorem State.setStatus_fhp (i : Nat) (st : Status) : (s.setStatus i st).fhp = s.fhp := by simp only [State.setStatus]; (repeat' split) <;> simp
@[simp] theorem State.setStatus_gwp (i : Nat) (st : Status) : (s.setStatus i st).gwp = s.gwp := by simp only [State.setStatus]; (repeat' split) <;> simp
@[simp] theorem State.setStatus_power (i : Nat) (st : Status) : (s.setStatus i st).power = s.power := by simp only [State.setStatus]; (repeat' split) <;> simp
@[simp] theorem State.setStatus_due (i : Nat) (st : Status) : (s.setStatus i st).due = s.due := by simp only [State.setStatus]; (repeat' split) <;> simp
@[simp] theorem State.setStatus_pending (i : Nat) (st : Status) : (s.setStatus i st).pending = s.pending := by simp only [State.setStatus]; (repeat' split) <;> simp

@[simp] theorem State.collect_ckt (i : Nat) : (s.collect i).ckt = s.ckt := by simp only [State.collect]; (repeat' split) <;> simp
@[simp] theorem State.collect_freeLines (i : Nat) : (s.collect i).freeLines = s.freeLines := by simp only [State.collect]; (repeat' split) <;> simp
@[simp] theorem State.collect_fmp (i : Nat) : (s.collect i).fmp = s.fmp := by simp only [State.collect]; (repeat' split) <;> simp
@[simp] theorem State.collect_aqp (i : Nat) : (s.collect i).aqp = s.aqp := by simp only [State.collect]; (repeat' split) <;> simp
@[simp] theorem State.collect_apu (i : Nat) : (s.collect i).apu = s.apu := by simp only [State.collect]; (repeat' split) <;> simp
@[simp] theorem State.collect_wnu_watches (i : Nat) : (s.collect i).wnu.watches = s.wnu.watches := by simp only [State.collect]; (repeat' split) <;> simp
@[simp] theorem State.collect_wnu_hits (i : Nat) : (s.collect i).wnu.hits = s.wnu.hits := by simp only [State.collect]; (repeat' split) <;> simp
@[simp] theorem State.collect_wnu_startup (i : Nat) : (s.collect i).wnu.startup = s.wnu.startup := by simp only [State.collect]; (repeat' split) <;> simp
@[simp] theorem State.collect_wnu_startKind (i : Nat) : (s.collect i).wnu.startKind = s.wnu.startKind := by simp only [State.collect]; (repeat' split) <;> simp
@[simp] theorem State.collect_wnu_pushes (i : Nat) : (s.collect i).wnu.pushes = s.wnu.pushes := by simp only [State.collect]; (repeat' split) <;> simp
@[simp] theorem State.collect_sst (i : Nat) : (s.collect i).sst = s.sst := by simp only [State.collect]; (repeat' split) <;> simp
@[simp] theorem State.collect_fck (i : Nat) : (s.collect i).fck = s.fck := by simp only [State.collect]; (repeat' split) <;> simp
@[simp] theorem State.collect_flp (i : Nat) : (s.collect i).flp = s.flp := by simp only [State.collect]; (repeat' split) <;> simp
@[simp] theorem State.collect_fhp (i : Nat) : (s.collect i).fhp = s.fhp := by simp only [State.collect]; (repeat' split) <;> simp
@[simp] theorem State.collect_gwp (i : Nat) : (s.collect i).gwp = s.gwp := by simp only [State.collect]; (repeat' split) <;> simp
@[simp] theorem State.collect_power (i : Nat) : (s.collect i).power = s.power := by simp only [State.collect]; (repeat' split) <;> simp
@[simp] theorem State.collect_due (i : Nat) : (s.collect i).due = s.due := by simp only [State.collect]; (repeat' split) <;> simp
@[simp] theorem State.collect_pending (i : Nat) : (s.collect i).pending = s.pending := by simp only [State.collect]; (repeat' split) <;> simp

@[simp] theorem State.announceEnding_ckt (a : Approval) (c o : Nat) : (s.announceEnding a c o).ckt = s.ckt := by unfold State.announceEnding; split <;> simp
@[simp] theorem State.announceEnding_freeLines (a : Approval) (c o : Nat) : (s.announceEnding a c o).freeLines = s.freeLines := by unfold State.announceEnding; split <;> simp
@[simp] theorem State.announceEnding_tdu (a : Approval) (c o : Nat) : (s.announceEnding a c o).tdu = s.tdu := by unfold State.announceEnding; split <;> simp
@[simp] theorem State.announceEnding_fmp (a : Approval) (c o : Nat) : (s.announceEnding a c o).fmp = s.fmp := by unfold State.announceEnding; split <;> simp
@[simp] theorem State.announceEnding_aqp (a : Approval) (c o : Nat) : (s.announceEnding a c o).aqp = s.aqp := by unfold State.announceEnding; split <;> simp
@[simp] theorem State.announceEnding_apu (a : Approval) (c o : Nat) : (s.announceEnding a c o).apu = s.apu := by unfold State.announceEnding; split <;> simp
@[simp] theorem State.announceEnding_wnu_watches (a : Approval) (c o : Nat) : (s.announceEnding a c o).wnu.watches = s.wnu.watches := by unfold State.announceEnding; split <;> simp
@[simp] theorem State.announceEnding_wnu_hits (a : Approval) (c o : Nat) : (s.announceEnding a c o).wnu.hits = s.wnu.hits := by unfold State.announceEnding; split <;> simp
@[simp] theorem State.announceEnding_wnu_pendCounts (a : Approval) (c o : Nat) : (s.announceEnding a c o).wnu.pendCounts = s.wnu.pendCounts := by unfold State.announceEnding; split <;> simp
@[simp] theorem State.announceEnding_wnu_startup (a : Approval) (c o : Nat) : (s.announceEnding a c o).wnu.startup = s.wnu.startup := by unfold State.announceEnding; split <;> simp
@[simp] theorem State.announceEnding_wnu_startKind (a : Approval) (c o : Nat) : (s.announceEnding a c o).wnu.startKind = s.wnu.startKind := by unfold State.announceEnding; split <;> simp
@[simp] theorem State.announceEnding_sst (a : Approval) (c o : Nat) : (s.announceEnding a c o).sst = s.sst := by unfold State.announceEnding; split <;> simp
@[simp] theorem State.announceEnding_fck (a : Approval) (c o : Nat) : (s.announceEnding a c o).fck = s.fck := by unfold State.announceEnding; split <;> simp
@[simp] theorem State.announceEnding_flp (a : Approval) (c o : Nat) : (s.announceEnding a c o).flp = s.flp := by unfold State.announceEnding; split <;> simp
@[simp] theorem State.announceEnding_fhp (a : Approval) (c o : Nat) : (s.announceEnding a c o).fhp = s.fhp := by unfold State.announceEnding; split <;> simp
@[simp] theorem State.announceEnding_gwp (a : Approval) (c o : Nat) : (s.announceEnding a c o).gwp = s.gwp := by unfold State.announceEnding; split <;> simp
@[simp] theorem State.announceEnding_power (a : Approval) (c o : Nat) : (s.announceEnding a c o).power = s.power := by unfold State.announceEnding; split <;> simp
@[simp] theorem State.announceEnding_due (a : Approval) (c o : Nat) : (s.announceEnding a c o).due = s.due := by unfold State.announceEnding; split <;> simp
@[simp] theorem State.announceEnding_pending (a : Approval) (c o : Nat) : (s.announceEnding a c o).pending = s.pending := by unfold State.announceEnding; split <;> simp

@[simp] theorem State.announceWaiting_ckt : (s.announceWaiting).ckt = s.ckt := by
  unfold State.announceWaiting; rw [foldl_keeps (fun s : State => s.ckt)]; (intros; try split) <;> simp
@[simp] theorem State.announceWaiting_freeLines : (s.announceWaiting).freeLines = s.freeLines := by
  unfold State.announceWaiting; rw [foldl_keeps (fun s : State => s.freeLines)]; (intros; try split) <;> simp
@[simp] theorem State.announceWaiting_tdu : (s.announceWaiting).tdu = s.tdu := by
  unfold State.announceWaiting; rw [foldl_keeps (fun s : State => s.tdu)]; (intros; try split) <;> simp
@[simp] theorem State.announceWaiting_fmp : (s.announceWaiting).fmp = s.fmp := by
  unfold State.announceWaiting; rw [foldl_keeps (fun s : State => s.fmp)]; (intros; try split) <;> simp
@[simp] theorem State.announceWaiting_aqp : (s.announceWaiting).aqp = s.aqp := by
  unfold State.announceWaiting; rw [foldl_keeps (fun s : State => s.aqp)]; (intros; try split) <;> simp
@[simp] theorem State.announceWaiting_apu : (s.announceWaiting).apu = s.apu := by
  unfold State.announceWaiting; rw [foldl_keeps (fun s : State => s.apu)]; (intros; try split) <;> simp
@[simp] theorem State.announceWaiting_wnu_watches : (s.announceWaiting).wnu.watches = s.wnu.watches := by
  unfold State.announceWaiting; rw [foldl_keeps (fun s : State => s.wnu.watches)]; (intros; try split) <;> simp
@[simp] theorem State.announceWaiting_wnu_hits : (s.announceWaiting).wnu.hits = s.wnu.hits := by
  unfold State.announceWaiting; rw [foldl_keeps (fun s : State => s.wnu.hits)]; (intros; try split) <;> simp
@[simp] theorem State.announceWaiting_wnu_pendCounts : (s.announceWaiting).wnu.pendCounts = s.wnu.pendCounts := by
  unfold State.announceWaiting; rw [foldl_keeps (fun s : State => s.wnu.pendCounts)]; (intros; try split) <;> simp
@[simp] theorem State.announceWaiting_wnu_startup : (s.announceWaiting).wnu.startup = s.wnu.startup := by
  unfold State.announceWaiting; rw [foldl_keeps (fun s : State => s.wnu.startup)]; (intros; try split) <;> simp
@[simp] theorem State.announceWaiting_wnu_startKind : (s.announceWaiting).wnu.startKind = s.wnu.startKind := by
  unfold State.announceWaiting; rw [foldl_keeps (fun s : State => s.wnu.startKind)]; (intros; try split) <;> simp
@[simp] theorem State.announceWaiting_sst : (s.announceWaiting).sst = s.sst := by
  unfold State.announceWaiting; rw [foldl_keeps (fun s : State => s.sst)]; (intros; try split) <;> simp
@[simp] theorem State.announceWaiting_fck : (s.announceWaiting).fck = s.fck := by
  unfold State.announceWaiting; rw [foldl_keeps (fun s : State => s.fck)]; (intros; try split) <;> simp
@[simp] theorem State.announceWaiting_flp : (s.announceWaiting).flp = s.flp := by
  unfold State.announceWaiting; rw [foldl_keeps (fun s : State => s.flp)]; (intros; try split) <;> simp
@[simp] theorem State.announceWaiting_fhp : (s.announceWaiting).fhp = s.fhp := by
  unfold State.announceWaiting; rw [foldl_keeps (fun s : State => s.fhp)]; (intros; try split) <;> simp
@[simp] theorem State.announceWaiting_gwp : (s.announceWaiting).gwp = s.gwp := by
  unfold State.announceWaiting; rw [foldl_keeps (fun s : State => s.gwp)]; (intros; try split) <;> simp
@[simp] theorem State.announceWaiting_power : (s.announceWaiting).power = s.power := by
  unfold State.announceWaiting; rw [foldl_keeps (fun s : State => s.power)]; (intros; try split) <;> simp
@[simp] theorem State.announceWaiting_due : (s.announceWaiting).due = s.due := by
  unfold State.announceWaiting; rw [foldl_keeps (fun s : State => s.due)]; (intros; try split) <;> simp
@[simp] theorem State.announceWaiting_pending : (s.announceWaiting).pending = s.pending := by
  unfold State.announceWaiting; rw [foldl_keeps (fun s : State => s.pending)]; (intros; try split) <;> simp

@[simp] theorem State.announceReturn_ckt (t : Nat) : (s.announceReturn t).ckt = s.ckt := by simp only [State.announceReturn]; (repeat' split) <;> simp
@[simp] theorem State.announceReturn_freeLines (t : Nat) : (s.announceReturn t).freeLines = s.freeLines := by simp only [State.announceReturn]; (repeat' split) <;> simp
@[simp] theorem State.announceReturn_tdu (t : Nat) : (s.announceReturn t).tdu = s.tdu := by simp only [State.announceReturn]; (repeat' split) <;> simp
@[simp] theorem State.announceReturn_fmp (t : Nat) : (s.announceReturn t).fmp = s.fmp := by simp only [State.announceReturn]; (repeat' split) <;> simp
@[simp] theorem State.announceReturn_aqp (t : Nat) : (s.announceReturn t).aqp = s.aqp := by simp only [State.announceReturn]; (repeat' split) <;> simp
@[simp] theorem State.announceReturn_apu (t : Nat) : (s.announceReturn t).apu = s.apu := by simp only [State.announceReturn]; (repeat' split) <;> simp
@[simp] theorem State.announceReturn_wnu_watches (t : Nat) : (s.announceReturn t).wnu.watches = s.wnu.watches := by simp only [State.announceReturn]; (repeat' split) <;> simp
@[simp] theorem State.announceReturn_wnu_hits (t : Nat) : (s.announceReturn t).wnu.hits = s.wnu.hits := by simp only [State.announceReturn]; (repeat' split) <;> simp
@[simp] theorem State.announceReturn_wnu_pendCounts (t : Nat) : (s.announceReturn t).wnu.pendCounts = s.wnu.pendCounts := by simp only [State.announceReturn]; (repeat' split) <;> simp
@[simp] theorem State.announceReturn_wnu_startup (t : Nat) : (s.announceReturn t).wnu.startup = s.wnu.startup := by simp only [State.announceReturn]; (repeat' split) <;> simp
@[simp] theorem State.announceReturn_wnu_startKind (t : Nat) : (s.announceReturn t).wnu.startKind = s.wnu.startKind := by simp only [State.announceReturn]; (repeat' split) <;> simp
@[simp] theorem State.announceReturn_sst (t : Nat) : (s.announceReturn t).sst = s.sst := by simp only [State.announceReturn]; (repeat' split) <;> simp
@[simp] theorem State.announceReturn_fck (t : Nat) : (s.announceReturn t).fck = s.fck := by simp only [State.announceReturn]; (repeat' split) <;> simp
@[simp] theorem State.announceReturn_flp (t : Nat) : (s.announceReturn t).flp = s.flp := by simp only [State.announceReturn]; (repeat' split) <;> simp
@[simp] theorem State.announceReturn_fhp (t : Nat) : (s.announceReturn t).fhp = s.fhp := by simp only [State.announceReturn]; (repeat' split) <;> simp
@[simp] theorem State.announceReturn_gwp (t : Nat) : (s.announceReturn t).gwp = s.gwp := by simp only [State.announceReturn]; (repeat' split) <;> simp
@[simp] theorem State.announceReturn_power (t : Nat) : (s.announceReturn t).power = s.power := by simp only [State.announceReturn]; (repeat' split) <;> simp
@[simp] theorem State.announceReturn_due (t : Nat) : (s.announceReturn t).due = s.due := by simp only [State.announceReturn]; (repeat' split) <;> simp
@[simp] theorem State.announceReturn_pending (t : Nat) : (s.announceReturn t).pending = s.pending := by simp only [State.announceReturn]; (repeat' split) <;> simp

@[simp] theorem State.doneSilence_ckt (t : Nat) : (s.doneSilence t).ckt = s.ckt := rfl
@[simp] theorem State.doneSilence_freeLines (t : Nat) : (s.doneSilence t).freeLines = s.freeLines := rfl
@[simp] theorem State.doneSilence_tdu (t : Nat) : (s.doneSilence t).tdu = s.tdu := rfl
@[simp] theorem State.doneSilence_fmp (t : Nat) : (s.doneSilence t).fmp = s.fmp := rfl
@[simp] theorem State.doneSilence_aqp (t : Nat) : (s.doneSilence t).aqp = s.aqp := rfl
@[simp] theorem State.doneSilence_apu (t : Nat) : (s.doneSilence t).apu = s.apu := rfl
@[simp] theorem State.doneSilence_wnu (t : Nat) : (s.doneSilence t).wnu = s.wnu := rfl
@[simp] theorem State.doneSilence_sst (t : Nat) : (s.doneSilence t).sst = s.sst := rfl
@[simp] theorem State.doneSilence_fck (t : Nat) : (s.doneSilence t).fck = s.fck := rfl
@[simp] theorem State.doneSilence_flp (t : Nat) : (s.doneSilence t).flp = s.flp := rfl
@[simp] theorem State.doneSilence_fhp (t : Nat) : (s.doneSilence t).fhp = s.fhp := rfl
@[simp] theorem State.doneSilence_gwp (t : Nat) : (s.doneSilence t).gwp = s.gwp := rfl
@[simp] theorem State.doneSilence_power (t : Nat) : (s.doneSilence t).power = s.power := rfl
@[simp] theorem State.doneSilence_due_exchanges (t : Nat) : (s.doneSilence t).due.exchanges = s.due.exchanges := rfl
@[simp] theorem State.doneSilence_due_leases (t : Nat) : (s.doneSilence t).due.leases = s.due.leases := rfl
@[simp] theorem State.doneSilence_due_approvals (t : Nat) : (s.doneSilence t).due.approvals = s.due.approvals := rfl
@[simp] theorem State.doneSilence_due_ages (t : Nat) : (s.doneSilence t).due.ages = s.due.ages := rfl
@[simp] theorem State.doneSilence_pending (t : Nat) : (s.doneSilence t).pending = s.pending := rfl

@[simp] theorem State.doneAge_ckt (t : Nat) : (s.doneAge t).ckt = s.ckt := rfl
@[simp] theorem State.doneAge_freeLines (t : Nat) : (s.doneAge t).freeLines = s.freeLines := rfl
@[simp] theorem State.doneAge_tdu (t : Nat) : (s.doneAge t).tdu = s.tdu := rfl
@[simp] theorem State.doneAge_fmp (t : Nat) : (s.doneAge t).fmp = s.fmp := rfl
@[simp] theorem State.doneAge_aqp (t : Nat) : (s.doneAge t).aqp = s.aqp := rfl
@[simp] theorem State.doneAge_apu (t : Nat) : (s.doneAge t).apu = s.apu := rfl
@[simp] theorem State.doneAge_wnu (t : Nat) : (s.doneAge t).wnu = s.wnu := rfl
@[simp] theorem State.doneAge_sst (t : Nat) : (s.doneAge t).sst = s.sst := rfl
@[simp] theorem State.doneAge_fck (t : Nat) : (s.doneAge t).fck = s.fck := rfl
@[simp] theorem State.doneAge_flp (t : Nat) : (s.doneAge t).flp = s.flp := rfl
@[simp] theorem State.doneAge_fhp (t : Nat) : (s.doneAge t).fhp = s.fhp := rfl
@[simp] theorem State.doneAge_gwp (t : Nat) : (s.doneAge t).gwp = s.gwp := rfl
@[simp] theorem State.doneAge_power (t : Nat) : (s.doneAge t).power = s.power := rfl
@[simp] theorem State.doneAge_due_exchanges (t : Nat) : (s.doneAge t).due.exchanges = s.due.exchanges := rfl
@[simp] theorem State.doneAge_due_leases (t : Nat) : (s.doneAge t).due.leases = s.due.leases := rfl
@[simp] theorem State.doneAge_due_approvals (t : Nat) : (s.doneAge t).due.approvals = s.due.approvals := rfl
@[simp] theorem State.doneAge_due_silences (t : Nat) : (s.doneAge t).due.silences = s.due.silences := rfl
@[simp] theorem State.doneAge_pending (t : Nat) : (s.doneAge t).pending = s.pending := rfl

end Sys2Proof.Machine
end

