-- ==== Sys2Proof/Laws/FramesTenders.lean ====
section
/-! SUPPORT. Frames of frames taken, tender events and the ends of exchanges: each field that an operation leaves alone, one simp lemma each. -/

namespace Sys2Proof.Machine

set_option Elab.async false

variable (s : State)

@[simp] theorem State.hear_ckt (t : Nat) : (s.hear t).ckt = s.ckt := by simp only [State.hear]; (repeat' split) <;> simp
@[simp] theorem State.hear_freeLines (t : Nat) : (s.hear t).freeLines = s.freeLines := by simp only [State.hear]; (repeat' split) <;> simp
@[simp] theorem State.hear_tdu_pendingList (t : Nat) : (s.hear t).tdu.pendingList = s.tdu.pendingList := by simp only [State.hear]; (repeat' split) <;> simp
@[simp] theorem State.hear_fmp_lists (t : Nat) : (s.hear t).fmp.lists = s.fmp.lists := by simp only [State.hear]; (repeat' split) <;> simp
@[simp] theorem State.hear_aqp (t : Nat) : (s.hear t).aqp = s.aqp := by simp only [State.hear]; (repeat' split) <;> simp
@[simp] theorem State.hear_apu (t : Nat) : (s.hear t).apu = s.apu := by simp only [State.hear]; (repeat' split) <;> simp
@[simp] theorem State.hear_wnu_watches (t : Nat) : (s.hear t).wnu.watches = s.wnu.watches := by simp only [State.hear]; (repeat' split) <;> simp
@[simp] theorem State.hear_wnu_hits (t : Nat) : (s.hear t).wnu.hits = s.wnu.hits := by simp only [State.hear]; (repeat' split) <;> simp
@[simp] theorem State.hear_wnu_pendCounts (t : Nat) : (s.hear t).wnu.pendCounts = s.wnu.pendCounts := by simp only [State.hear]; (repeat' split) <;> simp
@[simp] theorem State.hear_wnu_startup (t : Nat) : (s.hear t).wnu.startup = s.wnu.startup := by simp only [State.hear]; (repeat' split) <;> simp
@[simp] theorem State.hear_wnu_startKind (t : Nat) : (s.hear t).wnu.startKind = s.wnu.startKind := by simp only [State.hear]; (repeat' split) <;> simp
@[simp] theorem State.hear_sst (t : Nat) : (s.hear t).sst = s.sst := by simp only [State.hear]; (repeat' split) <;> simp
@[simp] theorem State.hear_fck (t : Nat) : (s.hear t).fck = s.fck := by simp only [State.hear]; (repeat' split) <;> simp
@[simp] theorem State.hear_flp (t : Nat) : (s.hear t).flp = s.flp := by simp only [State.hear]; (repeat' split) <;> simp
@[simp] theorem State.hear_fhp (t : Nat) : (s.hear t).fhp = s.fhp := by simp only [State.hear]; (repeat' split) <;> simp
@[simp] theorem State.hear_gwp (t : Nat) : (s.hear t).gwp = s.gwp := by simp only [State.hear]; (repeat' split) <;> simp
@[simp] theorem State.hear_power (t : Nat) : (s.hear t).power = s.power := by simp only [State.hear]; (repeat' split) <;> simp
@[simp] theorem State.hear_due_exchanges (t : Nat) : (s.hear t).due.exchanges = s.due.exchanges := by simp only [State.hear]; (repeat' split) <;> simp
@[simp] theorem State.hear_due_leases (t : Nat) : (s.hear t).due.leases = s.due.leases := by simp only [State.hear]; (repeat' split) <;> simp
@[simp] theorem State.hear_due_approvals (t : Nat) : (s.hear t).due.approvals = s.due.approvals := by simp only [State.hear]; (repeat' split) <;> simp
@[simp] theorem State.hear_due_ages (t : Nat) : (s.hear t).due.ages = s.due.ages := by simp only [State.hear]; (repeat' split) <;> simp
@[simp] theorem State.hear_pending (t : Nat) : (s.hear t).pending = s.pending := by simp only [State.hear]; (repeat' split) <;> simp

@[simp] theorem State.countFraming_ckt (p : ReqPort) : (s.countFraming p).ckt = s.ckt := by cases p <;> rfl
@[simp] theorem State.countFraming_freeLines (p : ReqPort) : (s.countFraming p).freeLines = s.freeLines := by cases p <;> rfl
@[simp] theorem State.countFraming_tdu (p : ReqPort) : (s.countFraming p).tdu = s.tdu := by cases p <;> rfl
@[simp] theorem State.countFraming_fmp (p : ReqPort) : (s.countFraming p).fmp = s.fmp := by cases p <;> rfl
@[simp] theorem State.countFraming_aqp (p : ReqPort) : (s.countFraming p).aqp = s.aqp := by cases p <;> rfl
@[simp] theorem State.countFraming_apu (p : ReqPort) : (s.countFraming p).apu = s.apu := by cases p <;> rfl
@[simp] theorem State.countFraming_wnu (p : ReqPort) : (s.countFraming p).wnu = s.wnu := by cases p <;> rfl
@[simp] theorem State.countFraming_sst (p : ReqPort) : (s.countFraming p).sst = s.sst := by cases p <;> rfl
@[simp] theorem State.countFraming_fck (p : ReqPort) : (s.countFraming p).fck = s.fck := by cases p <;> rfl
@[simp] theorem State.countFraming_flp_assembler (p : ReqPort) : (s.countFraming p).flp.assembler = s.flp.assembler := by cases p <;> rfl
@[simp] theorem State.countFraming_flp_out (p : ReqPort) : (s.countFraming p).flp.out = s.flp.out := by cases p <;> rfl
@[simp] theorem State.countFraming_flp_crcErrors (p : ReqPort) : (s.countFraming p).flp.crcErrors = s.flp.crcErrors := by cases p <;> rfl
@[simp] theorem State.countFraming_flp_overruns (p : ReqPort) : (s.countFraming p).flp.overruns = s.flp.overruns := by cases p <;> rfl
@[simp] theorem State.countFraming_flp_pushDrops (p : ReqPort) : (s.countFraming p).flp.pushDrops = s.flp.pushDrops := by cases p <;> rfl
@[simp] theorem State.countFraming_flp_sent (p : ReqPort) : (s.countFraming p).flp.sent = s.flp.sent := by cases p <;> rfl
@[simp] theorem State.countFraming_fhp_out (p : ReqPort) : (s.countFraming p).fhp.out = s.fhp.out := by cases p <;> rfl
@[simp] theorem State.countFraming_fhp_crcErrors (p : ReqPort) : (s.countFraming p).fhp.crcErrors = s.fhp.crcErrors := by cases p <;> rfl
@[simp] theorem State.countFraming_fhp_overruns (p : ReqPort) : (s.countFraming p).fhp.overruns = s.fhp.overruns := by cases p <;> rfl
@[simp] theorem State.countFraming_fhp_ignore (p : ReqPort) : (s.countFraming p).fhp.ignore = s.fhp.ignore := by cases p <;> rfl
@[simp] theorem State.countFraming_fhp_sdo (p : ReqPort) : (s.countFraming p).fhp.sdo = s.fhp.sdo := by cases p <;> rfl
@[simp] theorem State.countFraming_gwp (p : ReqPort) : (s.countFraming p).gwp = s.gwp := by cases p <;> rfl
@[simp] theorem State.countFraming_power (p : ReqPort) : (s.countFraming p).power = s.power := by cases p <;> rfl
@[simp] theorem State.countFraming_due (p : ReqPort) : (s.countFraming p).due = s.due := by cases p <;> rfl
@[simp] theorem State.countFraming_pending (p : ReqPort) : (s.countFraming p).pending = s.pending := by cases p <;> rfl

@[simp] theorem State.countOverrun_ckt (p : ReqPort) : (s.countOverrun p).ckt = s.ckt := by cases p <;> rfl
@[simp] theorem State.countOverrun_freeLines (p : ReqPort) : (s.countOverrun p).freeLines = s.freeLines := by cases p <;> rfl
@[simp] theorem State.countOverrun_tdu (p : ReqPort) : (s.countOverrun p).tdu = s.tdu := by cases p <;> rfl
@[simp] theorem State.countOverrun_fmp (p : ReqPort) : (s.countOverrun p).fmp = s.fmp := by cases p <;> rfl
@[simp] theorem State.countOverrun_aqp (p : ReqPort) : (s.countOverrun p).aqp = s.aqp := by cases p <;> rfl
@[simp] theorem State.countOverrun_apu (p : ReqPort) : (s.countOverrun p).apu = s.apu := by cases p <;> rfl
@[simp] theorem State.countOverrun_wnu (p : ReqPort) : (s.countOverrun p).wnu = s.wnu := by cases p <;> rfl
@[simp] theorem State.countOverrun_sst (p : ReqPort) : (s.countOverrun p).sst = s.sst := by cases p <;> rfl
@[simp] theorem State.countOverrun_fck (p : ReqPort) : (s.countOverrun p).fck = s.fck := by cases p <;> rfl
@[simp] theorem State.countOverrun_flp_assembler (p : ReqPort) : (s.countOverrun p).flp.assembler = s.flp.assembler := by cases p <;> rfl
@[simp] theorem State.countOverrun_flp_out (p : ReqPort) : (s.countOverrun p).flp.out = s.flp.out := by cases p <;> rfl
@[simp] theorem State.countOverrun_flp_crcErrors (p : ReqPort) : (s.countOverrun p).flp.crcErrors = s.flp.crcErrors := by cases p <;> rfl
@[simp] theorem State.countOverrun_flp_framingErrors (p : ReqPort) : (s.countOverrun p).flp.framingErrors = s.flp.framingErrors := by cases p <;> rfl
@[simp] theorem State.countOverrun_flp_pushDrops (p : ReqPort) : (s.countOverrun p).flp.pushDrops = s.flp.pushDrops := by cases p <;> rfl
@[simp] theorem State.countOverrun_flp_sent (p : ReqPort) : (s.countOverrun p).flp.sent = s.flp.sent := by cases p <;> rfl
@[simp] theorem State.countOverrun_fhp_out (p : ReqPort) : (s.countOverrun p).fhp.out = s.fhp.out := by cases p <;> rfl
@[simp] theorem State.countOverrun_fhp_crcErrors (p : ReqPort) : (s.countOverrun p).fhp.crcErrors = s.fhp.crcErrors := by cases p <;> rfl
@[simp] theorem State.countOverrun_fhp_framingErrors (p : ReqPort) : (s.countOverrun p).fhp.framingErrors = s.fhp.framingErrors := by cases p <;> rfl
@[simp] theorem State.countOverrun_fhp_ignore (p : ReqPort) : (s.countOverrun p).fhp.ignore = s.fhp.ignore := by cases p <;> rfl
@[simp] theorem State.countOverrun_fhp_sdo (p : ReqPort) : (s.countOverrun p).fhp.sdo = s.fhp.sdo := by cases p <;> rfl
@[simp] theorem State.countOverrun_gwp (p : ReqPort) : (s.countOverrun p).gwp = s.gwp := by cases p <;> rfl
@[simp] theorem State.countOverrun_power (p : ReqPort) : (s.countOverrun p).power = s.power := by cases p <;> rfl
@[simp] theorem State.countOverrun_due (p : ReqPort) : (s.countOverrun p).due = s.due := by cases p <;> rfl
@[simp] theorem State.countOverrun_pending (p : ReqPort) : (s.countOverrun p).pending = s.pending := by cases p <;> rfl

@[simp] theorem State.putOut_ckt (p : ReqPort) (fs : List Frame) : (s.putOut p fs).ckt = s.ckt := by cases p <;> rfl
@[simp] theorem State.putOut_freeLines (p : ReqPort) (fs : List Frame) : (s.putOut p fs).freeLines = s.freeLines := by cases p <;> rfl
@[simp] theorem State.putOut_tdu (p : ReqPort) (fs : List Frame) : (s.putOut p fs).tdu = s.tdu := by cases p <;> rfl
@[simp] theorem State.putOut_fmp (p : ReqPort) (fs : List Frame) : (s.putOut p fs).fmp = s.fmp := by cases p <;> rfl
@[simp] theorem State.putOut_aqp (p : ReqPort) (fs : List Frame) : (s.putOut p fs).aqp = s.aqp := by cases p <;> rfl
@[simp] theorem State.putOut_apu (p : ReqPort) (fs : List Frame) : (s.putOut p fs).apu = s.apu := by cases p <;> rfl
@[simp] theorem State.putOut_wnu (p : ReqPort) (fs : List Frame) : (s.putOut p fs).wnu = s.wnu := by cases p <;> rfl
@[simp] theorem State.putOut_sst (p : ReqPort) (fs : List Frame) : (s.putOut p fs).sst = s.sst := by cases p <;> rfl
@[simp] theorem State.putOut_fck (p : ReqPort) (fs : List Frame) : (s.putOut p fs).fck = s.fck := by cases p <;> rfl
@[simp] theorem State.putOut_flp_assembler (p : ReqPort) (fs : List Frame) : (s.putOut p fs).flp.assembler = s.flp.assembler := by cases p <;> rfl
@[simp] theorem State.putOut_flp_crcErrors (p : ReqPort) (fs : List Frame) : (s.putOut p fs).flp.crcErrors = s.flp.crcErrors := by cases p <;> rfl
@[simp] theorem State.putOut_flp_framingErrors (p : ReqPort) (fs : List Frame) : (s.putOut p fs).flp.framingErrors = s.flp.framingErrors := by cases p <;> rfl
@[simp] theorem State.putOut_flp_overruns (p : ReqPort) (fs : List Frame) : (s.putOut p fs).flp.overruns = s.flp.overruns := by cases p <;> rfl
@[simp] theorem State.putOut_flp_pushDrops (p : ReqPort) (fs : List Frame) : (s.putOut p fs).flp.pushDrops = s.flp.pushDrops := by cases p <;> rfl
@[simp] theorem State.putOut_flp_sent (p : ReqPort) (fs : List Frame) : (s.putOut p fs).flp.sent = s.flp.sent := by cases p <;> rfl
@[simp] theorem State.putOut_fhp_crcErrors (p : ReqPort) (fs : List Frame) : (s.putOut p fs).fhp.crcErrors = s.fhp.crcErrors := by cases p <;> rfl
@[simp] theorem State.putOut_fhp_framingErrors (p : ReqPort) (fs : List Frame) : (s.putOut p fs).fhp.framingErrors = s.fhp.framingErrors := by cases p <;> rfl
@[simp] theorem State.putOut_fhp_overruns (p : ReqPort) (fs : List Frame) : (s.putOut p fs).fhp.overruns = s.fhp.overruns := by cases p <;> rfl
@[simp] theorem State.putOut_fhp_ignore (p : ReqPort) (fs : List Frame) : (s.putOut p fs).fhp.ignore = s.fhp.ignore := by cases p <;> rfl
@[simp] theorem State.putOut_fhp_sdo (p : ReqPort) (fs : List Frame) : (s.putOut p fs).fhp.sdo = s.fhp.sdo := by cases p <;> rfl
@[simp] theorem State.putOut_gwp (p : ReqPort) (fs : List Frame) : (s.putOut p fs).gwp = s.gwp := by cases p <;> rfl
@[simp] theorem State.putOut_power (p : ReqPort) (fs : List Frame) : (s.putOut p fs).power = s.power := by cases p <;> rfl
@[simp] theorem State.putOut_due (p : ReqPort) (fs : List Frame) : (s.putOut p fs).due = s.due := by cases p <;> rfl
@[simp] theorem State.putOut_pending (p : ReqPort) (fs : List Frame) : (s.putOut p fs).pending = s.pending := by cases p <;> rfl

@[simp] theorem State.answer_ckt (h : Hdr) (kind : Nat) (r : Reply) : (s.answer h kind r).ckt = s.ckt := by simp [State.answer]
@[simp] theorem State.answer_freeLines (h : Hdr) (kind : Nat) (r : Reply) : (s.answer h kind r).freeLines = s.freeLines := by simp [State.answer]
@[simp] theorem State.answer_tdu (h : Hdr) (kind : Nat) (r : Reply) : (s.answer h kind r).tdu = s.tdu := by simp [State.answer]
@[simp] theorem State.answer_fmp (h : Hdr) (kind : Nat) (r : Reply) : (s.answer h kind r).fmp = s.fmp := by simp [State.answer]
@[simp] theorem State.answer_aqp (h : Hdr) (kind : Nat) (r : Reply) : (s.answer h kind r).aqp = s.aqp := by simp [State.answer]
@[simp] theorem State.answer_apu (h : Hdr) (kind : Nat) (r : Reply) : (s.answer h kind r).apu = s.apu := by simp [State.answer]
@[simp] theorem State.answer_wnu (h : Hdr) (kind : Nat) (r : Reply) : (s.answer h kind r).wnu = s.wnu := by simp [State.answer]
@[simp] theorem State.answer_sst (h : Hdr) (kind : Nat) (r : Reply) : (s.answer h kind r).sst = s.sst := by simp [State.answer]
@[simp] theorem State.answer_fck (h : Hdr) (kind : Nat) (r : Reply) : (s.answer h kind r).fck = s.fck := by simp [State.answer]
@[simp] theorem State.answer_flp_assembler (h : Hdr) (kind : Nat) (r : Reply) : (s.answer h kind r).flp.assembler = s.flp.assembler := by simp [State.answer]
@[simp] theorem State.answer_flp_crcErrors (h : Hdr) (kind : Nat) (r : Reply) : (s.answer h kind r).flp.crcErrors = s.flp.crcErrors := by simp [State.answer]
@[simp] theorem State.answer_flp_framingErrors (h : Hdr) (kind : Nat) (r : Reply) : (s.answer h kind r).flp.framingErrors = s.flp.framingErrors := by simp [State.answer]
@[simp] theorem State.answer_flp_overruns (h : Hdr) (kind : Nat) (r : Reply) : (s.answer h kind r).flp.overruns = s.flp.overruns := by simp [State.answer]
@[simp] theorem State.answer_flp_pushDrops (h : Hdr) (kind : Nat) (r : Reply) : (s.answer h kind r).flp.pushDrops = s.flp.pushDrops := by simp [State.answer]
@[simp] theorem State.answer_flp_sent (h : Hdr) (kind : Nat) (r : Reply) : (s.answer h kind r).flp.sent = s.flp.sent := by simp [State.answer]
@[simp] theorem State.answer_fhp_crcErrors (h : Hdr) (kind : Nat) (r : Reply) : (s.answer h kind r).fhp.crcErrors = s.fhp.crcErrors := by simp [State.answer]
@[simp] theorem State.answer_fhp_framingErrors (h : Hdr) (kind : Nat) (r : Reply) : (s.answer h kind r).fhp.framingErrors = s.fhp.framingErrors := by simp [State.answer]
@[simp] theorem State.answer_fhp_overruns (h : Hdr) (kind : Nat) (r : Reply) : (s.answer h kind r).fhp.overruns = s.fhp.overruns := by simp [State.answer]
@[simp] theorem State.answer_fhp_ignore (h : Hdr) (kind : Nat) (r : Reply) : (s.answer h kind r).fhp.ignore = s.fhp.ignore := by simp [State.answer]
@[simp] theorem State.answer_fhp_sdo (h : Hdr) (kind : Nat) (r : Reply) : (s.answer h kind r).fhp.sdo = s.fhp.sdo := by simp [State.answer]
@[simp] theorem State.answer_gwp (h : Hdr) (kind : Nat) (r : Reply) : (s.answer h kind r).gwp = s.gwp := by simp [State.answer]
@[simp] theorem State.answer_power (h : Hdr) (kind : Nat) (r : Reply) : (s.answer h kind r).power = s.power := by simp [State.answer]
@[simp] theorem State.answer_due (h : Hdr) (kind : Nat) (r : Reply) : (s.answer h kind r).due = s.due := by simp [State.answer]
@[simp] theorem State.answer_pending (h : Hdr) (kind : Nat) (r : Reply) : (s.answer h kind r).pending = s.pending := by simp [State.answer]

@[simp] theorem State.derive_ckt_nextNumber (b : Bool) (slot : Nat) : (s.derive b slot).ckt.nextNumber = s.ckt.nextNumber := by simp only [State.derive]; (repeat' split) <;> simp
@[simp] theorem State.derive_freeLines (b : Bool) (slot : Nat) : (s.derive b slot).freeLines = s.freeLines := by simp only [State.derive]; (repeat' split) <;> simp
@[simp] theorem State.derive_tdu (b : Bool) (slot : Nat) : (s.derive b slot).tdu = s.tdu := by simp only [State.derive]; (repeat' split) <;> simp
@[simp] theorem State.derive_fmp (b : Bool) (slot : Nat) : (s.derive b slot).fmp = s.fmp := by simp only [State.derive]; (repeat' split) <;> simp
@[simp] theorem State.derive_aqp (b : Bool) (slot : Nat) : (s.derive b slot).aqp = s.aqp := by simp only [State.derive]; (repeat' split) <;> simp
@[simp] theorem State.derive_apu (b : Bool) (slot : Nat) : (s.derive b slot).apu = s.apu := by simp only [State.derive]; (repeat' split) <;> simp
@[simp] theorem State.derive_wnu_watches (b : Bool) (slot : Nat) : (s.derive b slot).wnu.watches = s.wnu.watches := by simp only [State.derive]; (repeat' split) <;> simp
@[simp] theorem State.derive_wnu_pendCounts (b : Bool) (slot : Nat) : (s.derive b slot).wnu.pendCounts = s.wnu.pendCounts := by simp only [State.derive]; (repeat' split) <;> simp
@[simp] theorem State.derive_wnu_startup (b : Bool) (slot : Nat) : (s.derive b slot).wnu.startup = s.wnu.startup := by simp only [State.derive]; (repeat' split) <;> simp
@[simp] theorem State.derive_wnu_startKind (b : Bool) (slot : Nat) : (s.derive b slot).wnu.startKind = s.wnu.startKind := by simp only [State.derive]; (repeat' split) <;> simp
@[simp] theorem State.derive_sst (b : Bool) (slot : Nat) : (s.derive b slot).sst = s.sst := by simp only [State.derive]; (repeat' split) <;> simp
@[simp] theorem State.derive_fck (b : Bool) (slot : Nat) : (s.derive b slot).fck = s.fck := by simp only [State.derive]; (repeat' split) <;> simp
@[simp] theorem State.derive_flp (b : Bool) (slot : Nat) : (s.derive b slot).flp = s.flp := by simp only [State.derive]; (repeat' split) <;> simp
@[simp] theorem State.derive_fhp (b : Bool) (slot : Nat) : (s.derive b slot).fhp = s.fhp := by simp only [State.derive]; (repeat' split) <;> simp
@[simp] theorem State.derive_gwp (b : Bool) (slot : Nat) : (s.derive b slot).gwp = s.gwp := by simp only [State.derive]; (repeat' split) <;> simp
@[simp] theorem State.derive_power (b : Bool) (slot : Nat) : (s.derive b slot).power = s.power := by simp only [State.derive]; (repeat' split) <;> simp
@[simp] theorem State.derive_due (b : Bool) (slot : Nat) : (s.derive b slot).due = s.due := by simp only [State.derive]; (repeat' split) <;> simp
@[simp] theorem State.derive_pending (b : Bool) (slot : Nat) : (s.derive b slot).pending = s.pending := by simp only [State.derive]; (repeat' split) <;> simp

@[simp] theorem State.moveTender_ckt_nextNumber (i : Nat) (f : Tender → Tender) : (s.moveTender i f).ckt.nextNumber = s.ckt.nextNumber := by unfold State.moveTender; split <;> simp
@[simp] theorem State.moveTender_freeLines (i : Nat) (f : Tender → Tender) : (s.moveTender i f).freeLines = s.freeLines := by unfold State.moveTender; split <;> simp
@[simp] theorem State.moveTender_tdu_pendingList (i : Nat) (f : Tender → Tender) : (s.moveTender i f).tdu.pendingList = s.tdu.pendingList := by unfold State.moveTender; split <;> simp
@[simp] theorem State.moveTender_fmp (i : Nat) (f : Tender → Tender) : (s.moveTender i f).fmp = s.fmp := by unfold State.moveTender; split <;> simp
@[simp] theorem State.moveTender_aqp (i : Nat) (f : Tender → Tender) : (s.moveTender i f).aqp = s.aqp := by unfold State.moveTender; split <;> simp
@[simp] theorem State.moveTender_apu (i : Nat) (f : Tender → Tender) : (s.moveTender i f).apu = s.apu := by unfold State.moveTender; split <;> simp
@[simp] theorem State.moveTender_wnu (i : Nat) (f : Tender → Tender) : (s.moveTender i f).wnu = s.wnu := by unfold State.moveTender; split <;> simp
@[simp] theorem State.moveTender_sst (i : Nat) (f : Tender → Tender) : (s.moveTender i f).sst = s.sst := by unfold State.moveTender; split <;> simp
@[simp] theorem State.moveTender_fck (i : Nat) (f : Tender → Tender) : (s.moveTender i f).fck = s.fck := by unfold State.moveTender; split <;> simp
@[simp] theorem State.moveTender_flp (i : Nat) (f : Tender → Tender) : (s.moveTender i f).flp = s.flp := by unfold State.moveTender; split <;> simp
@[simp] theorem State.moveTender_fhp (i : Nat) (f : Tender → Tender) : (s.moveTender i f).fhp = s.fhp := by unfold State.moveTender; split <;> simp
@[simp] theorem State.moveTender_gwp (i : Nat) (f : Tender → Tender) : (s.moveTender i f).gwp = s.gwp := by unfold State.moveTender; split <;> simp
@[simp] theorem State.moveTender_power (i : Nat) (f : Tender → Tender) : (s.moveTender i f).power = s.power := by unfold State.moveTender; split <;> simp
@[simp] theorem State.moveTender_due (i : Nat) (f : Tender → Tender) : (s.moveTender i f).due = s.due := by unfold State.moveTender; split <;> simp
@[simp] theorem State.moveTender_pending (i : Nat) (f : Tender → Tender) : (s.moveTender i f).pending = s.pending := by unfold State.moveTender; split <;> simp

@[simp] theorem State.tenderEvent_ckt_nextNumber (i : Nat) (f : Tender → Tender) : (s.tenderEvent i f).ckt.nextNumber = s.ckt.nextNumber := by unfold State.tenderEvent; split <;> simp
@[simp] theorem State.tenderEvent_freeLines (i : Nat) (f : Tender → Tender) : (s.tenderEvent i f).freeLines = s.freeLines := by unfold State.tenderEvent; split <;> simp
@[simp] theorem State.tenderEvent_tdu_pendingList (i : Nat) (f : Tender → Tender) : (s.tenderEvent i f).tdu.pendingList = s.tdu.pendingList := by unfold State.tenderEvent; split <;> simp
@[simp] theorem State.tenderEvent_fmp (i : Nat) (f : Tender → Tender) : (s.tenderEvent i f).fmp = s.fmp := by unfold State.tenderEvent; split <;> simp
@[simp] theorem State.tenderEvent_aqp (i : Nat) (f : Tender → Tender) : (s.tenderEvent i f).aqp = s.aqp := by unfold State.tenderEvent; split <;> simp
@[simp] theorem State.tenderEvent_apu (i : Nat) (f : Tender → Tender) : (s.tenderEvent i f).apu = s.apu := by unfold State.tenderEvent; split <;> simp
@[simp] theorem State.tenderEvent_wnu_watches (i : Nat) (f : Tender → Tender) : (s.tenderEvent i f).wnu.watches = s.wnu.watches := by unfold State.tenderEvent; split <;> simp
@[simp] theorem State.tenderEvent_wnu_pendCounts (i : Nat) (f : Tender → Tender) : (s.tenderEvent i f).wnu.pendCounts = s.wnu.pendCounts := by unfold State.tenderEvent; split <;> simp
@[simp] theorem State.tenderEvent_wnu_startup (i : Nat) (f : Tender → Tender) : (s.tenderEvent i f).wnu.startup = s.wnu.startup := by unfold State.tenderEvent; split <;> simp
@[simp] theorem State.tenderEvent_wnu_startKind (i : Nat) (f : Tender → Tender) : (s.tenderEvent i f).wnu.startKind = s.wnu.startKind := by unfold State.tenderEvent; split <;> simp
@[simp] theorem State.tenderEvent_sst (i : Nat) (f : Tender → Tender) : (s.tenderEvent i f).sst = s.sst := by unfold State.tenderEvent; split <;> simp
@[simp] theorem State.tenderEvent_fck (i : Nat) (f : Tender → Tender) : (s.tenderEvent i f).fck = s.fck := by unfold State.tenderEvent; split <;> simp
@[simp] theorem State.tenderEvent_flp (i : Nat) (f : Tender → Tender) : (s.tenderEvent i f).flp = s.flp := by unfold State.tenderEvent; split <;> simp
@[simp] theorem State.tenderEvent_fhp (i : Nat) (f : Tender → Tender) : (s.tenderEvent i f).fhp = s.fhp := by unfold State.tenderEvent; split <;> simp
@[simp] theorem State.tenderEvent_gwp (i : Nat) (f : Tender → Tender) : (s.tenderEvent i f).gwp = s.gwp := by unfold State.tenderEvent; split <;> simp
@[simp] theorem State.tenderEvent_power (i : Nat) (f : Tender → Tender) : (s.tenderEvent i f).power = s.power := by unfold State.tenderEvent; split <;> simp
@[simp] theorem State.tenderEvent_due (i : Nat) (f : Tender → Tender) : (s.tenderEvent i f).due = s.due := by unfold State.tenderEvent; split <;> simp
@[simp] theorem State.tenderEvent_pending (i : Nat) (f : Tender → Tender) : (s.tenderEvent i f).pending = s.pending := by unfold State.tenderEvent; split <;> simp

@[simp] theorem State.reverseTender_ckt_nextNumber (i : Nat) (f : Tender → Tender) : (s.reverseTender i f).ckt.nextNumber = s.ckt.nextNumber := by simp [State.reverseTender]
@[simp] theorem State.reverseTender_freeLines (i : Nat) (f : Tender → Tender) : (s.reverseTender i f).freeLines = s.freeLines := by simp [State.reverseTender]
@[simp] theorem State.reverseTender_tdu_pendingList (i : Nat) (f : Tender → Tender) : (s.reverseTender i f).tdu.pendingList = s.tdu.pendingList := by simp [State.reverseTender]
@[simp] theorem State.reverseTender_fmp (i : Nat) (f : Tender → Tender) : (s.reverseTender i f).fmp = s.fmp := by simp [State.reverseTender]
@[simp] theorem State.reverseTender_aqp_linkOk (i : Nat) (f : Tender → Tender) : (s.reverseTender i f).aqp.linkOk = s.aqp.linkOk := by simp [State.reverseTender]
@[simp] theorem State.reverseTender_aqp_link (i : Nat) (f : Tender → Tender) : (s.reverseTender i f).aqp.link = s.aqp.link := by simp [State.reverseTender]
@[simp] theorem State.reverseTender_aqp_timeouts (i : Nat) (f : Tender → Tender) : (s.reverseTender i f).aqp.timeouts = s.aqp.timeouts := by simp [State.reverseTender]
@[simp] theorem State.reverseTender_aqp_entries (i : Nat) (f : Tender → Tender) : (s.reverseTender i f).aqp.entries = s.aqp.entries := by simp [State.reverseTender]
@[simp] theorem State.reverseTender_aqp_tagCounter (i : Nat) (f : Tender → Tender) : (s.reverseTender i f).aqp.tagCounter = s.aqp.tagCounter := by simp [State.reverseTender]
@[simp] theorem State.reverseTender_aqp_discarded (i : Nat) (f : Tender → Tender) : (s.reverseTender i f).aqp.discarded = s.aqp.discarded := by simp [State.reverseTender]
@[simp] theorem State.reverseTender_apu (i : Nat) (f : Tender → Tender) : (s.reverseTender i f).apu = s.apu := by simp [State.reverseTender]
@[simp] theorem State.reverseTender_wnu_watches (i : Nat) (f : Tender → Tender) : (s.reverseTender i f).wnu.watches = s.wnu.watches := by simp [State.reverseTender]
@[simp] theorem State.reverseTender_wnu_pendCounts (i : Nat) (f : Tender → Tender) : (s.reverseTender i f).wnu.pendCounts = s.wnu.pendCounts := by simp [State.reverseTender]
@[simp] theorem State.reverseTender_wnu_startup (i : Nat) (f : Tender → Tender) : (s.reverseTender i f).wnu.startup = s.wnu.startup := by simp [State.reverseTender]
@[simp] theorem State.reverseTender_wnu_startKind (i : Nat) (f : Tender → Tender) : (s.reverseTender i f).wnu.startKind = s.wnu.startKind := by simp [State.reverseTender]
@[simp] theorem State.reverseTender_sst (i : Nat) (f : Tender → Tender) : (s.reverseTender i f).sst = s.sst := by simp [State.reverseTender]
@[simp] theorem State.reverseTender_fck (i : Nat) (f : Tender → Tender) : (s.reverseTender i f).fck = s.fck := by simp [State.reverseTender]
@[simp] theorem State.reverseTender_flp (i : Nat) (f : Tender → Tender) : (s.reverseTender i f).flp = s.flp := by simp [State.reverseTender]
@[simp] theorem State.reverseTender_fhp (i : Nat) (f : Tender → Tender) : (s.reverseTender i f).fhp = s.fhp := by simp [State.reverseTender]
@[simp] theorem State.reverseTender_gwp (i : Nat) (f : Tender → Tender) : (s.reverseTender i f).gwp = s.gwp := by simp [State.reverseTender]
@[simp] theorem State.reverseTender_power (i : Nat) (f : Tender → Tender) : (s.reverseTender i f).power = s.power := by simp [State.reverseTender]
@[simp] theorem State.reverseTender_due (i : Nat) (f : Tender → Tender) : (s.reverseTender i f).due = s.due := by simp [State.reverseTender]
@[simp] theorem State.reverseTender_pending (i : Nat) (f : Tender → Tender) : (s.reverseTender i f).pending = s.pending := by simp [State.reverseTender]

@[simp] theorem State.settleAuthorized_ckt_nextNumber (i : Nat) (b : Bool) (f : Tender → Tender) : (s.settleAuthorized i b f).ckt.nextNumber = s.ckt.nextNumber := by unfold State.settleAuthorized; split <;> simp
@[simp] theorem State.settleAuthorized_freeLines (i : Nat) (b : Bool) (f : Tender → Tender) : (s.settleAuthorized i b f).freeLines = s.freeLines := by unfold State.settleAuthorized; split <;> simp
@[simp] theorem State.settleAuthorized_tdu_pendingList (i : Nat) (b : Bool) (f : Tender → Tender) : (s.settleAuthorized i b f).tdu.pendingList = s.tdu.pendingList := by unfold State.settleAuthorized; split <;> simp
@[simp] theorem State.settleAuthorized_fmp (i : Nat) (b : Bool) (f : Tender → Tender) : (s.settleAuthorized i b f).fmp = s.fmp := by unfold State.settleAuthorized; split <;> simp
@[simp] theorem State.settleAuthorized_aqp_linkOk (i : Nat) (b : Bool) (f : Tender → Tender) : (s.settleAuthorized i b f).aqp.linkOk = s.aqp.linkOk := by unfold State.settleAuthorized; split <;> simp
@[simp] theorem State.settleAuthorized_aqp_link (i : Nat) (b : Bool) (f : Tender → Tender) : (s.settleAuthorized i b f).aqp.link = s.aqp.link := by unfold State.settleAuthorized; split <;> simp
@[simp] theorem State.settleAuthorized_aqp_timeouts (i : Nat) (b : Bool) (f : Tender → Tender) : (s.settleAuthorized i b f).aqp.timeouts = s.aqp.timeouts := by unfold State.settleAuthorized; split <;> simp
@[simp] theorem State.settleAuthorized_aqp_entries (i : Nat) (b : Bool) (f : Tender → Tender) : (s.settleAuthorized i b f).aqp.entries = s.aqp.entries := by unfold State.settleAuthorized; split <;> simp
@[simp] theorem State.settleAuthorized_aqp_tagCounter (i : Nat) (b : Bool) (f : Tender → Tender) : (s.settleAuthorized i b f).aqp.tagCounter = s.aqp.tagCounter := by unfold State.settleAuthorized; split <;> simp
@[simp] theorem State.settleAuthorized_aqp_discarded (i : Nat) (b : Bool) (f : Tender → Tender) : (s.settleAuthorized i b f).aqp.discarded = s.aqp.discarded := by unfold State.settleAuthorized; split <;> simp
@[simp] theorem State.settleAuthorized_apu (i : Nat) (b : Bool) (f : Tender → Tender) : (s.settleAuthorized i b f).apu = s.apu := by unfold State.settleAuthorized; split <;> simp
@[simp] theorem State.settleAuthorized_wnu_watches (i : Nat) (b : Bool) (f : Tender → Tender) : (s.settleAuthorized i b f).wnu.watches = s.wnu.watches := by unfold State.settleAuthorized; split <;> simp
@[simp] theorem State.settleAuthorized_wnu_pendCounts (i : Nat) (b : Bool) (f : Tender → Tender) : (s.settleAuthorized i b f).wnu.pendCounts = s.wnu.pendCounts := by unfold State.settleAuthorized; split <;> simp
@[simp] theorem State.settleAuthorized_wnu_startup (i : Nat) (b : Bool) (f : Tender → Tender) : (s.settleAuthorized i b f).wnu.startup = s.wnu.startup := by unfold State.settleAuthorized; split <;> simp
@[simp] theorem State.settleAuthorized_wnu_startKind (i : Nat) (b : Bool) (f : Tender → Tender) : (s.settleAuthorized i b f).wnu.startKind = s.wnu.startKind := by unfold State.settleAuthorized; split <;> simp
@[simp] theorem State.settleAuthorized_sst (i : Nat) (b : Bool) (f : Tender → Tender) : (s.settleAuthorized i b f).sst = s.sst := by unfold State.settleAuthorized; split <;> simp
@[simp] theorem State.settleAuthorized_fck (i : Nat) (b : Bool) (f : Tender → Tender) : (s.settleAuthorized i b f).fck = s.fck := by unfold State.settleAuthorized; split <;> simp
@[simp] theorem State.settleAuthorized_flp (i : Nat) (b : Bool) (f : Tender → Tender) : (s.settleAuthorized i b f).flp = s.flp := by unfold State.settleAuthorized; split <;> simp
@[simp] theorem State.settleAuthorized_fhp (i : Nat) (b : Bool) (f : Tender → Tender) : (s.settleAuthorized i b f).fhp = s.fhp := by unfold State.settleAuthorized; split <;> simp
@[simp] theorem State.settleAuthorized_gwp (i : Nat) (b : Bool) (f : Tender → Tender) : (s.settleAuthorized i b f).gwp = s.gwp := by unfold State.settleAuthorized; split <;> simp
@[simp] theorem State.settleAuthorized_power (i : Nat) (b : Bool) (f : Tender → Tender) : (s.settleAuthorized i b f).power = s.power := by unfold State.settleAuthorized; split <;> simp
@[simp] theorem State.settleAuthorized_due (i : Nat) (b : Bool) (f : Tender → Tender) : (s.settleAuthorized i b f).due = s.due := by unfold State.settleAuthorized; split <;> simp
@[simp] theorem State.settleAuthorized_pending (i : Nat) (b : Bool) (f : Tender → Tender) : (s.settleAuthorized i b f).pending = s.pending := by unfold State.settleAuthorized; split <;> simp

@[simp] theorem State.endAuth_ckt_nextNumber (i : Nat) (t : Tender) (e : ExchangeEnd) : (s.endAuth i t e).ckt.nextNumber = s.ckt.nextNumber := by cases e <;> simp [State.endAuth]
@[simp] theorem State.endAuth_freeLines (i : Nat) (t : Tender) (e : ExchangeEnd) : (s.endAuth i t e).freeLines = s.freeLines := by cases e <;> simp [State.endAuth]
@[simp] theorem State.endAuth_fmp (i : Nat) (t : Tender) (e : ExchangeEnd) : (s.endAuth i t e).fmp = s.fmp := by cases e <;> simp [State.endAuth]
@[simp] theorem State.endAuth_aqp_linkOk (i : Nat) (t : Tender) (e : ExchangeEnd) : (s.endAuth i t e).aqp.linkOk = s.aqp.linkOk := by cases e <;> simp [State.endAuth]
@[simp] theorem State.endAuth_aqp_link (i : Nat) (t : Tender) (e : ExchangeEnd) : (s.endAuth i t e).aqp.link = s.aqp.link := by cases e <;> simp [State.endAuth]
@[simp] theorem State.endAuth_aqp_timeouts (i : Nat) (t : Tender) (e : ExchangeEnd) : (s.endAuth i t e).aqp.timeouts = s.aqp.timeouts := by cases e <;> simp [State.endAuth]
@[simp] theorem State.endAuth_aqp_entries (i : Nat) (t : Tender) (e : ExchangeEnd) : (s.endAuth i t e).aqp.entries = s.aqp.entries := by cases e <;> simp [State.endAuth]
@[simp] theorem State.endAuth_aqp_tagCounter (i : Nat) (t : Tender) (e : ExchangeEnd) : (s.endAuth i t e).aqp.tagCounter = s.aqp.tagCounter := by cases e <;> simp [State.endAuth]
@[simp] theorem State.endAuth_aqp_discarded (i : Nat) (t : Tender) (e : ExchangeEnd) : (s.endAuth i t e).aqp.discarded = s.aqp.discarded := by cases e <;> simp [State.endAuth]
@[simp] theorem State.endAuth_apu (i : Nat) (t : Tender) (e : ExchangeEnd) : (s.endAuth i t e).apu = s.apu := by cases e <;> simp [State.endAuth]
@[simp] theorem State.endAuth_wnu_watches (i : Nat) (t : Tender) (e : ExchangeEnd) : (s.endAuth i t e).wnu.watches = s.wnu.watches := by cases e <;> simp [State.endAuth]
@[simp] theorem State.endAuth_wnu_startup (i : Nat) (t : Tender) (e : ExchangeEnd) : (s.endAuth i t e).wnu.startup = s.wnu.startup := by cases e <;> simp [State.endAuth]
@[simp] theorem State.endAuth_wnu_startKind (i : Nat) (t : Tender) (e : ExchangeEnd) : (s.endAuth i t e).wnu.startKind = s.wnu.startKind := by cases e <;> simp [State.endAuth]
@[simp] theorem State.endAuth_sst (i : Nat) (t : Tender) (e : ExchangeEnd) : (s.endAuth i t e).sst = s.sst := by cases e <;> simp [State.endAuth]
@[simp] theorem State.endAuth_fck (i : Nat) (t : Tender) (e : ExchangeEnd) : (s.endAuth i t e).fck = s.fck := by cases e <;> simp [State.endAuth]
@[simp] theorem State.endAuth_flp (i : Nat) (t : Tender) (e : ExchangeEnd) : (s.endAuth i t e).flp = s.flp := by cases e <;> simp [State.endAuth]
@[simp] theorem State.endAuth_fhp (i : Nat) (t : Tender) (e : ExchangeEnd) : (s.endAuth i t e).fhp = s.fhp := by cases e <;> simp [State.endAuth]
@[simp] theorem State.endAuth_gwp (i : Nat) (t : Tender) (e : ExchangeEnd) : (s.endAuth i t e).gwp = s.gwp := by cases e <;> simp [State.endAuth]
@[simp] theorem State.endAuth_power (i : Nat) (t : Tender) (e : ExchangeEnd) : (s.endAuth i t e).power = s.power := by cases e <;> simp [State.endAuth]
@[simp] theorem State.endAuth_due (i : Nat) (t : Tender) (e : ExchangeEnd) : (s.endAuth i t e).due = s.due := by cases e <;> simp [State.endAuth]
@[simp] theorem State.endAuth_pending (i : Nat) (t : Tender) (e : ExchangeEnd) : (s.endAuth i t e).pending = s.pending := by cases e <;> simp [State.endAuth]

@[simp] theorem State.endIncrement_ckt_nextNumber (i : Nat) (t : Tender) (e : ExchangeEnd) : (s.endIncrement i t e).ckt.nextNumber = s.ckt.nextNumber := by cases e <;> simp [State.endIncrement]
@[simp] theorem State.endIncrement_freeLines (i : Nat) (t : Tender) (e : ExchangeEnd) : (s.endIncrement i t e).freeLines = s.freeLines := by cases e <;> simp [State.endIncrement]
@[simp] theorem State.endIncrement_fmp (i : Nat) (t : Tender) (e : ExchangeEnd) : (s.endIncrement i t e).fmp = s.fmp := by cases e <;> simp [State.endIncrement]
@[simp] theorem State.endIncrement_aqp_linkOk (i : Nat) (t : Tender) (e : ExchangeEnd) : (s.endIncrement i t e).aqp.linkOk = s.aqp.linkOk := by cases e <;> simp [State.endIncrement]
@[simp] theorem State.endIncrement_aqp_link (i : Nat) (t : Tender) (e : ExchangeEnd) : (s.endIncrement i t e).aqp.link = s.aqp.link := by cases e <;> simp [State.endIncrement]
@[simp] theorem State.endIncrement_aqp_timeouts (i : Nat) (t : Tender) (e : ExchangeEnd) : (s.endIncrement i t e).aqp.timeouts = s.aqp.timeouts := by cases e <;> simp [State.endIncrement]
@[simp] theorem State.endIncrement_aqp_entries (i : Nat) (t : Tender) (e : ExchangeEnd) : (s.endIncrement i t e).aqp.entries = s.aqp.entries := by cases e <;> simp [State.endIncrement]
@[simp] theorem State.endIncrement_aqp_tagCounter (i : Nat) (t : Tender) (e : ExchangeEnd) : (s.endIncrement i t e).aqp.tagCounter = s.aqp.tagCounter := by cases e <;> simp [State.endIncrement]
@[simp] theorem State.endIncrement_aqp_discarded (i : Nat) (t : Tender) (e : ExchangeEnd) : (s.endIncrement i t e).aqp.discarded = s.aqp.discarded := by cases e <;> simp [State.endIncrement]
@[simp] theorem State.endIncrement_apu (i : Nat) (t : Tender) (e : ExchangeEnd) : (s.endIncrement i t e).apu = s.apu := by cases e <;> simp [State.endIncrement]
@[simp] theorem State.endIncrement_wnu_watches (i : Nat) (t : Tender) (e : ExchangeEnd) : (s.endIncrement i t e).wnu.watches = s.wnu.watches := by cases e <;> simp [State.endIncrement]
@[simp] theorem State.endIncrement_wnu_startup (i : Nat) (t : Tender) (e : ExchangeEnd) : (s.endIncrement i t e).wnu.startup = s.wnu.startup := by cases e <;> simp [State.endIncrement]
@[simp] theorem State.endIncrement_wnu_startKind (i : Nat) (t : Tender) (e : ExchangeEnd) : (s.endIncrement i t e).wnu.startKind = s.wnu.startKind := by cases e <;> simp [State.endIncrement]
@[simp] theorem State.endIncrement_sst (i : Nat) (t : Tender) (e : ExchangeEnd) : (s.endIncrement i t e).sst = s.sst := by cases e <;> simp [State.endIncrement]
@[simp] theorem State.endIncrement_fck (i : Nat) (t : Tender) (e : ExchangeEnd) : (s.endIncrement i t e).fck = s.fck := by cases e <;> simp [State.endIncrement]
@[simp] theorem State.endIncrement_flp (i : Nat) (t : Tender) (e : ExchangeEnd) : (s.endIncrement i t e).flp = s.flp := by cases e <;> simp [State.endIncrement]
@[simp] theorem State.endIncrement_fhp (i : Nat) (t : Tender) (e : ExchangeEnd) : (s.endIncrement i t e).fhp = s.fhp := by cases e <;> simp [State.endIncrement]
@[simp] theorem State.endIncrement_gwp (i : Nat) (t : Tender) (e : ExchangeEnd) : (s.endIncrement i t e).gwp = s.gwp := by cases e <;> simp [State.endIncrement]
@[simp] theorem State.endIncrement_power (i : Nat) (t : Tender) (e : ExchangeEnd) : (s.endIncrement i t e).power = s.power := by cases e <;> simp [State.endIncrement]
@[simp] theorem State.endIncrement_due (i : Nat) (t : Tender) (e : ExchangeEnd) : (s.endIncrement i t e).due = s.due := by cases e <;> simp [State.endIncrement]
@[simp] theorem State.endIncrement_pending (i : Nat) (t : Tender) (e : ExchangeEnd) : (s.endIncrement i t e).pending = s.pending := by cases e <;> simp [State.endIncrement]

@[simp] theorem State.endReverse_ckt_nextNumber (i : Nat) (t : Tender) (e : ExchangeEnd) : (s.endReverse i t e).ckt.nextNumber = s.ckt.nextNumber := by simp only [State.endReverse]; (repeat' split) <;> simp
@[simp] theorem State.endReverse_freeLines (i : Nat) (t : Tender) (e : ExchangeEnd) : (s.endReverse i t e).freeLines = s.freeLines := by simp only [State.endReverse]; (repeat' split) <;> simp
@[simp] theorem State.endReverse_fmp (i : Nat) (t : Tender) (e : ExchangeEnd) : (s.endReverse i t e).fmp = s.fmp := by simp only [State.endReverse]; (repeat' split) <;> simp
@[simp] theorem State.endReverse_aqp_linkOk (i : Nat) (t : Tender) (e : ExchangeEnd) : (s.endReverse i t e).aqp.linkOk = s.aqp.linkOk := by simp only [State.endReverse]; (repeat' split) <;> simp
@[simp] theorem State.endReverse_aqp_link (i : Nat) (t : Tender) (e : ExchangeEnd) : (s.endReverse i t e).aqp.link = s.aqp.link := by simp only [State.endReverse]; (repeat' split) <;> simp
@[simp] theorem State.endReverse_aqp_timeouts (i : Nat) (t : Tender) (e : ExchangeEnd) : (s.endReverse i t e).aqp.timeouts = s.aqp.timeouts := by simp only [State.endReverse]; (repeat' split) <;> simp
@[simp] theorem State.endReverse_aqp_entries (i : Nat) (t : Tender) (e : ExchangeEnd) : (s.endReverse i t e).aqp.entries = s.aqp.entries := by simp only [State.endReverse]; (repeat' split) <;> simp
@[simp] theorem State.endReverse_aqp_tagCounter (i : Nat) (t : Tender) (e : ExchangeEnd) : (s.endReverse i t e).aqp.tagCounter = s.aqp.tagCounter := by simp only [State.endReverse]; (repeat' split) <;> simp
@[simp] theorem State.endReverse_aqp_discarded (i : Nat) (t : Tender) (e : ExchangeEnd) : (s.endReverse i t e).aqp.discarded = s.aqp.discarded := by simp only [State.endReverse]; (repeat' split) <;> simp
@[simp] theorem State.endReverse_apu (i : Nat) (t : Tender) (e : ExchangeEnd) : (s.endReverse i t e).apu = s.apu := by simp only [State.endReverse]; (repeat' split) <;> simp
@[simp] theorem State.endReverse_wnu_watches (i : Nat) (t : Tender) (e : ExchangeEnd) : (s.endReverse i t e).wnu.watches = s.wnu.watches := by simp only [State.endReverse]; (repeat' split) <;> simp
@[simp] theorem State.endReverse_wnu_startup (i : Nat) (t : Tender) (e : ExchangeEnd) : (s.endReverse i t e).wnu.startup = s.wnu.startup := by simp only [State.endReverse]; (repeat' split) <;> simp
@[simp] theorem State.endReverse_wnu_startKind (i : Nat) (t : Tender) (e : ExchangeEnd) : (s.endReverse i t e).wnu.startKind = s.wnu.startKind := by simp only [State.endReverse]; (repeat' split) <;> simp
@[simp] theorem State.endReverse_sst (i : Nat) (t : Tender) (e : ExchangeEnd) : (s.endReverse i t e).sst = s.sst := by simp only [State.endReverse]; (repeat' split) <;> simp
@[simp] theorem State.endReverse_fck (i : Nat) (t : Tender) (e : ExchangeEnd) : (s.endReverse i t e).fck = s.fck := by simp only [State.endReverse]; (repeat' split) <;> simp
@[simp] theorem State.endReverse_flp (i : Nat) (t : Tender) (e : ExchangeEnd) : (s.endReverse i t e).flp = s.flp := by simp only [State.endReverse]; (repeat' split) <;> simp
@[simp] theorem State.endReverse_fhp (i : Nat) (t : Tender) (e : ExchangeEnd) : (s.endReverse i t e).fhp = s.fhp := by simp only [State.endReverse]; (repeat' split) <;> simp
@[simp] theorem State.endReverse_gwp (i : Nat) (t : Tender) (e : ExchangeEnd) : (s.endReverse i t e).gwp = s.gwp := by simp only [State.endReverse]; (repeat' split) <;> simp
@[simp] theorem State.endReverse_power (i : Nat) (t : Tender) (e : ExchangeEnd) : (s.endReverse i t e).power = s.power := by simp only [State.endReverse]; (repeat' split) <;> simp
@[simp] theorem State.endReverse_due (i : Nat) (t : Tender) (e : ExchangeEnd) : (s.endReverse i t e).due = s.due := by simp only [State.endReverse]; (repeat' split) <;> simp
@[simp] theorem State.endReverse_pending (i : Nat) (t : Tender) (e : ExchangeEnd) : (s.endReverse i t e).pending = s.pending := by simp only [State.endReverse]; (repeat' split) <;> simp

end Sys2Proof.Machine
end

