-- ==== Sys2Proof/Laws/FramesHolds.lean ====
section
/-! SUPPORT. Frames of retirement, holds, approvals and releases: each field that an operation leaves alone, one simp lemma each. -/

namespace Sys2Proof.Machine

set_option Elab.async false

variable (s : State)

@[simp] theorem State.freeTender_ckt (i : Nat) : (s.freeTender i).ckt = s.ckt := by simp only [State.freeTender]; (repeat' split) <;> simp
@[simp] theorem State.freeTender_freeLines (i : Nat) : (s.freeTender i).freeLines = s.freeLines := by simp only [State.freeTender]; (repeat' split) <;> simp
@[simp] theorem State.freeTender_fmp (i : Nat) : (s.freeTender i).fmp = s.fmp := by simp only [State.freeTender]; (repeat' split) <;> simp
@[simp] theorem State.freeTender_aqp (i : Nat) : (s.freeTender i).aqp = s.aqp := by simp only [State.freeTender]; (repeat' split) <;> simp
@[simp] theorem State.freeTender_apu (i : Nat) : (s.freeTender i).apu = s.apu := by simp only [State.freeTender]; (repeat' split) <;> simp
@[simp] theorem State.freeTender_wnu_watches (i : Nat) : (s.freeTender i).wnu.watches = s.wnu.watches := by simp only [State.freeTender]; (repeat' split) <;> simp
@[simp] theorem State.freeTender_wnu_hits (i : Nat) : (s.freeTender i).wnu.hits = s.wnu.hits := by simp only [State.freeTender]; (repeat' split) <;> simp
@[simp] theorem State.freeTender_wnu_startup (i : Nat) : (s.freeTender i).wnu.startup = s.wnu.startup := by simp only [State.freeTender]; (repeat' split) <;> simp
@[simp] theorem State.freeTender_wnu_startKind (i : Nat) : (s.freeTender i).wnu.startKind = s.wnu.startKind := by simp only [State.freeTender]; (repeat' split) <;> simp
@[simp] theorem State.freeTender_wnu_pushes (i : Nat) : (s.freeTender i).wnu.pushes = s.wnu.pushes := by simp only [State.freeTender]; (repeat' split) <;> simp
@[simp] theorem State.freeTender_sst (i : Nat) : (s.freeTender i).sst = s.sst := by simp only [State.freeTender]; (repeat' split) <;> simp
@[simp] theorem State.freeTender_fck (i : Nat) : (s.freeTender i).fck = s.fck := by simp only [State.freeTender]; (repeat' split) <;> simp
@[simp] theorem State.freeTender_flp (i : Nat) : (s.freeTender i).flp = s.flp := by simp only [State.freeTender]; (repeat' split) <;> simp
@[simp] theorem State.freeTender_fhp (i : Nat) : (s.freeTender i).fhp = s.fhp := by simp only [State.freeTender]; (repeat' split) <;> simp
@[simp] theorem State.freeTender_gwp (i : Nat) : (s.freeTender i).gwp = s.gwp := by simp only [State.freeTender]; (repeat' split) <;> simp
@[simp] theorem State.freeTender_power (i : Nat) : (s.freeTender i).power = s.power := by simp only [State.freeTender]; (repeat' split) <;> simp
@[simp] theorem State.freeTender_due (i : Nat) : (s.freeTender i).due = s.due := by simp only [State.freeTender]; (repeat' split) <;> simp
@[simp] theorem State.freeTender_pending (i : Nat) : (s.freeTender i).pending = s.pending := by simp only [State.freeTender]; (repeat' split) <;> simp

@[simp] theorem State.discardApproval_ckt (slot n : Nat) : (s.discardApproval slot n).ckt = s.ckt := by unfold State.discardApproval; split <;> simp
@[simp] theorem State.discardApproval_freeLines (slot n : Nat) : (s.discardApproval slot n).freeLines = s.freeLines := by unfold State.discardApproval; split <;> simp
@[simp] theorem State.discardApproval_tdu (slot n : Nat) : (s.discardApproval slot n).tdu = s.tdu := by unfold State.discardApproval; split <;> simp
@[simp] theorem State.discardApproval_fmp (slot n : Nat) : (s.discardApproval slot n).fmp = s.fmp := by unfold State.discardApproval; split <;> simp
@[simp] theorem State.discardApproval_aqp (slot n : Nat) : (s.discardApproval slot n).aqp = s.aqp := by unfold State.discardApproval; split <;> simp
@[simp] theorem State.discardApproval_apu_counter (slot n : Nat) : (s.discardApproval slot n).apu.counter = s.apu.counter := by unfold State.discardApproval; split <;> simp
@[simp] theorem State.discardApproval_wnu_watches (slot n : Nat) : (s.discardApproval slot n).wnu.watches = s.wnu.watches := by unfold State.discardApproval; split <;> simp
@[simp] theorem State.discardApproval_wnu_hits (slot n : Nat) : (s.discardApproval slot n).wnu.hits = s.wnu.hits := by unfold State.discardApproval; split <;> simp
@[simp] theorem State.discardApproval_wnu_pendCounts (slot n : Nat) : (s.discardApproval slot n).wnu.pendCounts = s.wnu.pendCounts := by unfold State.discardApproval; split <;> simp
@[simp] theorem State.discardApproval_wnu_startup (slot n : Nat) : (s.discardApproval slot n).wnu.startup = s.wnu.startup := by unfold State.discardApproval; split <;> simp
@[simp] theorem State.discardApproval_wnu_startKind (slot n : Nat) : (s.discardApproval slot n).wnu.startKind = s.wnu.startKind := by unfold State.discardApproval; split <;> simp
@[simp] theorem State.discardApproval_sst (slot n : Nat) : (s.discardApproval slot n).sst = s.sst := by unfold State.discardApproval; split <;> simp
@[simp] theorem State.discardApproval_fck (slot n : Nat) : (s.discardApproval slot n).fck = s.fck := by unfold State.discardApproval; split <;> simp
@[simp] theorem State.discardApproval_flp (slot n : Nat) : (s.discardApproval slot n).flp = s.flp := by unfold State.discardApproval; split <;> simp
@[simp] theorem State.discardApproval_fhp (slot n : Nat) : (s.discardApproval slot n).fhp = s.fhp := by unfold State.discardApproval; split <;> simp
@[simp] theorem State.discardApproval_gwp (slot n : Nat) : (s.discardApproval slot n).gwp = s.gwp := by unfold State.discardApproval; split <;> simp
@[simp] theorem State.discardApproval_power (slot n : Nat) : (s.discardApproval slot n).power = s.power := by unfold State.discardApproval; split <;> simp
@[simp] theorem State.discardApproval_due (slot n : Nat) : (s.discardApproval slot n).due = s.due := by unfold State.discardApproval; split <;> simp
@[simp] theorem State.discardApproval_pending (slot n : Nat) : (s.discardApproval slot n).pending = s.pending := by unfold State.discardApproval; split <;> simp

@[simp] theorem State.retire_ckt_nextNumber (slot : Nat) : (s.retire slot).ckt.nextNumber = s.ckt.nextNumber := by
  simp only [State.retire]; (repeat' split) <;> simp [foldl_keeps (fun s : State => s.ckt.nextNumber)]
@[simp] theorem State.retire_fmp_present (slot : Nat) : (s.retire slot).fmp.present = s.fmp.present := by
  simp only [State.retire]; (repeat' split) <;> simp [foldl_keeps (fun s : State => s.fmp.present)]
@[simp] theorem State.retire_fmp_lastHeard (slot : Nat) : (s.retire slot).fmp.lastHeard = s.fmp.lastHeard := by
  simp only [State.retire]; (repeat' split) <;> simp [foldl_keeps (fun s : State => s.fmp.lastHeard)]
@[simp] theorem State.retire_aqp (slot : Nat) : (s.retire slot).aqp = s.aqp := by
  simp only [State.retire]; (repeat' split) <;> simp [foldl_keeps (fun s : State => s.aqp)]
@[simp] theorem State.retire_apu_counter (slot : Nat) : (s.retire slot).apu.counter = s.apu.counter := by
  simp only [State.retire]; (repeat' split) <;> simp [foldl_keeps (fun s : State => s.apu.counter)]
@[simp] theorem State.retire_wnu_startup (slot : Nat) : (s.retire slot).wnu.startup = s.wnu.startup := by
  simp only [State.retire]; (repeat' split) <;> simp [foldl_keeps (fun s : State => s.wnu.startup)]
@[simp] theorem State.retire_wnu_startKind (slot : Nat) : (s.retire slot).wnu.startKind = s.wnu.startKind := by
  simp only [State.retire]; (repeat' split) <;> simp [foldl_keeps (fun s : State => s.wnu.startKind)]
@[simp] theorem State.retire_sst (slot : Nat) : (s.retire slot).sst = s.sst := by
  simp only [State.retire]; (repeat' split) <;> simp [foldl_keeps (fun s : State => s.sst)]
@[simp] theorem State.retire_fck (slot : Nat) : (s.retire slot).fck = s.fck := by
  simp only [State.retire]; (repeat' split) <;> simp [foldl_keeps (fun s : State => s.fck)]
@[simp] theorem State.retire_flp (slot : Nat) : (s.retire slot).flp = s.flp := by
  simp only [State.retire]; (repeat' split) <;> simp [foldl_keeps (fun s : State => s.flp)]
@[simp] theorem State.retire_fhp (slot : Nat) : (s.retire slot).fhp = s.fhp := by
  simp only [State.retire]; (repeat' split) <;> simp [foldl_keeps (fun s : State => s.fhp)]
@[simp] theorem State.retire_gwp (slot : Nat) : (s.retire slot).gwp = s.gwp := by
  simp only [State.retire]; (repeat' split) <;> simp [foldl_keeps (fun s : State => s.gwp)]
@[simp] theorem State.retire_power (slot : Nat) : (s.retire slot).power = s.power := by
  simp only [State.retire]; (repeat' split) <;> simp [foldl_keeps (fun s : State => s.power)]
@[simp] theorem State.retire_due_exchanges (slot : Nat) : (s.retire slot).due.exchanges = s.due.exchanges := by
  simp only [State.retire]; (repeat' split) <;> simp [foldl_keeps (fun s : State => s.due.exchanges)]
@[simp] theorem State.retire_due_leases (slot : Nat) : (s.retire slot).due.leases = s.due.leases := by
  simp only [State.retire]; (repeat' split) <;> simp [foldl_keeps (fun s : State => s.due.leases)]
@[simp] theorem State.retire_due_approvals (slot : Nat) : (s.retire slot).due.approvals = s.due.approvals := by
  simp only [State.retire]; (repeat' split) <;> simp [foldl_keeps (fun s : State => s.due.approvals)]
@[simp] theorem State.retire_due_silences (slot : Nat) : (s.retire slot).due.silences = s.due.silences := by
  simp only [State.retire]; (repeat' split) <;> simp [foldl_keeps (fun s : State => s.due.silences)]
@[simp] theorem State.retire_pending (slot : Nat) : (s.retire slot).pending = s.pending := by
  simp only [State.retire]; (repeat' split) <;> simp [foldl_keeps (fun s : State => s.pending)]

@[simp] theorem State.closeStep_ckt_nextNumber (slot : Nat) : (s.closeStep slot).ckt.nextNumber = s.ckt.nextNumber := by simp only [State.closeStep]; (repeat' split) <;> simp
@[simp] theorem State.closeStep_fmp_present (slot : Nat) : (s.closeStep slot).fmp.present = s.fmp.present := by simp only [State.closeStep]; (repeat' split) <;> simp
@[simp] theorem State.closeStep_fmp_lastHeard (slot : Nat) : (s.closeStep slot).fmp.lastHeard = s.fmp.lastHeard := by simp only [State.closeStep]; (repeat' split) <;> simp
@[simp] theorem State.closeStep_aqp (slot : Nat) : (s.closeStep slot).aqp = s.aqp := by simp only [State.closeStep]; (repeat' split) <;> simp
@[simp] theorem State.closeStep_apu_counter (slot : Nat) : (s.closeStep slot).apu.counter = s.apu.counter := by simp only [State.closeStep]; (repeat' split) <;> simp
@[simp] theorem State.closeStep_wnu_startup (slot : Nat) : (s.closeStep slot).wnu.startup = s.wnu.startup := by simp only [State.closeStep]; (repeat' split) <;> simp
@[simp] theorem State.closeStep_wnu_startKind (slot : Nat) : (s.closeStep slot).wnu.startKind = s.wnu.startKind := by simp only [State.closeStep]; (repeat' split) <;> simp
@[simp] theorem State.closeStep_sst (slot : Nat) : (s.closeStep slot).sst = s.sst := by simp only [State.closeStep]; (repeat' split) <;> simp
@[simp] theorem State.closeStep_fck (slot : Nat) : (s.closeStep slot).fck = s.fck := by simp only [State.closeStep]; (repeat' split) <;> simp
@[simp] theorem State.closeStep_flp (slot : Nat) : (s.closeStep slot).flp = s.flp := by simp only [State.closeStep]; (repeat' split) <;> simp
@[simp] theorem State.closeStep_fhp (slot : Nat) : (s.closeStep slot).fhp = s.fhp := by simp only [State.closeStep]; (repeat' split) <;> simp
@[simp] theorem State.closeStep_gwp (slot : Nat) : (s.closeStep slot).gwp = s.gwp := by simp only [State.closeStep]; (repeat' split) <;> simp
@[simp] theorem State.closeStep_power (slot : Nat) : (s.closeStep slot).power = s.power := by simp only [State.closeStep]; (repeat' split) <;> simp
@[simp] theorem State.closeStep_due_exchanges (slot : Nat) : (s.closeStep slot).due.exchanges = s.due.exchanges := by simp only [State.closeStep]; (repeat' split) <;> simp
@[simp] theorem State.closeStep_due_leases (slot : Nat) : (s.closeStep slot).due.leases = s.due.leases := by simp only [State.closeStep]; (repeat' split) <;> simp
@[simp] theorem State.closeStep_due_approvals (slot : Nat) : (s.closeStep slot).due.approvals = s.due.approvals := by simp only [State.closeStep]; (repeat' split) <;> simp
@[simp] theorem State.closeStep_due_silences (slot : Nat) : (s.closeStep slot).due.silences = s.due.silences := by simp only [State.closeStep]; (repeat' split) <;> simp
@[simp] theorem State.closeStep_pending (slot : Nat) : (s.closeStep slot).pending = s.pending := by simp only [State.closeStep]; (repeat' split) <;> simp

@[simp] theorem State.endCapture_ckt_nextNumber (i : Nat) (t : Tender) (e : ExchangeEnd) : (s.endCapture i t e).ckt.nextNumber = s.ckt.nextNumber := by simp [State.endCapture]
@[simp] theorem State.endCapture_fmp_present (i : Nat) (t : Tender) (e : ExchangeEnd) : (s.endCapture i t e).fmp.present = s.fmp.present := by simp [State.endCapture]
@[simp] theorem State.endCapture_fmp_lastHeard (i : Nat) (t : Tender) (e : ExchangeEnd) : (s.endCapture i t e).fmp.lastHeard = s.fmp.lastHeard := by simp [State.endCapture]
@[simp] theorem State.endCapture_aqp (i : Nat) (t : Tender) (e : ExchangeEnd) : (s.endCapture i t e).aqp = s.aqp := by simp [State.endCapture]
@[simp] theorem State.endCapture_apu_counter (i : Nat) (t : Tender) (e : ExchangeEnd) : (s.endCapture i t e).apu.counter = s.apu.counter := by simp [State.endCapture]
@[simp] theorem State.endCapture_wnu_startup (i : Nat) (t : Tender) (e : ExchangeEnd) : (s.endCapture i t e).wnu.startup = s.wnu.startup := by simp [State.endCapture]
@[simp] theorem State.endCapture_wnu_startKind (i : Nat) (t : Tender) (e : ExchangeEnd) : (s.endCapture i t e).wnu.startKind = s.wnu.startKind := by simp [State.endCapture]
@[simp] theorem State.endCapture_sst (i : Nat) (t : Tender) (e : ExchangeEnd) : (s.endCapture i t e).sst = s.sst := by simp [State.endCapture]
@[simp] theorem State.endCapture_fck (i : Nat) (t : Tender) (e : ExchangeEnd) : (s.endCapture i t e).fck = s.fck := by simp [State.endCapture]
@[simp] theorem State.endCapture_flp (i : Nat) (t : Tender) (e : ExchangeEnd) : (s.endCapture i t e).flp = s.flp := by simp [State.endCapture]
@[simp] theorem State.endCapture_fhp (i : Nat) (t : Tender) (e : ExchangeEnd) : (s.endCapture i t e).fhp = s.fhp := by simp [State.endCapture]
@[simp] theorem State.endCapture_gwp (i : Nat) (t : Tender) (e : ExchangeEnd) : (s.endCapture i t e).gwp = s.gwp := by simp [State.endCapture]
@[simp] theorem State.endCapture_power (i : Nat) (t : Tender) (e : ExchangeEnd) : (s.endCapture i t e).power = s.power := by simp [State.endCapture]
@[simp] theorem State.endCapture_due_exchanges (i : Nat) (t : Tender) (e : ExchangeEnd) : (s.endCapture i t e).due.exchanges = s.due.exchanges := by simp [State.endCapture]
@[simp] theorem State.endCapture_due_leases (i : Nat) (t : Tender) (e : ExchangeEnd) : (s.endCapture i t e).due.leases = s.due.leases := by simp [State.endCapture]
@[simp] theorem State.endCapture_due_approvals (i : Nat) (t : Tender) (e : ExchangeEnd) : (s.endCapture i t e).due.approvals = s.due.approvals := by simp [State.endCapture]
@[simp] theorem State.endCapture_due_silences (i : Nat) (t : Tender) (e : ExchangeEnd) : (s.endCapture i t e).due.silences = s.due.silences := by simp [State.endCapture]
@[simp] theorem State.endCapture_pending (i : Nat) (t : Tender) (e : ExchangeEnd) : (s.endCapture i t e).pending = s.pending := by simp [State.endCapture]

@[simp] theorem State.endExchange_ckt_nextNumber (k : NeedKind) (i : Nat) (e : ExchangeEnd) : (s.endExchange k i e).ckt.nextNumber = s.ckt.nextNumber := by simp only [State.endExchange]; (repeat' split) <;> simp
@[simp] theorem State.endExchange_fmp_present (k : NeedKind) (i : Nat) (e : ExchangeEnd) : (s.endExchange k i e).fmp.present = s.fmp.present := by simp only [State.endExchange]; (repeat' split) <;> simp
@[simp] theorem State.endExchange_fmp_lastHeard (k : NeedKind) (i : Nat) (e : ExchangeEnd) : (s.endExchange k i e).fmp.lastHeard = s.fmp.lastHeard := by simp only [State.endExchange]; (repeat' split) <;> simp
@[simp] theorem State.endExchange_aqp_linkOk (k : NeedKind) (i : Nat) (e : ExchangeEnd) : (s.endExchange k i e).aqp.linkOk = s.aqp.linkOk := by simp only [State.endExchange]; (repeat' split) <;> simp
@[simp] theorem State.endExchange_aqp_link (k : NeedKind) (i : Nat) (e : ExchangeEnd) : (s.endExchange k i e).aqp.link = s.aqp.link := by simp only [State.endExchange]; (repeat' split) <;> simp
@[simp] theorem State.endExchange_aqp_timeouts (k : NeedKind) (i : Nat) (e : ExchangeEnd) : (s.endExchange k i e).aqp.timeouts = s.aqp.timeouts := by simp only [State.endExchange]; (repeat' split) <;> simp
@[simp] theorem State.endExchange_aqp_entries (k : NeedKind) (i : Nat) (e : ExchangeEnd) : (s.endExchange k i e).aqp.entries = s.aqp.entries := by simp only [State.endExchange]; (repeat' split) <;> simp
@[simp] theorem State.endExchange_aqp_tagCounter (k : NeedKind) (i : Nat) (e : ExchangeEnd) : (s.endExchange k i e).aqp.tagCounter = s.aqp.tagCounter := by simp only [State.endExchange]; (repeat' split) <;> simp
@[simp] theorem State.endExchange_aqp_discarded (k : NeedKind) (i : Nat) (e : ExchangeEnd) : (s.endExchange k i e).aqp.discarded = s.aqp.discarded := by simp only [State.endExchange]; (repeat' split) <;> simp
@[simp] theorem State.endExchange_apu_counter (k : NeedKind) (i : Nat) (e : ExchangeEnd) : (s.endExchange k i e).apu.counter = s.apu.counter := by simp only [State.endExchange]; (repeat' split) <;> simp
@[simp] theorem State.endExchange_wnu_startup (k : NeedKind) (i : Nat) (e : ExchangeEnd) : (s.endExchange k i e).wnu.startup = s.wnu.startup := by simp only [State.endExchange]; (repeat' split) <;> simp
@[simp] theorem State.endExchange_wnu_startKind (k : NeedKind) (i : Nat) (e : ExchangeEnd) : (s.endExchange k i e).wnu.startKind = s.wnu.startKind := by simp only [State.endExchange]; (repeat' split) <;> simp
@[simp] theorem State.endExchange_sst (k : NeedKind) (i : Nat) (e : ExchangeEnd) : (s.endExchange k i e).sst = s.sst := by simp only [State.endExchange]; (repeat' split) <;> simp
@[simp] theorem State.endExchange_fck (k : NeedKind) (i : Nat) (e : ExchangeEnd) : (s.endExchange k i e).fck = s.fck := by simp only [State.endExchange]; (repeat' split) <;> simp
@[simp] theorem State.endExchange_flp (k : NeedKind) (i : Nat) (e : ExchangeEnd) : (s.endExchange k i e).flp = s.flp := by simp only [State.endExchange]; (repeat' split) <;> simp
@[simp] theorem State.endExchange_fhp (k : NeedKind) (i : Nat) (e : ExchangeEnd) : (s.endExchange k i e).fhp = s.fhp := by simp only [State.endExchange]; (repeat' split) <;> simp
@[simp] theorem State.endExchange_gwp (k : NeedKind) (i : Nat) (e : ExchangeEnd) : (s.endExchange k i e).gwp = s.gwp := by simp only [State.endExchange]; (repeat' split) <;> simp
@[simp] theorem State.endExchange_power (k : NeedKind) (i : Nat) (e : ExchangeEnd) : (s.endExchange k i e).power = s.power := by simp only [State.endExchange]; (repeat' split) <;> simp
@[simp] theorem State.endExchange_due_exchanges (k : NeedKind) (i : Nat) (e : ExchangeEnd) : (s.endExchange k i e).due.exchanges = s.due.exchanges := by simp only [State.endExchange]; (repeat' split) <;> simp
@[simp] theorem State.endExchange_due_leases (k : NeedKind) (i : Nat) (e : ExchangeEnd) : (s.endExchange k i e).due.leases = s.due.leases := by simp only [State.endExchange]; (repeat' split) <;> simp
@[simp] theorem State.endExchange_due_approvals (k : NeedKind) (i : Nat) (e : ExchangeEnd) : (s.endExchange k i e).due.approvals = s.due.approvals := by simp only [State.endExchange]; (repeat' split) <;> simp
@[simp] theorem State.endExchange_due_silences (k : NeedKind) (i : Nat) (e : ExchangeEnd) : (s.endExchange k i e).due.silences = s.due.silences := by simp only [State.endExchange]; (repeat' split) <;> simp
@[simp] theorem State.endExchange_pending (k : NeedKind) (i : Nat) (e : ExchangeEnd) : (s.endExchange k i e).pending = s.pending := by simp only [State.endExchange]; (repeat' split) <;> simp

@[simp] theorem State.completeNoLink_ckt_nextNumber (n : Need) : (s.completeNoLink n).ckt.nextNumber = s.ckt.nextNumber := by simp [State.completeNoLink]
@[simp] theorem State.completeNoLink_fmp_present (n : Need) : (s.completeNoLink n).fmp.present = s.fmp.present := by simp [State.completeNoLink]
@[simp] theorem State.completeNoLink_fmp_lastHeard (n : Need) : (s.completeNoLink n).fmp.lastHeard = s.fmp.lastHeard := by simp [State.completeNoLink]
@[simp] theorem State.completeNoLink_aqp_linkOk (n : Need) : (s.completeNoLink n).aqp.linkOk = s.aqp.linkOk := by simp [State.completeNoLink]
@[simp] theorem State.completeNoLink_aqp_link (n : Need) : (s.completeNoLink n).aqp.link = s.aqp.link := by simp [State.completeNoLink]
@[simp] theorem State.completeNoLink_aqp_timeouts (n : Need) : (s.completeNoLink n).aqp.timeouts = s.aqp.timeouts := by simp [State.completeNoLink]
@[simp] theorem State.completeNoLink_aqp_entries (n : Need) : (s.completeNoLink n).aqp.entries = s.aqp.entries := by simp [State.completeNoLink]
@[simp] theorem State.completeNoLink_aqp_tagCounter (n : Need) : (s.completeNoLink n).aqp.tagCounter = s.aqp.tagCounter := by simp [State.completeNoLink]
@[simp] theorem State.completeNoLink_aqp_discarded (n : Need) : (s.completeNoLink n).aqp.discarded = s.aqp.discarded := by simp [State.completeNoLink]
@[simp] theorem State.completeNoLink_apu_counter (n : Need) : (s.completeNoLink n).apu.counter = s.apu.counter := by simp [State.completeNoLink]
@[simp] theorem State.completeNoLink_wnu_startup (n : Need) : (s.completeNoLink n).wnu.startup = s.wnu.startup := by simp [State.completeNoLink]
@[simp] theorem State.completeNoLink_wnu_startKind (n : Need) : (s.completeNoLink n).wnu.startKind = s.wnu.startKind := by simp [State.completeNoLink]
@[simp] theorem State.completeNoLink_sst (n : Need) : (s.completeNoLink n).sst = s.sst := by simp [State.completeNoLink]
@[simp] theorem State.completeNoLink_fck (n : Need) : (s.completeNoLink n).fck = s.fck := by simp [State.completeNoLink]
@[simp] theorem State.completeNoLink_flp (n : Need) : (s.completeNoLink n).flp = s.flp := by simp [State.completeNoLink]
@[simp] theorem State.completeNoLink_fhp (n : Need) : (s.completeNoLink n).fhp = s.fhp := by simp [State.completeNoLink]
@[simp] theorem State.completeNoLink_gwp (n : Need) : (s.completeNoLink n).gwp = s.gwp := by simp [State.completeNoLink]
@[simp] theorem State.completeNoLink_power (n : Need) : (s.completeNoLink n).power = s.power := by simp [State.completeNoLink]
@[simp] theorem State.completeNoLink_due_exchanges (n : Need) : (s.completeNoLink n).due.exchanges = s.due.exchanges := by simp [State.completeNoLink]
@[simp] theorem State.completeNoLink_due_leases (n : Need) : (s.completeNoLink n).due.leases = s.due.leases := by simp [State.completeNoLink]
@[simp] theorem State.completeNoLink_due_approvals (n : Need) : (s.completeNoLink n).due.approvals = s.due.approvals := by simp [State.completeNoLink]
@[simp] theorem State.completeNoLink_due_silences (n : Need) : (s.completeNoLink n).due.silences = s.due.silences := by simp [State.completeNoLink]
@[simp] theorem State.completeNoLink_pending (n : Need) : (s.completeNoLink n).pending = s.pending := by simp [State.completeNoLink]

@[simp] theorem State.withdraw_ckt_nextNumber (i : Nat) : (s.withdraw i).ckt.nextNumber = s.ckt.nextNumber := by simp only [State.withdraw]; (repeat' split) <;> simp
@[simp] theorem State.withdraw_freeLines (i : Nat) : (s.withdraw i).freeLines = s.freeLines := by simp only [State.withdraw]; (repeat' split) <;> simp
@[simp] theorem State.withdraw_tdu_pendingList (i : Nat) : (s.withdraw i).tdu.pendingList = s.tdu.pendingList := by simp only [State.withdraw]; (repeat' split) <;> simp
@[simp] theorem State.withdraw_fmp (i : Nat) : (s.withdraw i).fmp = s.fmp := by simp only [State.withdraw]; (repeat' split) <;> simp
@[simp] theorem State.withdraw_aqp_linkOk (i : Nat) : (s.withdraw i).aqp.linkOk = s.aqp.linkOk := by simp only [State.withdraw]; (repeat' split) <;> simp
@[simp] theorem State.withdraw_aqp_link (i : Nat) : (s.withdraw i).aqp.link = s.aqp.link := by simp only [State.withdraw]; (repeat' split) <;> simp
@[simp] theorem State.withdraw_aqp_timeouts (i : Nat) : (s.withdraw i).aqp.timeouts = s.aqp.timeouts := by simp only [State.withdraw]; (repeat' split) <;> simp
@[simp] theorem State.withdraw_aqp_entries (i : Nat) : (s.withdraw i).aqp.entries = s.aqp.entries := by simp only [State.withdraw]; (repeat' split) <;> simp
@[simp] theorem State.withdraw_aqp_tagCounter (i : Nat) : (s.withdraw i).aqp.tagCounter = s.aqp.tagCounter := by simp only [State.withdraw]; (repeat' split) <;> simp
@[simp] theorem State.withdraw_aqp_discarded (i : Nat) : (s.withdraw i).aqp.discarded = s.aqp.discarded := by simp only [State.withdraw]; (repeat' split) <;> simp
@[simp] theorem State.withdraw_apu (i : Nat) : (s.withdraw i).apu = s.apu := by simp only [State.withdraw]; (repeat' split) <;> simp
@[simp] theorem State.withdraw_wnu_watches (i : Nat) : (s.withdraw i).wnu.watches = s.wnu.watches := by simp only [State.withdraw]; (repeat' split) <;> simp
@[simp] theorem State.withdraw_wnu_pendCounts (i : Nat) : (s.withdraw i).wnu.pendCounts = s.wnu.pendCounts := by simp only [State.withdraw]; (repeat' split) <;> simp
@[simp] theorem State.withdraw_wnu_startup (i : Nat) : (s.withdraw i).wnu.startup = s.wnu.startup := by simp only [State.withdraw]; (repeat' split) <;> simp
@[simp] theorem State.withdraw_wnu_startKind (i : Nat) : (s.withdraw i).wnu.startKind = s.wnu.startKind := by simp only [State.withdraw]; (repeat' split) <;> simp
@[simp] theorem State.withdraw_sst (i : Nat) : (s.withdraw i).sst = s.sst := by simp only [State.withdraw]; (repeat' split) <;> simp
@[simp] theorem State.withdraw_fck (i : Nat) : (s.withdraw i).fck = s.fck := by simp only [State.withdraw]; (repeat' split) <;> simp
@[simp] theorem State.withdraw_flp (i : Nat) : (s.withdraw i).flp = s.flp := by simp only [State.withdraw]; (repeat' split) <;> simp
@[simp] theorem State.withdraw_fhp (i : Nat) : (s.withdraw i).fhp = s.fhp := by simp only [State.withdraw]; (repeat' split) <;> simp
@[simp] theorem State.withdraw_gwp (i : Nat) : (s.withdraw i).gwp = s.gwp := by simp only [State.withdraw]; (repeat' split) <;> simp
@[simp] theorem State.withdraw_power (i : Nat) : (s.withdraw i).power = s.power := by simp only [State.withdraw]; (repeat' split) <;> simp
@[simp] theorem State.withdraw_due (i : Nat) : (s.withdraw i).due = s.due := by simp only [State.withdraw]; (repeat' split) <;> simp
@[simp] theorem State.withdraw_pending (i : Nat) : (s.withdraw i).pending = s.pending := by simp only [State.withdraw]; (repeat' split) <;> simp

@[simp] theorem State.expireLease_ckt_nextNumber (i : Nat) : (s.expireLease i).ckt.nextNumber = s.ckt.nextNumber := by simp [State.expireLease]
@[simp] theorem State.expireLease_freeLines (i : Nat) : (s.expireLease i).freeLines = s.freeLines := by simp [State.expireLease]
@[simp] theorem State.expireLease_fmp (i : Nat) : (s.expireLease i).fmp = s.fmp := by simp [State.expireLease]
@[simp] theorem State.expireLease_aqp (i : Nat) : (s.expireLease i).aqp = s.aqp := by simp [State.expireLease]
@[simp] theorem State.expireLease_apu (i : Nat) : (s.expireLease i).apu = s.apu := by simp [State.expireLease]
@[simp] theorem State.expireLease_wnu_watches (i : Nat) : (s.expireLease i).wnu.watches = s.wnu.watches := by simp [State.expireLease]
@[simp] theorem State.expireLease_wnu_startup (i : Nat) : (s.expireLease i).wnu.startup = s.wnu.startup := by simp [State.expireLease]
@[simp] theorem State.expireLease_wnu_startKind (i : Nat) : (s.expireLease i).wnu.startKind = s.wnu.startKind := by simp [State.expireLease]
@[simp] theorem State.expireLease_sst (i : Nat) : (s.expireLease i).sst = s.sst := by simp [State.expireLease]
@[simp] theorem State.expireLease_fck (i : Nat) : (s.expireLease i).fck = s.fck := by simp [State.expireLease]
@[simp] theorem State.expireLease_flp (i : Nat) : (s.expireLease i).flp = s.flp := by simp [State.expireLease]
@[simp] theorem State.expireLease_fhp (i : Nat) : (s.expireLease i).fhp = s.fhp := by simp [State.expireLease]
@[simp] theorem State.expireLease_gwp (i : Nat) : (s.expireLease i).gwp = s.gwp := by simp [State.expireLease]
@[simp] theorem State.expireLease_power (i : Nat) : (s.expireLease i).power = s.power := by simp [State.expireLease]
@[simp] theorem State.expireLease_due (i : Nat) : (s.expireLease i).due = s.due := by simp [State.expireLease]
@[simp] theorem State.expireLease_pending (i : Nat) : (s.expireLease i).pending = s.pending := by simp [State.expireLease]

@[simp] theorem State.addHold_ckt_nextNumber (slot : Nat) (r : HoldReason) : (s.addHold slot r).ckt.nextNumber = s.ckt.nextNumber := by simp only [State.addHold]; (repeat' split) <;> simp
@[simp] theorem State.addHold_freeLines (slot : Nat) (r : HoldReason) : (s.addHold slot r).freeLines = s.freeLines := by simp only [State.addHold]; (repeat' split) <;> simp
@[simp] theorem State.addHold_tdu_pendingList (slot : Nat) (r : HoldReason) : (s.addHold slot r).tdu.pendingList = s.tdu.pendingList := by simp only [State.addHold]; (repeat' split) <;> simp
@[simp] theorem State.addHold_fmp (slot : Nat) (r : HoldReason) : (s.addHold slot r).fmp = s.fmp := by simp only [State.addHold]; (repeat' split) <;> simp
@[simp] theorem State.addHold_aqp (slot : Nat) (r : HoldReason) : (s.addHold slot r).aqp = s.aqp := by simp only [State.addHold]; (repeat' split) <;> simp
@[simp] theorem State.addHold_apu (slot : Nat) (r : HoldReason) : (s.addHold slot r).apu = s.apu := by simp only [State.addHold]; (repeat' split) <;> simp
@[simp] theorem State.addHold_wnu_watches (slot : Nat) (r : HoldReason) : (s.addHold slot r).wnu.watches = s.wnu.watches := by simp only [State.addHold]; (repeat' split) <;> simp
@[simp] theorem State.addHold_wnu_pendCounts (slot : Nat) (r : HoldReason) : (s.addHold slot r).wnu.pendCounts = s.wnu.pendCounts := by simp only [State.addHold]; (repeat' split) <;> simp
@[simp] theorem State.addHold_wnu_startup (slot : Nat) (r : HoldReason) : (s.addHold slot r).wnu.startup = s.wnu.startup := by simp only [State.addHold]; (repeat' split) <;> simp
@[simp] theorem State.addHold_wnu_startKind (slot : Nat) (r : HoldReason) : (s.addHold slot r).wnu.startKind = s.wnu.startKind := by simp only [State.addHold]; (repeat' split) <;> simp
@[simp] theorem State.addHold_sst (slot : Nat) (r : HoldReason) : (s.addHold slot r).sst = s.sst := by simp only [State.addHold]; (repeat' split) <;> simp
@[simp] theorem State.addHold_fck (slot : Nat) (r : HoldReason) : (s.addHold slot r).fck = s.fck := by simp only [State.addHold]; (repeat' split) <;> simp
@[simp] theorem State.addHold_flp (slot : Nat) (r : HoldReason) : (s.addHold slot r).flp = s.flp := by simp only [State.addHold]; (repeat' split) <;> simp
@[simp] theorem State.addHold_fhp (slot : Nat) (r : HoldReason) : (s.addHold slot r).fhp = s.fhp := by simp only [State.addHold]; (repeat' split) <;> simp
@[simp] theorem State.addHold_gwp (slot : Nat) (r : HoldReason) : (s.addHold slot r).gwp = s.gwp := by simp only [State.addHold]; (repeat' split) <;> simp
@[simp] theorem State.addHold_power (slot : Nat) (r : HoldReason) : (s.addHold slot r).power = s.power := by simp only [State.addHold]; (repeat' split) <;> simp
@[simp] theorem State.addHold_due (slot : Nat) (r : HoldReason) : (s.addHold slot r).due = s.due := by simp only [State.addHold]; (repeat' split) <;> simp
@[simp] theorem State.addHold_pending (slot : Nat) (r : HoldReason) : (s.addHold slot r).pending = s.pending := by simp only [State.addHold]; (repeat' split) <;> simp

@[simp] theorem State.actDeferred_ckt_nextNumber (i : Nat) : (s.actDeferred i).ckt.nextNumber = s.ckt.nextNumber := by simp only [State.actDeferred]; (repeat' split) <;> simp
@[simp] theorem State.actDeferred_freeLines (i : Nat) : (s.actDeferred i).freeLines = s.freeLines := by simp only [State.actDeferred]; (repeat' split) <;> simp
@[simp] theorem State.actDeferred_tdu_pendingList (i : Nat) : (s.actDeferred i).tdu.pendingList = s.tdu.pendingList := by simp only [State.actDeferred]; (repeat' split) <;> simp
@[simp] theorem State.actDeferred_fmp (i : Nat) : (s.actDeferred i).fmp = s.fmp := by simp only [State.actDeferred]; (repeat' split) <;> simp
@[simp] theorem State.actDeferred_aqp_linkOk (i : Nat) : (s.actDeferred i).aqp.linkOk = s.aqp.linkOk := by simp only [State.actDeferred]; (repeat' split) <;> simp
@[simp] theorem State.actDeferred_aqp_link (i : Nat) : (s.actDeferred i).aqp.link = s.aqp.link := by simp only [State.actDeferred]; (repeat' split) <;> simp
@[simp] theorem State.actDeferred_aqp_timeouts (i : Nat) : (s.actDeferred i).aqp.timeouts = s.aqp.timeouts := by simp only [State.actDeferred]; (repeat' split) <;> simp
@[simp] theorem State.actDeferred_aqp_entries (i : Nat) : (s.actDeferred i).aqp.entries = s.aqp.entries := by simp only [State.actDeferred]; (repeat' split) <;> simp
@[simp] theorem State.actDeferred_aqp_tagCounter (i : Nat) : (s.actDeferred i).aqp.tagCounter = s.aqp.tagCounter := by simp only [State.actDeferred]; (repeat' split) <;> simp
@[simp] theorem State.actDeferred_aqp_discarded (i : Nat) : (s.actDeferred i).aqp.discarded = s.aqp.discarded := by simp only [State.actDeferred]; (repeat' split) <;> simp
@[simp] theorem State.actDeferred_apu (i : Nat) : (s.actDeferred i).apu = s.apu := by simp only [State.actDeferred]; (repeat' split) <;> simp
@[simp] theorem State.actDeferred_wnu_watches (i : Nat) : (s.actDeferred i).wnu.watches = s.wnu.watches := by simp only [State.actDeferred]; (repeat' split) <;> simp
@[simp] theorem State.actDeferred_wnu_pendCounts (i : Nat) : (s.actDeferred i).wnu.pendCounts = s.wnu.pendCounts := by simp only [State.actDeferred]; (repeat' split) <;> simp
@[simp] theorem State.actDeferred_wnu_startup (i : Nat) : (s.actDeferred i).wnu.startup = s.wnu.startup := by simp only [State.actDeferred]; (repeat' split) <;> simp
@[simp] theorem State.actDeferred_wnu_startKind (i : Nat) : (s.actDeferred i).wnu.startKind = s.wnu.startKind := by simp only [State.actDeferred]; (repeat' split) <;> simp
@[simp] theorem State.actDeferred_sst (i : Nat) : (s.actDeferred i).sst = s.sst := by simp only [State.actDeferred]; (repeat' split) <;> simp
@[simp] theorem State.actDeferred_fck (i : Nat) : (s.actDeferred i).fck = s.fck := by simp only [State.actDeferred]; (repeat' split) <;> simp
@[simp] theorem State.actDeferred_flp (i : Nat) : (s.actDeferred i).flp = s.flp := by simp only [State.actDeferred]; (repeat' split) <;> simp
@[simp] theorem State.actDeferred_fhp (i : Nat) : (s.actDeferred i).fhp = s.fhp := by simp only [State.actDeferred]; (repeat' split) <;> simp
@[simp] theorem State.actDeferred_gwp (i : Nat) : (s.actDeferred i).gwp = s.gwp := by simp only [State.actDeferred]; (repeat' split) <;> simp
@[simp] theorem State.actDeferred_power (i : Nat) : (s.actDeferred i).power = s.power := by simp only [State.actDeferred]; (repeat' split) <;> simp
@[simp] theorem State.actDeferred_due (i : Nat) : (s.actDeferred i).due = s.due := by simp only [State.actDeferred]; (repeat' split) <;> simp
@[simp] theorem State.actDeferred_pending (i : Nat) : (s.actDeferred i).pending = s.pending := by simp only [State.actDeferred]; (repeat' split) <;> simp

@[simp] theorem State.releaseHeld_ckt_nextNumber (slot : Nat) : (s.releaseHeld slot).ckt.nextNumber = s.ckt.nextNumber := by
  simp only [State.releaseHeld]; (repeat' split) <;> simp [foldl_keeps (fun s : State => s.ckt.nextNumber)]
@[simp] theorem State.releaseHeld_freeLines (slot : Nat) : (s.releaseHeld slot).freeLines = s.freeLines := by
  simp only [State.releaseHeld]; (repeat' split) <;> simp [foldl_keeps (fun s : State => s.freeLines)]
@[simp] theorem State.releaseHeld_tdu_pendingList (slot : Nat) : (s.releaseHeld slot).tdu.pendingList = s.tdu.pendingList := by
  simp only [State.releaseHeld]; (repeat' split) <;> simp [foldl_keeps (fun s : State => s.tdu.pendingList)]
@[simp] theorem State.releaseHeld_fmp (slot : Nat) : (s.releaseHeld slot).fmp = s.fmp := by
  simp only [State.releaseHeld]; (repeat' split) <;> simp [foldl_keeps (fun s : State => s.fmp)]
@[simp] theorem State.releaseHeld_aqp_linkOk (slot : Nat) : (s.releaseHeld slot).aqp.linkOk = s.aqp.linkOk := by
  simp only [State.releaseHeld]; (repeat' split) <;> simp [foldl_keeps (fun s : State => s.aqp.linkOk)]
@[simp] theorem State.releaseHeld_aqp_link (slot : Nat) : (s.releaseHeld slot).aqp.link = s.aqp.link := by
  simp only [State.releaseHeld]; (repeat' split) <;> simp [foldl_keeps (fun s : State => s.aqp.link)]
@[simp] theorem State.releaseHeld_aqp_timeouts (slot : Nat) : (s.releaseHeld slot).aqp.timeouts = s.aqp.timeouts := by
  simp only [State.releaseHeld]; (repeat' split) <;> simp [foldl_keeps (fun s : State => s.aqp.timeouts)]
@[simp] theorem State.releaseHeld_aqp_entries (slot : Nat) : (s.releaseHeld slot).aqp.entries = s.aqp.entries := by
  simp only [State.releaseHeld]; (repeat' split) <;> simp [foldl_keeps (fun s : State => s.aqp.entries)]
@[simp] theorem State.releaseHeld_aqp_tagCounter (slot : Nat) : (s.releaseHeld slot).aqp.tagCounter = s.aqp.tagCounter := by
  simp only [State.releaseHeld]; (repeat' split) <;> simp [foldl_keeps (fun s : State => s.aqp.tagCounter)]
@[simp] theorem State.releaseHeld_aqp_discarded (slot : Nat) : (s.releaseHeld slot).aqp.discarded = s.aqp.discarded := by
  simp only [State.releaseHeld]; (repeat' split) <;> simp [foldl_keeps (fun s : State => s.aqp.discarded)]
@[simp] theorem State.releaseHeld_apu (slot : Nat) : (s.releaseHeld slot).apu = s.apu := by
  simp only [State.releaseHeld]; (repeat' split) <;> simp [foldl_keeps (fun s : State => s.apu)]
@[simp] theorem State.releaseHeld_wnu_watches (slot : Nat) : (s.releaseHeld slot).wnu.watches = s.wnu.watches := by
  simp only [State.releaseHeld]; (repeat' split) <;> simp [foldl_keeps (fun s : State => s.wnu.watches)]
@[simp] theorem State.releaseHeld_wnu_pendCounts (slot : Nat) : (s.releaseHeld slot).wnu.pendCounts = s.wnu.pendCounts := by
  simp only [State.releaseHeld]; (repeat' split) <;> simp [foldl_keeps (fun s : State => s.wnu.pendCounts)]
@[simp] theorem State.releaseHeld_wnu_startup (slot : Nat) : (s.releaseHeld slot).wnu.startup = s.wnu.startup := by
  simp only [State.releaseHeld]; (repeat' split) <;> simp [foldl_keeps (fun s : State => s.wnu.startup)]
@[simp] theorem State.releaseHeld_wnu_startKind (slot : Nat) : (s.releaseHeld slot).wnu.startKind = s.wnu.startKind := by
  simp only [State.releaseHeld]; (repeat' split) <;> simp [foldl_keeps (fun s : State => s.wnu.startKind)]
@[simp] theorem State.releaseHeld_sst (slot : Nat) : (s.releaseHeld slot).sst = s.sst := by
  simp only [State.releaseHeld]; (repeat' split) <;> simp [foldl_keeps (fun s : State => s.sst)]
@[simp] theorem State.releaseHeld_fck (slot : Nat) : (s.releaseHeld slot).fck = s.fck := by
  simp only [State.releaseHeld]; (repeat' split) <;> simp [foldl_keeps (fun s : State => s.fck)]
@[simp] theorem State.releaseHeld_flp (slot : Nat) : (s.releaseHeld slot).flp = s.flp := by
  simp only [State.releaseHeld]; (repeat' split) <;> simp [foldl_keeps (fun s : State => s.flp)]
@[simp] theorem State.releaseHeld_fhp (slot : Nat) : (s.releaseHeld slot).fhp = s.fhp := by
  simp only [State.releaseHeld]; (repeat' split) <;> simp [foldl_keeps (fun s : State => s.fhp)]
@[simp] theorem State.releaseHeld_gwp (slot : Nat) : (s.releaseHeld slot).gwp = s.gwp := by
  simp only [State.releaseHeld]; (repeat' split) <;> simp [foldl_keeps (fun s : State => s.gwp)]
@[simp] theorem State.releaseHeld_power (slot : Nat) : (s.releaseHeld slot).power = s.power := by
  simp only [State.releaseHeld]; (repeat' split) <;> simp [foldl_keeps (fun s : State => s.power)]
@[simp] theorem State.releaseHeld_due (slot : Nat) : (s.releaseHeld slot).due = s.due := by
  simp only [State.releaseHeld]; (repeat' split) <;> simp [foldl_keeps (fun s : State => s.due)]
@[simp] theorem State.releaseHeld_pending (slot : Nat) : (s.releaseHeld slot).pending = s.pending := by
  simp only [State.releaseHeld]; (repeat' split) <;> simp [foldl_keeps (fun s : State => s.pending)]

@[simp] theorem State.removeHold_ckt_nextNumber (slot : Nat) (r : HoldReason) : (s.removeHold slot r).ckt.nextNumber = s.ckt.nextNumber := by simp only [State.removeHold]; (repeat' split) <;> simp
@[simp] theorem State.removeHold_freeLines (slot : Nat) (r : HoldReason) : (s.removeHold slot r).freeLines = s.freeLines := by simp only [State.removeHold]; (repeat' split) <;> simp
@[simp] theorem State.removeHold_tdu_pendingList (slot : Nat) (r : HoldReason) : (s.removeHold slot r).tdu.pendingList = s.tdu.pendingList := by simp only [State.removeHold]; (repeat' split) <;> simp
@[simp] theorem State.removeHold_fmp (slot : Nat) (r : HoldReason) : (s.removeHold slot r).fmp = s.fmp := by simp only [State.removeHold]; (repeat' split) <;> simp
@[simp] theorem State.removeHold_aqp_linkOk (slot : Nat) (r : HoldReason) : (s.removeHold slot r).aqp.linkOk = s.aqp.linkOk := by simp only [State.removeHold]; (repeat' split) <;> simp
@[simp] theorem State.removeHold_aqp_link (slot : Nat) (r : HoldReason) : (s.removeHold slot r).aqp.link = s.aqp.link := by simp only [State.removeHold]; (repeat' split) <;> simp
@[simp] theorem State.removeHold_aqp_timeouts (slot : Nat) (r : HoldReason) : (s.removeHold slot r).aqp.timeouts = s.aqp.timeouts := by simp only [State.removeHold]; (repeat' split) <;> simp
@[simp] theorem State.removeHold_aqp_entries (slot : Nat) (r : HoldReason) : (s.removeHold slot r).aqp.entries = s.aqp.entries := by simp only [State.removeHold]; (repeat' split) <;> simp
@[simp] theorem State.removeHold_aqp_tagCounter (slot : Nat) (r : HoldReason) : (s.removeHold slot r).aqp.tagCounter = s.aqp.tagCounter := by simp only [State.removeHold]; (repeat' split) <;> simp
@[simp] theorem State.removeHold_aqp_discarded (slot : Nat) (r : HoldReason) : (s.removeHold slot r).aqp.discarded = s.aqp.discarded := by simp only [State.removeHold]; (repeat' split) <;> simp
@[simp] theorem State.removeHold_apu (slot : Nat) (r : HoldReason) : (s.removeHold slot r).apu = s.apu := by simp only [State.removeHold]; (repeat' split) <;> simp
@[simp] theorem State.removeHold_wnu_watches (slot : Nat) (r : HoldReason) : (s.removeHold slot r).wnu.watches = s.wnu.watches := by simp only [State.removeHold]; (repeat' split) <;> simp
@[simp] theorem State.removeHold_wnu_pendCounts (slot : Nat) (r : HoldReason) : (s.removeHold slot r).wnu.pendCounts = s.wnu.pendCounts := by simp only [State.removeHold]; (repeat' split) <;> simp
@[simp] theorem State.removeHold_wnu_startup (slot : Nat) (r : HoldReason) : (s.removeHold slot r).wnu.startup = s.wnu.startup := by simp only [State.removeHold]; (repeat' split) <;> simp
@[simp] theorem State.removeHold_wnu_startKind (slot : Nat) (r : HoldReason) : (s.removeHold slot r).wnu.startKind = s.wnu.startKind := by simp only [State.removeHold]; (repeat' split) <;> simp
@[simp] theorem State.removeHold_sst (slot : Nat) (r : HoldReason) : (s.removeHold slot r).sst = s.sst := by simp only [State.removeHold]; (repeat' split) <;> simp
@[simp] theorem State.removeHold_fck (slot : Nat) (r : HoldReason) : (s.removeHold slot r).fck = s.fck := by simp only [State.removeHold]; (repeat' split) <;> simp
@[simp] theorem State.removeHold_flp (slot : Nat) (r : HoldReason) : (s.removeHold slot r).flp = s.flp := by simp only [State.removeHold]; (repeat' split) <;> simp
@[simp] theorem State.removeHold_fhp (slot : Nat) (r : HoldReason) : (s.removeHold slot r).fhp = s.fhp := by simp only [State.removeHold]; (repeat' split) <;> simp
@[simp] theorem State.removeHold_gwp (slot : Nat) (r : HoldReason) : (s.removeHold slot r).gwp = s.gwp := by simp only [State.removeHold]; (repeat' split) <;> simp
@[simp] theorem State.removeHold_power (slot : Nat) (r : HoldReason) : (s.removeHold slot r).power = s.power := by simp only [State.removeHold]; (repeat' split) <;> simp
@[simp] theorem State.removeHold_due (slot : Nat) (r : HoldReason) : (s.removeHold slot r).due = s.due := by simp only [State.removeHold]; (repeat' split) <;> simp
@[simp] theorem State.removeHold_pending (slot : Nat) (r : HoldReason) : (s.removeHold slot r).pending = s.pending := by simp only [State.removeHold]; (repeat' split) <;> simp

@[simp] theorem State.park_ckt_nextNumber (slot term : Nat) (c : Parked) : ((s.park slot term c).1).ckt.nextNumber = s.ckt.nextNumber := by simp only [State.park]; (repeat' split) <;> simp
@[simp] theorem State.park_freeLines (slot term : Nat) (c : Parked) : ((s.park slot term c).1).freeLines = s.freeLines := by simp only [State.park]; (repeat' split) <;> simp
@[simp] theorem State.park_tdu_pendingList (slot term : Nat) (c : Parked) : ((s.park slot term c).1).tdu.pendingList = s.tdu.pendingList := by simp only [State.park]; (repeat' split) <;> simp
@[simp] theorem State.park_fmp (slot term : Nat) (c : Parked) : ((s.park slot term c).1).fmp = s.fmp := by simp only [State.park]; (repeat' split) <;> simp
@[simp] theorem State.park_aqp (slot term : Nat) (c : Parked) : ((s.park slot term c).1).aqp = s.aqp := by simp only [State.park]; (repeat' split) <;> simp
@[simp] theorem State.park_wnu_watches (slot term : Nat) (c : Parked) : ((s.park slot term c).1).wnu.watches = s.wnu.watches := by simp only [State.park]; (repeat' split) <;> simp
@[simp] theorem State.park_wnu_pendCounts (slot term : Nat) (c : Parked) : ((s.park slot term c).1).wnu.pendCounts = s.wnu.pendCounts := by simp only [State.park]; (repeat' split) <;> simp
@[simp] theorem State.park_wnu_startup (slot term : Nat) (c : Parked) : ((s.park slot term c).1).wnu.startup = s.wnu.startup := by simp only [State.park]; (repeat' split) <;> simp
@[simp] theorem State.park_wnu_startKind (slot term : Nat) (c : Parked) : ((s.park slot term c).1).wnu.startKind = s.wnu.startKind := by simp only [State.park]; (repeat' split) <;> simp
@[simp] theorem State.park_sst (slot term : Nat) (c : Parked) : ((s.park slot term c).1).sst = s.sst := by simp only [State.park]; (repeat' split) <;> simp
@[simp] theorem State.park_fck (slot term : Nat) (c : Parked) : ((s.park slot term c).1).fck = s.fck := by simp only [State.park]; (repeat' split) <;> simp
@[simp] theorem State.park_flp (slot term : Nat) (c : Parked) : ((s.park slot term c).1).flp = s.flp := by simp only [State.park]; (repeat' split) <;> simp
@[simp] theorem State.park_fhp (slot term : Nat) (c : Parked) : ((s.park slot term c).1).fhp = s.fhp := by simp only [State.park]; (repeat' split) <;> simp
@[simp] theorem State.park_gwp (slot term : Nat) (c : Parked) : ((s.park slot term c).1).gwp = s.gwp := by simp only [State.park]; (repeat' split) <;> simp
@[simp] theorem State.park_power (slot term : Nat) (c : Parked) : ((s.park slot term c).1).power = s.power := by simp only [State.park]; (repeat' split) <;> simp
@[simp] theorem State.park_due (slot term : Nat) (c : Parked) : ((s.park slot term c).1).due = s.due := by simp only [State.park]; (repeat' split) <;> simp
@[simp] theorem State.park_pending (slot term : Nat) (c : Parked) : ((s.park slot term c).1).pending = s.pending := by simp only [State.park]; (repeat' split) <;> simp

@[simp] theorem State.moveCheck_ckt_nextNumber (slot : Nat) (c : Check) (table owner : Nat) : (s.moveCheck slot c table owner).ckt.nextNumber = s.ckt.nextNumber := by unfold State.moveCheck; split <;> simp
@[simp] theorem State.moveCheck_freeLines (slot : Nat) (c : Check) (table owner : Nat) : (s.moveCheck slot c table owner).freeLines = s.freeLines := by unfold State.moveCheck; split <;> simp
@[simp] theorem State.moveCheck_tdu (slot : Nat) (c : Check) (table owner : Nat) : (s.moveCheck slot c table owner).tdu = s.tdu := by unfold State.moveCheck; split <;> simp
@[simp] theorem State.moveCheck_fmp_present (slot : Nat) (c : Check) (table owner : Nat) : (s.moveCheck slot c table owner).fmp.present = s.fmp.present := by unfold State.moveCheck; split <;> simp
@[simp] theorem State.moveCheck_fmp_lastHeard (slot : Nat) (c : Check) (table owner : Nat) : (s.moveCheck slot c table owner).fmp.lastHeard = s.fmp.lastHeard := by unfold State.moveCheck; split <;> simp
@[simp] theorem State.moveCheck_aqp (slot : Nat) (c : Check) (table owner : Nat) : (s.moveCheck slot c table owner).aqp = s.aqp := by unfold State.moveCheck; split <;> simp
@[simp] theorem State.moveCheck_apu (slot : Nat) (c : Check) (table owner : Nat) : (s.moveCheck slot c table owner).apu = s.apu := by unfold State.moveCheck; split <;> simp
@[simp] theorem State.moveCheck_wnu (slot : Nat) (c : Check) (table owner : Nat) : (s.moveCheck slot c table owner).wnu = s.wnu := by unfold State.moveCheck; split <;> simp
@[simp] theorem State.moveCheck_sst (slot : Nat) (c : Check) (table owner : Nat) : (s.moveCheck slot c table owner).sst = s.sst := by unfold State.moveCheck; split <;> simp
@[simp] theorem State.moveCheck_fck (slot : Nat) (c : Check) (table owner : Nat) : (s.moveCheck slot c table owner).fck = s.fck := by unfold State.moveCheck; split <;> simp
@[simp] theorem State.moveCheck_flp (slot : Nat) (c : Check) (table owner : Nat) : (s.moveCheck slot c table owner).flp = s.flp := by unfold State.moveCheck; split <;> simp
@[simp] theorem State.moveCheck_fhp (slot : Nat) (c : Check) (table owner : Nat) : (s.moveCheck slot c table owner).fhp = s.fhp := by unfold State.moveCheck; split <;> simp
@[simp] theorem State.moveCheck_gwp (slot : Nat) (c : Check) (table owner : Nat) : (s.moveCheck slot c table owner).gwp = s.gwp := by unfold State.moveCheck; split <;> simp
@[simp] theorem State.moveCheck_power (slot : Nat) (c : Check) (table owner : Nat) : (s.moveCheck slot c table owner).power = s.power := by unfold State.moveCheck; split <;> simp
@[simp] theorem State.moveCheck_due (slot : Nat) (c : Check) (table owner : Nat) : (s.moveCheck slot c table owner).due = s.due := by unfold State.moveCheck; split <;> simp
@[simp] theorem State.moveCheck_pending (slot : Nat) (c : Check) (table owner : Nat) : (s.moveCheck slot c table owner).pending = s.pending := by unfold State.moveCheck; split <;> simp

@[simp] theorem State.endApproval_ckt_nextNumber (a : Approval) (o : Nat) : (s.endApproval a o).ckt.nextNumber = s.ckt.nextNumber := by simp [State.endApproval]
@[simp] theorem State.endApproval_freeLines (a : Approval) (o : Nat) : (s.endApproval a o).freeLines = s.freeLines := by simp [State.endApproval]
@[simp] theorem State.endApproval_tdu_pendingList (a : Approval) (o : Nat) : (s.endApproval a o).tdu.pendingList = s.tdu.pendingList := by simp [State.endApproval]
@[simp] theorem State.endApproval_fmp (a : Approval) (o : Nat) : (s.endApproval a o).fmp = s.fmp := by simp [State.endApproval]
@[simp] theorem State.endApproval_aqp_linkOk (a : Approval) (o : Nat) : (s.endApproval a o).aqp.linkOk = s.aqp.linkOk := by simp [State.endApproval]
@[simp] theorem State.endApproval_aqp_link (a : Approval) (o : Nat) : (s.endApproval a o).aqp.link = s.aqp.link := by simp [State.endApproval]
@[simp] theorem State.endApproval_aqp_timeouts (a : Approval) (o : Nat) : (s.endApproval a o).aqp.timeouts = s.aqp.timeouts := by simp [State.endApproval]
@[simp] theorem State.endApproval_aqp_entries (a : Approval) (o : Nat) : (s.endApproval a o).aqp.entries = s.aqp.entries := by simp [State.endApproval]
@[simp] theorem State.endApproval_aqp_tagCounter (a : Approval) (o : Nat) : (s.endApproval a o).aqp.tagCounter = s.aqp.tagCounter := by simp [State.endApproval]
@[simp] theorem State.endApproval_aqp_discarded (a : Approval) (o : Nat) : (s.endApproval a o).aqp.discarded = s.aqp.discarded := by simp [State.endApproval]
@[simp] theorem State.endApproval_apu_counter (a : Approval) (o : Nat) : (s.endApproval a o).apu.counter = s.apu.counter := by simp [State.endApproval]
@[simp] theorem State.endApproval_wnu_watches (a : Approval) (o : Nat) : (s.endApproval a o).wnu.watches = s.wnu.watches := by simp [State.endApproval]
@[simp] theorem State.endApproval_wnu_pendCounts (a : Approval) (o : Nat) : (s.endApproval a o).wnu.pendCounts = s.wnu.pendCounts := by simp [State.endApproval]
@[simp] theorem State.endApproval_wnu_startup (a : Approval) (o : Nat) : (s.endApproval a o).wnu.startup = s.wnu.startup := by simp [State.endApproval]
@[simp] theorem State.endApproval_wnu_startKind (a : Approval) (o : Nat) : (s.endApproval a o).wnu.startKind = s.wnu.startKind := by simp [State.endApproval]
@[simp] theorem State.endApproval_sst (a : Approval) (o : Nat) : (s.endApproval a o).sst = s.sst := by simp [State.endApproval]
@[simp] theorem State.endApproval_fck (a : Approval) (o : Nat) : (s.endApproval a o).fck = s.fck := by simp [State.endApproval]
@[simp] theorem State.endApproval_flp (a : Approval) (o : Nat) : (s.endApproval a o).flp = s.flp := by simp [State.endApproval]
@[simp] theorem State.endApproval_fhp (a : Approval) (o : Nat) : (s.endApproval a o).fhp = s.fhp := by simp [State.endApproval]
@[simp] theorem State.endApproval_gwp (a : Approval) (o : Nat) : (s.endApproval a o).gwp = s.gwp := by simp [State.endApproval]
@[simp] theorem State.endApproval_power (a : Approval) (o : Nat) : (s.endApproval a o).power = s.power := by simp [State.endApproval]
@[simp] theorem State.endApproval_due (a : Approval) (o : Nat) : (s.endApproval a o).due = s.due := by simp [State.endApproval]
@[simp] theorem State.endApproval_pending (a : Approval) (o : Nat) : (s.endApproval a o).pending = s.pending := by simp [State.endApproval]

@[simp] theorem State.unhold_ckt (i : Nat) : (s.unhold i).ckt = s.ckt := rfl
@[simp] theorem State.unhold_freeLines (i : Nat) : (s.unhold i).freeLines = s.freeLines := rfl
@[simp] theorem State.unhold_tdu_pendingList (i : Nat) : (s.unhold i).tdu.pendingList = s.tdu.pendingList := rfl
@[simp] theorem State.unhold_fmp (i : Nat) : (s.unhold i).fmp = s.fmp := rfl
@[simp] theorem State.unhold_aqp (i : Nat) : (s.unhold i).aqp = s.aqp := rfl
@[simp] theorem State.unhold_apu (i : Nat) : (s.unhold i).apu = s.apu := rfl
@[simp] theorem State.unhold_wnu (i : Nat) : (s.unhold i).wnu = s.wnu := rfl
@[simp] theorem State.unhold_sst (i : Nat) : (s.unhold i).sst = s.sst := rfl
@[simp] theorem State.unhold_fck (i : Nat) : (s.unhold i).fck = s.fck := rfl
@[simp] theorem State.unhold_flp (i : Nat) : (s.unhold i).flp = s.flp := rfl
@[simp] theorem State.unhold_fhp (i : Nat) : (s.unhold i).fhp = s.fhp := rfl
@[simp] theorem State.unhold_gwp (i : Nat) : (s.unhold i).gwp = s.gwp := rfl
@[simp] theorem State.unhold_power (i : Nat) : (s.unhold i).power = s.power := rfl
@[simp] theorem State.unhold_due (i : Nat) : (s.unhold i).due = s.due := rfl
@[simp] theorem State.unhold_pending (i : Nat) : (s.unhold i).pending = s.pending := rfl

@[simp] theorem State.releaseTerminal_ckt_nextNumber (t : Nat) : ((s.releaseTerminal t).1).ckt.nextNumber = s.ckt.nextNumber := by
  simp [State.releaseTerminal, foldl_keeps (fun s : State => s.ckt.nextNumber) State.unhold (by simp), foldl_keeps (fun s : State => s.ckt.nextNumber) State.expireLease (by simp)]
@[simp] theorem State.releaseTerminal_freeLines (t : Nat) : ((s.releaseTerminal t).1).freeLines = s.freeLines := by
  simp [State.releaseTerminal, foldl_keeps (fun s : State => s.freeLines) State.unhold (by simp), foldl_keeps (fun s : State => s.freeLines) State.expireLease (by simp)]
@[simp] theorem State.releaseTerminal_fmp_lists (t : Nat) : ((s.releaseTerminal t).1).fmp.lists = s.fmp.lists := by
  simp [State.releaseTerminal, foldl_keeps (fun s : State => s.fmp.lists) State.unhold (by simp), foldl_keeps (fun s : State => s.fmp.lists) State.expireLease (by simp)]
@[simp] theorem State.releaseTerminal_fmp_lastHeard (t : Nat) : ((s.releaseTerminal t).1).fmp.lastHeard = s.fmp.lastHeard := by
  simp [State.releaseTerminal, foldl_keeps (fun s : State => s.fmp.lastHeard) State.unhold (by simp), foldl_keeps (fun s : State => s.fmp.lastHeard) State.expireLease (by simp)]
@[simp] theorem State.releaseTerminal_aqp (t : Nat) : ((s.releaseTerminal t).1).aqp = s.aqp := by
  simp [State.releaseTerminal, foldl_keeps (fun s : State => s.aqp) State.unhold (by simp), foldl_keeps (fun s : State => s.aqp) State.expireLease (by simp)]
@[simp] theorem State.releaseTerminal_apu_counter (t : Nat) : ((s.releaseTerminal t).1).apu.counter = s.apu.counter := by
  simp [State.releaseTerminal, foldl_keeps (fun s : State => s.apu.counter) State.unhold (by simp), foldl_keeps (fun s : State => s.apu.counter) State.expireLease (by simp)]
@[simp] theorem State.releaseTerminal_wnu_startup (t : Nat) : ((s.releaseTerminal t).1).wnu.startup = s.wnu.startup := by
  simp [State.releaseTerminal, foldl_keeps (fun s : State => s.wnu.startup) State.unhold (by simp), foldl_keeps (fun s : State => s.wnu.startup) State.expireLease (by simp)]
@[simp] theorem State.releaseTerminal_wnu_startKind (t : Nat) : ((s.releaseTerminal t).1).wnu.startKind = s.wnu.startKind := by
  simp [State.releaseTerminal, foldl_keeps (fun s : State => s.wnu.startKind) State.unhold (by simp), foldl_keeps (fun s : State => s.wnu.startKind) State.expireLease (by simp)]
@[simp] theorem State.releaseTerminal_sst (t : Nat) : ((s.releaseTerminal t).1).sst = s.sst := by
  simp [State.releaseTerminal, foldl_keeps (fun s : State => s.sst) State.unhold (by simp), foldl_keeps (fun s : State => s.sst) State.expireLease (by simp)]
@[simp] theorem State.releaseTerminal_fck (t : Nat) : ((s.releaseTerminal t).1).fck = s.fck := by
  simp [State.releaseTerminal, foldl_keeps (fun s : State => s.fck) State.unhold (by simp), foldl_keeps (fun s : State => s.fck) State.expireLease (by simp)]
@[simp] theorem State.releaseTerminal_flp (t : Nat) : ((s.releaseTerminal t).1).flp = s.flp := by
  simp [State.releaseTerminal, foldl_keeps (fun s : State => s.flp) State.unhold (by simp), foldl_keeps (fun s : State => s.flp) State.expireLease (by simp)]
@[simp] theorem State.releaseTerminal_fhp (t : Nat) : ((s.releaseTerminal t).1).fhp = s.fhp := by
  simp [State.releaseTerminal, foldl_keeps (fun s : State => s.fhp) State.unhold (by simp), foldl_keeps (fun s : State => s.fhp) State.expireLease (by simp)]
@[simp] theorem State.releaseTerminal_gwp (t : Nat) : ((s.releaseTerminal t).1).gwp = s.gwp := by
  simp [State.releaseTerminal, foldl_keeps (fun s : State => s.gwp) State.unhold (by simp), foldl_keeps (fun s : State => s.gwp) State.expireLease (by simp)]
@[simp] theorem State.releaseTerminal_power (t : Nat) : ((s.releaseTerminal t).1).power = s.power := by
  simp [State.releaseTerminal, foldl_keeps (fun s : State => s.power) State.unhold (by simp), foldl_keeps (fun s : State => s.power) State.expireLease (by simp)]
@[simp] theorem State.releaseTerminal_due (t : Nat) : ((s.releaseTerminal t).1).due = s.due := by
  simp [State.releaseTerminal, foldl_keeps (fun s : State => s.due) State.unhold (by simp), foldl_keeps (fun s : State => s.due) State.expireLease (by simp)]
@[simp] theorem State.releaseTerminal_pending (t : Nat) : ((s.releaseTerminal t).1).pending = s.pending := by
  simp [State.releaseTerminal, foldl_keeps (fun s : State => s.pending) State.unhold (by simp), foldl_keeps (fun s : State => s.pending) State.expireLease (by simp)]

end Sys2Proof.Machine
end

