-- ==== Sys2Proof/Laws/FramesRequests.lean ====
section
/-! SUPPORT. Frames of what requests on checks, tenders and settings do: each field that an operation leaves alone, one simp lemma each. -/

namespace Sys2Proof.Machine

set_option Elab.async false

variable (s : State)

@[simp] theorem State.placeCheck_freeLines (slot : Nat) (c : Check) : (s.placeCheck slot c).freeLines = s.freeLines := rfl
@[simp] theorem State.placeCheck_tdu (slot : Nat) (c : Check) : (s.placeCheck slot c).tdu = s.tdu := rfl
@[simp] theorem State.placeCheck_fmp_present (slot : Nat) (c : Check) : (s.placeCheck slot c).fmp.present = s.fmp.present := rfl
@[simp] theorem State.placeCheck_fmp_lastHeard (slot : Nat) (c : Check) : (s.placeCheck slot c).fmp.lastHeard = s.fmp.lastHeard := rfl
@[simp] theorem State.placeCheck_aqp (slot : Nat) (c : Check) : (s.placeCheck slot c).aqp = s.aqp := rfl
@[simp] theorem State.placeCheck_apu (slot : Nat) (c : Check) : (s.placeCheck slot c).apu = s.apu := rfl
@[simp] theorem State.placeCheck_wnu (slot : Nat) (c : Check) : (s.placeCheck slot c).wnu = s.wnu := rfl
@[simp] theorem State.placeCheck_sst (slot : Nat) (c : Check) : (s.placeCheck slot c).sst = s.sst := rfl
@[simp] theorem State.placeCheck_fck (slot : Nat) (c : Check) : (s.placeCheck slot c).fck = s.fck := rfl
@[simp] theorem State.placeCheck_flp (slot : Nat) (c : Check) : (s.placeCheck slot c).flp = s.flp := rfl
@[simp] theorem State.placeCheck_fhp (slot : Nat) (c : Check) : (s.placeCheck slot c).fhp = s.fhp := rfl
@[simp] theorem State.placeCheck_gwp (slot : Nat) (c : Check) : (s.placeCheck slot c).gwp = s.gwp := rfl
@[simp] theorem State.placeCheck_power (slot : Nat) (c : Check) : (s.placeCheck slot c).power = s.power := rfl
@[simp] theorem State.placeCheck_due (slot : Nat) (c : Check) : (s.placeCheck slot c).due = s.due := rfl
@[simp] theorem State.placeCheck_pending (slot : Nat) (c : Check) : (s.placeCheck slot c).pending = s.pending := rfl

@[simp] theorem State.writeFigures_ckt_nextNumber (slot : Nat) (t : Tally) : (s.writeFigures slot t).ckt.nextNumber = s.ckt.nextNumber := by cases t <;> rfl
@[simp] theorem State.writeFigures_freeLines (slot : Nat) (t : Tally) : (s.writeFigures slot t).freeLines = s.freeLines := by cases t <;> rfl
@[simp] theorem State.writeFigures_tdu (slot : Nat) (t : Tally) : (s.writeFigures slot t).tdu = s.tdu := by cases t <;> rfl
@[simp] theorem State.writeFigures_fmp (slot : Nat) (t : Tally) : (s.writeFigures slot t).fmp = s.fmp := by cases t <;> rfl
@[simp] theorem State.writeFigures_aqp (slot : Nat) (t : Tally) : (s.writeFigures slot t).aqp = s.aqp := by cases t <;> rfl
@[simp] theorem State.writeFigures_apu (slot : Nat) (t : Tally) : (s.writeFigures slot t).apu = s.apu := by cases t <;> rfl
@[simp] theorem State.writeFigures_wnu (slot : Nat) (t : Tally) : (s.writeFigures slot t).wnu = s.wnu := by cases t <;> rfl
@[simp] theorem State.writeFigures_sst (slot : Nat) (t : Tally) : (s.writeFigures slot t).sst = s.sst := by cases t <;> rfl
@[simp] theorem State.writeFigures_fck (slot : Nat) (t : Tally) : (s.writeFigures slot t).fck = s.fck := by cases t <;> rfl
@[simp] theorem State.writeFigures_flp (slot : Nat) (t : Tally) : (s.writeFigures slot t).flp = s.flp := by cases t <;> rfl
@[simp] theorem State.writeFigures_fhp (slot : Nat) (t : Tally) : (s.writeFigures slot t).fhp = s.fhp := by cases t <;> rfl
@[simp] theorem State.writeFigures_gwp (slot : Nat) (t : Tally) : (s.writeFigures slot t).gwp = s.gwp := by cases t <;> rfl
@[simp] theorem State.writeFigures_power (slot : Nat) (t : Tally) : (s.writeFigures slot t).power = s.power := by cases t <;> rfl
@[simp] theorem State.writeFigures_due (slot : Nat) (t : Tally) : (s.writeFigures slot t).due = s.due := by cases t <;> rfl
@[simp] theorem State.writeFigures_pending (slot : Nat) (t : Tally) : (s.writeFigures slot t).pending = s.pending := by cases t <;> rfl

@[simp] theorem State.startCapture_ckt (i : Nat) : (s.startCapture i).ckt = s.ckt := rfl
@[simp] theorem State.startCapture_freeLines (i : Nat) : (s.startCapture i).freeLines = s.freeLines := rfl
@[simp] theorem State.startCapture_tdu_pendingList (i : Nat) : (s.startCapture i).tdu.pendingList = s.tdu.pendingList := rfl
@[simp] theorem State.startCapture_fmp (i : Nat) : (s.startCapture i).fmp = s.fmp := rfl
@[simp] theorem State.startCapture_aqp_linkOk (i : Nat) : (s.startCapture i).aqp.linkOk = s.aqp.linkOk := rfl
@[simp] theorem State.startCapture_aqp_link (i : Nat) : (s.startCapture i).aqp.link = s.aqp.link := rfl
@[simp] theorem State.startCapture_aqp_timeouts (i : Nat) : (s.startCapture i).aqp.timeouts = s.aqp.timeouts := rfl
@[simp] theorem State.startCapture_aqp_entries (i : Nat) : (s.startCapture i).aqp.entries = s.aqp.entries := rfl
@[simp] theorem State.startCapture_aqp_tagCounter (i : Nat) : (s.startCapture i).aqp.tagCounter = s.aqp.tagCounter := rfl
@[simp] theorem State.startCapture_aqp_discarded (i : Nat) : (s.startCapture i).aqp.discarded = s.aqp.discarded := rfl
@[simp] theorem State.startCapture_apu (i : Nat) : (s.startCapture i).apu = s.apu := rfl
@[simp] theorem State.startCapture_wnu (i : Nat) : (s.startCapture i).wnu = s.wnu := rfl
@[simp] theorem State.startCapture_sst (i : Nat) : (s.startCapture i).sst = s.sst := rfl
@[simp] theorem State.startCapture_fck (i : Nat) : (s.startCapture i).fck = s.fck := rfl
@[simp] theorem State.startCapture_flp (i : Nat) : (s.startCapture i).flp = s.flp := rfl
@[simp] theorem State.startCapture_fhp (i : Nat) : (s.startCapture i).fhp = s.fhp := rfl
@[simp] theorem State.startCapture_gwp (i : Nat) : (s.startCapture i).gwp = s.gwp := rfl
@[simp] theorem State.startCapture_power (i : Nat) : (s.startCapture i).power = s.power := rfl
@[simp] theorem State.startCapture_due (i : Nat) : (s.startCapture i).due = s.due := rfl
@[simp] theorem State.startCapture_pending (i : Nat) : (s.startCapture i).pending = s.pending := rfl

@[simp] theorem State.startClose_ckt_nextNumber (slot : Nat) (l : List Nat) : (s.startClose slot l).ckt.nextNumber = s.ckt.nextNumber := by
  simp only [State.startClose]
  rw [foldl_keeps (fun s : State => s.ckt.nextNumber)] <;> simp
@[simp] theorem State.startClose_freeLines (slot : Nat) (l : List Nat) : (s.startClose slot l).freeLines = s.freeLines := by
  simp only [State.startClose]
  rw [foldl_keeps (fun s : State => s.freeLines)] <;> simp
@[simp] theorem State.startClose_tdu_pendingList (slot : Nat) (l : List Nat) : (s.startClose slot l).tdu.pendingList = s.tdu.pendingList := by
  simp only [State.startClose]
  rw [foldl_keeps (fun s : State => s.tdu.pendingList)] <;> simp
@[simp] theorem State.startClose_fmp (slot : Nat) (l : List Nat) : (s.startClose slot l).fmp = s.fmp := by
  simp only [State.startClose]
  rw [foldl_keeps (fun s : State => s.fmp)] <;> simp
@[simp] theorem State.startClose_aqp_linkOk (slot : Nat) (l : List Nat) : (s.startClose slot l).aqp.linkOk = s.aqp.linkOk := by
  simp only [State.startClose]
  rw [foldl_keeps (fun s : State => s.aqp.linkOk)] <;> simp
@[simp] theorem State.startClose_aqp_link (slot : Nat) (l : List Nat) : (s.startClose slot l).aqp.link = s.aqp.link := by
  simp only [State.startClose]
  rw [foldl_keeps (fun s : State => s.aqp.link)] <;> simp
@[simp] theorem State.startClose_aqp_timeouts (slot : Nat) (l : List Nat) : (s.startClose slot l).aqp.timeouts = s.aqp.timeouts := by
  simp only [State.startClose]
  rw [foldl_keeps (fun s : State => s.aqp.timeouts)] <;> simp
@[simp] theorem State.startClose_aqp_entries (slot : Nat) (l : List Nat) : (s.startClose slot l).aqp.entries = s.aqp.entries := by
  simp only [State.startClose]
  rw [foldl_keeps (fun s : State => s.aqp.entries)] <;> simp
@[simp] theorem State.startClose_aqp_tagCounter (slot : Nat) (l : List Nat) : (s.startClose slot l).aqp.tagCounter = s.aqp.tagCounter := by
  simp only [State.startClose]
  rw [foldl_keeps (fun s : State => s.aqp.tagCounter)] <;> simp
@[simp] theorem State.startClose_aqp_discarded (slot : Nat) (l : List Nat) : (s.startClose slot l).aqp.discarded = s.aqp.discarded := by
  simp only [State.startClose]
  rw [foldl_keeps (fun s : State => s.aqp.discarded)] <;> simp
@[simp] theorem State.startClose_apu (slot : Nat) (l : List Nat) : (s.startClose slot l).apu = s.apu := by
  simp only [State.startClose]
  rw [foldl_keeps (fun s : State => s.apu)] <;> simp
@[simp] theorem State.startClose_wnu (slot : Nat) (l : List Nat) : (s.startClose slot l).wnu = s.wnu := by
  simp only [State.startClose]
  rw [foldl_keeps (fun s : State => s.wnu)] <;> simp
@[simp] theorem State.startClose_sst (slot : Nat) (l : List Nat) : (s.startClose slot l).sst = s.sst := by
  simp only [State.startClose]
  rw [foldl_keeps (fun s : State => s.sst)] <;> simp
@[simp] theorem State.startClose_fck (slot : Nat) (l : List Nat) : (s.startClose slot l).fck = s.fck := by
  simp only [State.startClose]
  rw [foldl_keeps (fun s : State => s.fck)] <;> simp
@[simp] theorem State.startClose_flp (slot : Nat) (l : List Nat) : (s.startClose slot l).flp = s.flp := by
  simp only [State.startClose]
  rw [foldl_keeps (fun s : State => s.flp)] <;> simp
@[simp] theorem State.startClose_fhp (slot : Nat) (l : List Nat) : (s.startClose slot l).fhp = s.fhp := by
  simp only [State.startClose]
  rw [foldl_keeps (fun s : State => s.fhp)] <;> simp
@[simp] theorem State.startClose_gwp (slot : Nat) (l : List Nat) : (s.startClose slot l).gwp = s.gwp := by
  simp only [State.startClose]
  rw [foldl_keeps (fun s : State => s.gwp)] <;> simp
@[simp] theorem State.startClose_power (slot : Nat) (l : List Nat) : (s.startClose slot l).power = s.power := by
  simp only [State.startClose]
  rw [foldl_keeps (fun s : State => s.power)] <;> simp
@[simp] theorem State.startClose_due (slot : Nat) (l : List Nat) : (s.startClose slot l).due = s.due := by
  simp only [State.startClose]
  rw [foldl_keeps (fun s : State => s.due)] <;> simp
@[simp] theorem State.startClose_pending (slot : Nat) (l : List Nat) : (s.startClose slot l).pending = s.pending := by
  simp only [State.startClose]
  rw [foldl_keeps (fun s : State => s.pending)] <;> simp

@[simp] theorem State.takeLines_ckt_nextNumber (slot : Nat) (c : Check) (n : Nat) (t : Tally) : (s.takeLines slot c n t).ckt.nextNumber = s.ckt.nextNumber := by unfold State.takeLines; split <;> simp
@[simp] theorem State.takeLines_tdu (slot : Nat) (c : Check) (n : Nat) (t : Tally) : (s.takeLines slot c n t).tdu = s.tdu := by unfold State.takeLines; split <;> simp
@[simp] theorem State.takeLines_fmp (slot : Nat) (c : Check) (n : Nat) (t : Tally) : (s.takeLines slot c n t).fmp = s.fmp := by unfold State.takeLines; split <;> simp
@[simp] theorem State.takeLines_aqp (slot : Nat) (c : Check) (n : Nat) (t : Tally) : (s.takeLines slot c n t).aqp = s.aqp := by unfold State.takeLines; split <;> simp
@[simp] theorem State.takeLines_apu (slot : Nat) (c : Check) (n : Nat) (t : Tally) : (s.takeLines slot c n t).apu = s.apu := by unfold State.takeLines; split <;> simp
@[simp] theorem State.takeLines_wnu_watches (slot : Nat) (c : Check) (n : Nat) (t : Tally) : (s.takeLines slot c n t).wnu.watches = s.wnu.watches := by unfold State.takeLines; split <;> simp
@[simp] theorem State.takeLines_wnu_pendCounts (slot : Nat) (c : Check) (n : Nat) (t : Tally) : (s.takeLines slot c n t).wnu.pendCounts = s.wnu.pendCounts := by unfold State.takeLines; split <;> simp
@[simp] theorem State.takeLines_wnu_startup (slot : Nat) (c : Check) (n : Nat) (t : Tally) : (s.takeLines slot c n t).wnu.startup = s.wnu.startup := by unfold State.takeLines; split <;> simp
@[simp] theorem State.takeLines_wnu_startKind (slot : Nat) (c : Check) (n : Nat) (t : Tally) : (s.takeLines slot c n t).wnu.startKind = s.wnu.startKind := by unfold State.takeLines; split <;> simp
@[simp] theorem State.takeLines_sst (slot : Nat) (c : Check) (n : Nat) (t : Tally) : (s.takeLines slot c n t).sst = s.sst := by unfold State.takeLines; split <;> simp
@[simp] theorem State.takeLines_fck (slot : Nat) (c : Check) (n : Nat) (t : Tally) : (s.takeLines slot c n t).fck = s.fck := by unfold State.takeLines; split <;> simp
@[simp] theorem State.takeLines_flp (slot : Nat) (c : Check) (n : Nat) (t : Tally) : (s.takeLines slot c n t).flp = s.flp := by unfold State.takeLines; split <;> simp
@[simp] theorem State.takeLines_fhp (slot : Nat) (c : Check) (n : Nat) (t : Tally) : (s.takeLines slot c n t).fhp = s.fhp := by unfold State.takeLines; split <;> simp
@[simp] theorem State.takeLines_gwp (slot : Nat) (c : Check) (n : Nat) (t : Tally) : (s.takeLines slot c n t).gwp = s.gwp := by unfold State.takeLines; split <;> simp
@[simp] theorem State.takeLines_power (slot : Nat) (c : Check) (n : Nat) (t : Tally) : (s.takeLines slot c n t).power = s.power := by unfold State.takeLines; split <;> simp
@[simp] theorem State.takeLines_due (slot : Nat) (c : Check) (n : Nat) (t : Tally) : (s.takeLines slot c n t).due = s.due := by unfold State.takeLines; split <;> simp
@[simp] theorem State.takeLines_pending (slot : Nat) (c : Check) (n : Nat) (t : Tally) : (s.takeLines slot c n t).pending = s.pending := by unfold State.takeLines; split <;> simp

@[simp] theorem State.beginTender_ckt_nextNumber (i : Nat) (t : Tender) : (s.beginTender i t).ckt.nextNumber = s.ckt.nextNumber := by simp [State.beginTender]
@[simp] theorem State.beginTender_freeLines (i : Nat) (t : Tender) : (s.beginTender i t).freeLines = s.freeLines := by simp [State.beginTender]
@[simp] theorem State.beginTender_tdu_pendingList (i : Nat) (t : Tender) : (s.beginTender i t).tdu.pendingList = s.tdu.pendingList := by simp [State.beginTender]
@[simp] theorem State.beginTender_fmp (i : Nat) (t : Tender) : (s.beginTender i t).fmp = s.fmp := by simp [State.beginTender]
@[simp] theorem State.beginTender_aqp (i : Nat) (t : Tender) : (s.beginTender i t).aqp = s.aqp := by simp [State.beginTender]
@[simp] theorem State.beginTender_apu (i : Nat) (t : Tender) : (s.beginTender i t).apu = s.apu := by simp [State.beginTender]
@[simp] theorem State.beginTender_wnu_watches (i : Nat) (t : Tender) : (s.beginTender i t).wnu.watches = s.wnu.watches := by simp [State.beginTender]
@[simp] theorem State.beginTender_wnu_pendCounts (i : Nat) (t : Tender) : (s.beginTender i t).wnu.pendCounts = s.wnu.pendCounts := by simp [State.beginTender]
@[simp] theorem State.beginTender_wnu_startup (i : Nat) (t : Tender) : (s.beginTender i t).wnu.startup = s.wnu.startup := by simp [State.beginTender]
@[simp] theorem State.beginTender_wnu_startKind (i : Nat) (t : Tender) : (s.beginTender i t).wnu.startKind = s.wnu.startKind := by simp [State.beginTender]
@[simp] theorem State.beginTender_sst (i : Nat) (t : Tender) : (s.beginTender i t).sst = s.sst := by simp [State.beginTender]
@[simp] theorem State.beginTender_fck (i : Nat) (t : Tender) : (s.beginTender i t).fck = s.fck := by simp [State.beginTender]
@[simp] theorem State.beginTender_flp (i : Nat) (t : Tender) : (s.beginTender i t).flp = s.flp := by simp [State.beginTender]
@[simp] theorem State.beginTender_fhp (i : Nat) (t : Tender) : (s.beginTender i t).fhp = s.fhp := by simp [State.beginTender]
@[simp] theorem State.beginTender_gwp (i : Nat) (t : Tender) : (s.beginTender i t).gwp = s.gwp := by simp [State.beginTender]
@[simp] theorem State.beginTender_power (i : Nat) (t : Tender) : (s.beginTender i t).power = s.power := by simp [State.beginTender]
@[simp] theorem State.beginTender_due (i : Nat) (t : Tender) : (s.beginTender i t).due = s.due := by simp [State.beginTender]
@[simp] theorem State.beginTender_pending (i : Nat) (t : Tender) : (s.beginTender i t).pending = s.pending := by simp [State.beginTender]

@[simp] theorem State.startTender_ckt_nextNumber (i : Nat) (t : Tender) (k : TenderKind) (a b : Nat) (l : List Byte) : (s.startTender i t k a b l).ckt.nextNumber = s.ckt.nextNumber := by cases k <;> simp [State.startTender]
@[simp] theorem State.startTender_freeLines (i : Nat) (t : Tender) (k : TenderKind) (a b : Nat) (l : List Byte) : (s.startTender i t k a b l).freeLines = s.freeLines := by cases k <;> simp [State.startTender]
@[simp] theorem State.startTender_tdu_pendingList (i : Nat) (t : Tender) (k : TenderKind) (a b : Nat) (l : List Byte) : (s.startTender i t k a b l).tdu.pendingList = s.tdu.pendingList := by cases k <;> simp [State.startTender]
@[simp] theorem State.startTender_fmp (i : Nat) (t : Tender) (k : TenderKind) (a b : Nat) (l : List Byte) : (s.startTender i t k a b l).fmp = s.fmp := by cases k <;> simp [State.startTender]
@[simp] theorem State.startTender_aqp_linkOk (i : Nat) (t : Tender) (k : TenderKind) (a b : Nat) (l : List Byte) : (s.startTender i t k a b l).aqp.linkOk = s.aqp.linkOk := by cases k <;> simp [State.startTender]
@[simp] theorem State.startTender_aqp_link (i : Nat) (t : Tender) (k : TenderKind) (a b : Nat) (l : List Byte) : (s.startTender i t k a b l).aqp.link = s.aqp.link := by cases k <;> simp [State.startTender]
@[simp] theorem State.startTender_aqp_timeouts (i : Nat) (t : Tender) (k : TenderKind) (a b : Nat) (l : List Byte) : (s.startTender i t k a b l).aqp.timeouts = s.aqp.timeouts := by cases k <;> simp [State.startTender]
@[simp] theorem State.startTender_aqp_entries (i : Nat) (t : Tender) (k : TenderKind) (a b : Nat) (l : List Byte) : (s.startTender i t k a b l).aqp.entries = s.aqp.entries := by cases k <;> simp [State.startTender]
@[simp] theorem State.startTender_aqp_tagCounter (i : Nat) (t : Tender) (k : TenderKind) (a b : Nat) (l : List Byte) : (s.startTender i t k a b l).aqp.tagCounter = s.aqp.tagCounter := by cases k <;> simp [State.startTender]
@[simp] theorem State.startTender_aqp_discarded (i : Nat) (t : Tender) (k : TenderKind) (a b : Nat) (l : List Byte) : (s.startTender i t k a b l).aqp.discarded = s.aqp.discarded := by cases k <;> simp [State.startTender]
@[simp] theorem State.startTender_apu (i : Nat) (t : Tender) (k : TenderKind) (a b : Nat) (l : List Byte) : (s.startTender i t k a b l).apu = s.apu := by cases k <;> simp [State.startTender]
@[simp] theorem State.startTender_wnu_watches (i : Nat) (t : Tender) (k : TenderKind) (a b : Nat) (l : List Byte) : (s.startTender i t k a b l).wnu.watches = s.wnu.watches := by cases k <;> simp [State.startTender]
@[simp] theorem State.startTender_wnu_pendCounts (i : Nat) (t : Tender) (k : TenderKind) (a b : Nat) (l : List Byte) : (s.startTender i t k a b l).wnu.pendCounts = s.wnu.pendCounts := by cases k <;> simp [State.startTender]
@[simp] theorem State.startTender_wnu_startup (i : Nat) (t : Tender) (k : TenderKind) (a b : Nat) (l : List Byte) : (s.startTender i t k a b l).wnu.startup = s.wnu.startup := by cases k <;> simp [State.startTender]
@[simp] theorem State.startTender_wnu_startKind (i : Nat) (t : Tender) (k : TenderKind) (a b : Nat) (l : List Byte) : (s.startTender i t k a b l).wnu.startKind = s.wnu.startKind := by cases k <;> simp [State.startTender]
@[simp] theorem State.startTender_sst (i : Nat) (t : Tender) (k : TenderKind) (a b : Nat) (l : List Byte) : (s.startTender i t k a b l).sst = s.sst := by cases k <;> simp [State.startTender]
@[simp] theorem State.startTender_fck (i : Nat) (t : Tender) (k : TenderKind) (a b : Nat) (l : List Byte) : (s.startTender i t k a b l).fck = s.fck := by cases k <;> simp [State.startTender]
@[simp] theorem State.startTender_flp (i : Nat) (t : Tender) (k : TenderKind) (a b : Nat) (l : List Byte) : (s.startTender i t k a b l).flp = s.flp := by cases k <;> simp [State.startTender]
@[simp] theorem State.startTender_fhp (i : Nat) (t : Tender) (k : TenderKind) (a b : Nat) (l : List Byte) : (s.startTender i t k a b l).fhp = s.fhp := by cases k <;> simp [State.startTender]
@[simp] theorem State.startTender_gwp (i : Nat) (t : Tender) (k : TenderKind) (a b : Nat) (l : List Byte) : (s.startTender i t k a b l).gwp = s.gwp := by cases k <;> simp [State.startTender]
@[simp] theorem State.startTender_power (i : Nat) (t : Tender) (k : TenderKind) (a b : Nat) (l : List Byte) : (s.startTender i t k a b l).power = s.power := by cases k <;> simp [State.startTender]
@[simp] theorem State.startTender_due (i : Nat) (t : Tender) (k : TenderKind) (a b : Nat) (l : List Byte) : (s.startTender i t k a b l).due = s.due := by cases k <;> simp [State.startTender]
@[simp] theorem State.startTender_pending (i : Nat) (t : Tender) (k : TenderKind) (a b : Nat) (l : List Byte) : (s.startTender i t k a b l).pending = s.pending := by cases k <;> simp [State.startTender]

@[simp] theorem State.takeTip_ckt_nextNumber (i : Nat) (t : Tender) (n : Nat) : (s.takeTip i t n).ckt.nextNumber = s.ckt.nextNumber := by simp only [State.takeTip]; (repeat' split) <;> simp
@[simp] theorem State.takeTip_freeLines (i : Nat) (t : Tender) (n : Nat) : (s.takeTip i t n).freeLines = s.freeLines := by simp only [State.takeTip]; (repeat' split) <;> simp
@[simp] theorem State.takeTip_tdu_pendingList (i : Nat) (t : Tender) (n : Nat) : (s.takeTip i t n).tdu.pendingList = s.tdu.pendingList := by simp only [State.takeTip]; (repeat' split) <;> simp
@[simp] theorem State.takeTip_fmp (i : Nat) (t : Tender) (n : Nat) : (s.takeTip i t n).fmp = s.fmp := by simp only [State.takeTip]; (repeat' split) <;> simp
@[simp] theorem State.takeTip_aqp_linkOk (i : Nat) (t : Tender) (n : Nat) : (s.takeTip i t n).aqp.linkOk = s.aqp.linkOk := by simp only [State.takeTip]; (repeat' split) <;> simp
@[simp] theorem State.takeTip_aqp_link (i : Nat) (t : Tender) (n : Nat) : (s.takeTip i t n).aqp.link = s.aqp.link := by simp only [State.takeTip]; (repeat' split) <;> simp
@[simp] theorem State.takeTip_aqp_timeouts (i : Nat) (t : Tender) (n : Nat) : (s.takeTip i t n).aqp.timeouts = s.aqp.timeouts := by simp only [State.takeTip]; (repeat' split) <;> simp
@[simp] theorem State.takeTip_aqp_entries (i : Nat) (t : Tender) (n : Nat) : (s.takeTip i t n).aqp.entries = s.aqp.entries := by simp only [State.takeTip]; (repeat' split) <;> simp
@[simp] theorem State.takeTip_aqp_tagCounter (i : Nat) (t : Tender) (n : Nat) : (s.takeTip i t n).aqp.tagCounter = s.aqp.tagCounter := by simp only [State.takeTip]; (repeat' split) <;> simp
@[simp] theorem State.takeTip_aqp_discarded (i : Nat) (t : Tender) (n : Nat) : (s.takeTip i t n).aqp.discarded = s.aqp.discarded := by simp only [State.takeTip]; (repeat' split) <;> simp
@[simp] theorem State.takeTip_apu (i : Nat) (t : Tender) (n : Nat) : (s.takeTip i t n).apu = s.apu := by simp only [State.takeTip]; (repeat' split) <;> simp
@[simp] theorem State.takeTip_wnu_watches (i : Nat) (t : Tender) (n : Nat) : (s.takeTip i t n).wnu.watches = s.wnu.watches := by simp only [State.takeTip]; (repeat' split) <;> simp
@[simp] theorem State.takeTip_wnu_pendCounts (i : Nat) (t : Tender) (n : Nat) : (s.takeTip i t n).wnu.pendCounts = s.wnu.pendCounts := by simp only [State.takeTip]; (repeat' split) <;> simp
@[simp] theorem State.takeTip_wnu_startup (i : Nat) (t : Tender) (n : Nat) : (s.takeTip i t n).wnu.startup = s.wnu.startup := by simp only [State.takeTip]; (repeat' split) <;> simp
@[simp] theorem State.takeTip_wnu_startKind (i : Nat) (t : Tender) (n : Nat) : (s.takeTip i t n).wnu.startKind = s.wnu.startKind := by simp only [State.takeTip]; (repeat' split) <;> simp
@[simp] theorem State.takeTip_sst (i : Nat) (t : Tender) (n : Nat) : (s.takeTip i t n).sst = s.sst := by simp only [State.takeTip]; (repeat' split) <;> simp
@[simp] theorem State.takeTip_fck (i : Nat) (t : Tender) (n : Nat) : (s.takeTip i t n).fck = s.fck := by simp only [State.takeTip]; (repeat' split) <;> simp
@[simp] theorem State.takeTip_flp (i : Nat) (t : Tender) (n : Nat) : (s.takeTip i t n).flp = s.flp := by simp only [State.takeTip]; (repeat' split) <;> simp
@[simp] theorem State.takeTip_fhp (i : Nat) (t : Tender) (n : Nat) : (s.takeTip i t n).fhp = s.fhp := by simp only [State.takeTip]; (repeat' split) <;> simp
@[simp] theorem State.takeTip_gwp (i : Nat) (t : Tender) (n : Nat) : (s.takeTip i t n).gwp = s.gwp := by simp only [State.takeTip]; (repeat' split) <;> simp
@[simp] theorem State.takeTip_power (i : Nat) (t : Tender) (n : Nat) : (s.takeTip i t n).power = s.power := by simp only [State.takeTip]; (repeat' split) <;> simp
@[simp] theorem State.takeTip_due (i : Nat) (t : Tender) (n : Nat) : (s.takeTip i t n).due = s.due := by simp only [State.takeTip]; (repeat' split) <;> simp
@[simp] theorem State.takeTip_pending (i : Nat) (t : Tender) (n : Nat) : (s.takeTip i t n).pending = s.pending := by simp only [State.takeTip]; (repeat' split) <;> simp

@[simp] theorem State.writeOff_ckt_nextNumber (slot i : Nat) : (s.writeOff slot i).ckt.nextNumber = s.ckt.nextNumber := rfl
@[simp] theorem State.writeOff_freeLines (slot i : Nat) : (s.writeOff slot i).freeLines = s.freeLines := rfl
@[simp] theorem State.writeOff_tdu_pendingList (slot i : Nat) : (s.writeOff slot i).tdu.pendingList = s.tdu.pendingList := rfl
@[simp] theorem State.writeOff_fmp (slot i : Nat) : (s.writeOff slot i).fmp = s.fmp := rfl
@[simp] theorem State.writeOff_aqp (slot i : Nat) : (s.writeOff slot i).aqp = s.aqp := rfl
@[simp] theorem State.writeOff_apu (slot i : Nat) : (s.writeOff slot i).apu = s.apu := rfl
@[simp] theorem State.writeOff_wnu (slot i : Nat) : (s.writeOff slot i).wnu = s.wnu := rfl
@[simp] theorem State.writeOff_sst (slot i : Nat) : (s.writeOff slot i).sst = s.sst := rfl
@[simp] theorem State.writeOff_fck (slot i : Nat) : (s.writeOff slot i).fck = s.fck := rfl
@[simp] theorem State.writeOff_flp (slot i : Nat) : (s.writeOff slot i).flp = s.flp := rfl
@[simp] theorem State.writeOff_fhp (slot i : Nat) : (s.writeOff slot i).fhp = s.fhp := rfl
@[simp] theorem State.writeOff_gwp (slot i : Nat) : (s.writeOff slot i).gwp = s.gwp := rfl
@[simp] theorem State.writeOff_power (slot i : Nat) : (s.writeOff slot i).power = s.power := rfl
@[simp] theorem State.writeOff_due (slot i : Nat) : (s.writeOff slot i).due = s.due := rfl
@[simp] theorem State.writeOff_pending (slot i : Nat) : (s.writeOff slot i).pending = s.pending := rfl

@[simp] theorem State.putWatch_ckt (t c : Nat) (m : BitVec 8) : (s.putWatch t c m).ckt = s.ckt := rfl
@[simp] theorem State.putWatch_freeLines (t c : Nat) (m : BitVec 8) : (s.putWatch t c m).freeLines = s.freeLines := rfl
@[simp] theorem State.putWatch_tdu (t c : Nat) (m : BitVec 8) : (s.putWatch t c m).tdu = s.tdu := rfl
@[simp] theorem State.putWatch_fmp (t c : Nat) (m : BitVec 8) : (s.putWatch t c m).fmp = s.fmp := rfl
@[simp] theorem State.putWatch_aqp (t c : Nat) (m : BitVec 8) : (s.putWatch t c m).aqp = s.aqp := rfl
@[simp] theorem State.putWatch_apu (t c : Nat) (m : BitVec 8) : (s.putWatch t c m).apu = s.apu := rfl
@[simp] theorem State.putWatch_wnu_hits (t c : Nat) (m : BitVec 8) : (s.putWatch t c m).wnu.hits = s.wnu.hits := rfl
@[simp] theorem State.putWatch_wnu_pendCounts (t c : Nat) (m : BitVec 8) : (s.putWatch t c m).wnu.pendCounts = s.wnu.pendCounts := rfl
@[simp] theorem State.putWatch_wnu_startup (t c : Nat) (m : BitVec 8) : (s.putWatch t c m).wnu.startup = s.wnu.startup := rfl
@[simp] theorem State.putWatch_wnu_startKind (t c : Nat) (m : BitVec 8) : (s.putWatch t c m).wnu.startKind = s.wnu.startKind := rfl
@[simp] theorem State.putWatch_wnu_pushes (t c : Nat) (m : BitVec 8) : (s.putWatch t c m).wnu.pushes = s.wnu.pushes := rfl
@[simp] theorem State.putWatch_sst (t c : Nat) (m : BitVec 8) : (s.putWatch t c m).sst = s.sst := rfl
@[simp] theorem State.putWatch_fck (t c : Nat) (m : BitVec 8) : (s.putWatch t c m).fck = s.fck := rfl
@[simp] theorem State.putWatch_flp (t c : Nat) (m : BitVec 8) : (s.putWatch t c m).flp = s.flp := rfl
@[simp] theorem State.putWatch_fhp (t c : Nat) (m : BitVec 8) : (s.putWatch t c m).fhp = s.fhp := rfl
@[simp] theorem State.putWatch_gwp (t c : Nat) (m : BitVec 8) : (s.putWatch t c m).gwp = s.gwp := rfl
@[simp] theorem State.putWatch_power (t c : Nat) (m : BitVec 8) : (s.putWatch t c m).power = s.power := rfl
@[simp] theorem State.putWatch_due (t c : Nat) (m : BitVec 8) : (s.putWatch t c m).due = s.due := rfl
@[simp] theorem State.putWatch_pending (t c : Nat) (m : BitVec 8) : (s.putWatch t c m).pending = s.pending := rfl

@[simp] theorem State.removeWatch_ckt (t c : Nat) : (s.removeWatch t c).ckt = s.ckt := rfl
@[simp] theorem State.removeWatch_freeLines (t c : Nat) : (s.removeWatch t c).freeLines = s.freeLines := rfl
@[simp] theorem State.removeWatch_tdu (t c : Nat) : (s.removeWatch t c).tdu = s.tdu := rfl
@[simp] theorem State.removeWatch_fmp (t c : Nat) : (s.removeWatch t c).fmp = s.fmp := rfl
@[simp] theorem State.removeWatch_aqp (t c : Nat) : (s.removeWatch t c).aqp = s.aqp := rfl
@[simp] theorem State.removeWatch_apu (t c : Nat) : (s.removeWatch t c).apu = s.apu := rfl
@[simp] theorem State.removeWatch_wnu_hits (t c : Nat) : (s.removeWatch t c).wnu.hits = s.wnu.hits := rfl
@[simp] theorem State.removeWatch_wnu_pendCounts (t c : Nat) : (s.removeWatch t c).wnu.pendCounts = s.wnu.pendCounts := rfl
@[simp] theorem State.removeWatch_wnu_startup (t c : Nat) : (s.removeWatch t c).wnu.startup = s.wnu.startup := rfl
@[simp] theorem State.removeWatch_wnu_startKind (t c : Nat) : (s.removeWatch t c).wnu.startKind = s.wnu.startKind := rfl
@[simp] theorem State.removeWatch_wnu_pushes (t c : Nat) : (s.removeWatch t c).wnu.pushes = s.wnu.pushes := rfl
@[simp] theorem State.removeWatch_sst (t c : Nat) : (s.removeWatch t c).sst = s.sst := rfl
@[simp] theorem State.removeWatch_fck (t c : Nat) : (s.removeWatch t c).fck = s.fck := rfl
@[simp] theorem State.removeWatch_flp (t c : Nat) : (s.removeWatch t c).flp = s.flp := rfl
@[simp] theorem State.removeWatch_fhp (t c : Nat) : (s.removeWatch t c).fhp = s.fhp := rfl
@[simp] theorem State.removeWatch_gwp (t c : Nat) : (s.removeWatch t c).gwp = s.gwp := rfl
@[simp] theorem State.removeWatch_power (t c : Nat) : (s.removeWatch t c).power = s.power := rfl
@[simp] theorem State.removeWatch_due (t c : Nat) : (s.removeWatch t c).due = s.due := rfl
@[simp] theorem State.removeWatch_pending (t c : Nat) : (s.removeWatch t c).pending = s.pending := rfl

@[simp] theorem State.clearStartup_ckt : (s.clearStartup).ckt = s.ckt := rfl
@[simp] theorem State.clearStartup_freeLines : (s.clearStartup).freeLines = s.freeLines := rfl
@[simp] theorem State.clearStartup_tdu : (s.clearStartup).tdu = s.tdu := rfl
@[simp] theorem State.clearStartup_fmp : (s.clearStartup).fmp = s.fmp := rfl
@[simp] theorem State.clearStartup_aqp : (s.clearStartup).aqp = s.aqp := rfl
@[simp] theorem State.clearStartup_apu : (s.clearStartup).apu = s.apu := rfl
@[simp] theorem State.clearStartup_wnu_watches : (s.clearStartup).wnu.watches = s.wnu.watches := rfl
@[simp] theorem State.clearStartup_wnu_hits : (s.clearStartup).wnu.hits = s.wnu.hits := rfl
@[simp] theorem State.clearStartup_wnu_pendCounts : (s.clearStartup).wnu.pendCounts = s.wnu.pendCounts := rfl
@[simp] theorem State.clearStartup_wnu_startKind : (s.clearStartup).wnu.startKind = s.wnu.startKind := rfl
@[simp] theorem State.clearStartup_wnu_pushes : (s.clearStartup).wnu.pushes = s.wnu.pushes := rfl
@[simp] theorem State.clearStartup_sst : (s.clearStartup).sst = s.sst := rfl
@[simp] theorem State.clearStartup_fck : (s.clearStartup).fck = s.fck := rfl
@[simp] theorem State.clearStartup_flp : (s.clearStartup).flp = s.flp := rfl
@[simp] theorem State.clearStartup_fhp : (s.clearStartup).fhp = s.fhp := rfl
@[simp] theorem State.clearStartup_gwp : (s.clearStartup).gwp = s.gwp := rfl
@[simp] theorem State.clearStartup_power : (s.clearStartup).power = s.power := rfl
@[simp] theorem State.clearStartup_due : (s.clearStartup).due = s.due := rfl
@[simp] theorem State.clearStartup_pending : (s.clearStartup).pending = s.pending := rfl

@[simp] theorem State.ackAged_ckt_nextNumber : (s.ackAged).ckt.nextNumber = s.ckt.nextNumber := rfl
@[simp] theorem State.ackAged_freeLines : (s.ackAged).freeLines = s.freeLines := rfl
@[simp] theorem State.ackAged_tdu : (s.ackAged).tdu = s.tdu := rfl
@[simp] theorem State.ackAged_fmp : (s.ackAged).fmp = s.fmp := rfl
@[simp] theorem State.ackAged_aqp : (s.ackAged).aqp = s.aqp := rfl
@[simp] theorem State.ackAged_apu : (s.ackAged).apu = s.apu := rfl
@[simp] theorem State.ackAged_wnu : (s.ackAged).wnu = s.wnu := rfl
@[simp] theorem State.ackAged_sst : (s.ackAged).sst = s.sst := rfl
@[simp] theorem State.ackAged_fck : (s.ackAged).fck = s.fck := rfl
@[simp] theorem State.ackAged_flp : (s.ackAged).flp = s.flp := rfl
@[simp] theorem State.ackAged_fhp : (s.ackAged).fhp = s.fhp := rfl
@[simp] theorem State.ackAged_gwp : (s.ackAged).gwp = s.gwp := rfl
@[simp] theorem State.ackAged_power : (s.ackAged).power = s.power := rfl
@[simp] theorem State.ackAged_due : (s.ackAged).due = s.due := rfl
@[simp] theorem State.ackAged_pending : (s.ackAged).pending = s.pending := rfl

@[simp] theorem State.setSections_ckt (a b c : Nat) : (s.setSections a b c).ckt = s.ckt := rfl
@[simp] theorem State.setSections_freeLines (a b c : Nat) : (s.setSections a b c).freeLines = s.freeLines := rfl
@[simp] theorem State.setSections_tdu (a b c : Nat) : (s.setSections a b c).tdu = s.tdu := rfl
@[simp] theorem State.setSections_fmp (a b c : Nat) : (s.setSections a b c).fmp = s.fmp := rfl
@[simp] theorem State.setSections_aqp (a b c : Nat) : (s.setSections a b c).aqp = s.aqp := rfl
@[simp] theorem State.setSections_apu (a b c : Nat) : (s.setSections a b c).apu = s.apu := rfl
@[simp] theorem State.setSections_wnu (a b c : Nat) : (s.setSections a b c).wnu = s.wnu := rfl
@[simp] theorem State.setSections_sst_site (a b c : Nat) : (s.setSections a b c).sst.site = s.sst.site := rfl
@[simp] theorem State.setSections_sst_factory (a b c : Nat) : (s.setSections a b c).sst.factory = s.sst.factory := rfl
@[simp] theorem State.setSections_sst_save (a b c : Nat) : (s.setSections a b c).sst.save = s.sst.save := rfl
@[simp] theorem State.setSections_sst_saveCopy (a b c : Nat) : (s.setSections a b c).sst.saveCopy = s.sst.saveCopy := rfl
@[simp] theorem State.setSections_sst_loaded (a b c : Nat) : (s.setSections a b c).sst.loaded = s.sst.loaded := rfl
@[simp] theorem State.setSections_fck (a b c : Nat) : (s.setSections a b c).fck = s.fck := rfl
@[simp] theorem State.setSections_flp (a b c : Nat) : (s.setSections a b c).flp = s.flp := rfl
@[simp] theorem State.setSections_fhp (a b c : Nat) : (s.setSections a b c).fhp = s.fhp := rfl
@[simp] theorem State.setSections_gwp (a b c : Nat) : (s.setSections a b c).gwp = s.gwp := rfl
@[simp] theorem State.setSections_power (a b c : Nat) : (s.setSections a b c).power = s.power := rfl
@[simp] theorem State.setSections_due (a b c : Nat) : (s.setSections a b c).due = s.due := rfl
@[simp] theorem State.setSections_pending (a b c : Nat) : (s.setSections a b c).pending = s.pending := rfl

@[simp] theorem State.writeTerminal_ckt (t : Nat) (r : Role) (m : BitVec 8) : (s.writeTerminal t r m).ckt = s.ckt := rfl
@[simp] theorem State.writeTerminal_freeLines (t : Nat) (r : Role) (m : BitVec 8) : (s.writeTerminal t r m).freeLines = s.freeLines := rfl
@[simp] theorem State.writeTerminal_tdu (t : Nat) (r : Role) (m : BitVec 8) : (s.writeTerminal t r m).tdu = s.tdu := rfl
@[simp] theorem State.writeTerminal_fmp (t : Nat) (r : Role) (m : BitVec 8) : (s.writeTerminal t r m).fmp = s.fmp := rfl
@[simp] theorem State.writeTerminal_aqp (t : Nat) (r : Role) (m : BitVec 8) : (s.writeTerminal t r m).aqp = s.aqp := rfl
@[simp] theorem State.writeTerminal_apu (t : Nat) (r : Role) (m : BitVec 8) : (s.writeTerminal t r m).apu = s.apu := rfl
@[simp] theorem State.writeTerminal_wnu (t : Nat) (r : Role) (m : BitVec 8) : (s.writeTerminal t r m).wnu = s.wnu := rfl
@[simp] theorem State.writeTerminal_sst_site (t : Nat) (r : Role) (m : BitVec 8) : (s.writeTerminal t r m).sst.site = s.sst.site := rfl
@[simp] theorem State.writeTerminal_sst_factory (t : Nat) (r : Role) (m : BitVec 8) : (s.writeTerminal t r m).sst.factory = s.sst.factory := rfl
@[simp] theorem State.writeTerminal_sst_save (t : Nat) (r : Role) (m : BitVec 8) : (s.writeTerminal t r m).sst.save = s.sst.save := rfl
@[simp] theorem State.writeTerminal_sst_saveCopy (t : Nat) (r : Role) (m : BitVec 8) : (s.writeTerminal t r m).sst.saveCopy = s.sst.saveCopy := rfl
@[simp] theorem State.writeTerminal_sst_loaded (t : Nat) (r : Role) (m : BitVec 8) : (s.writeTerminal t r m).sst.loaded = s.sst.loaded := rfl
@[simp] theorem State.writeTerminal_fck (t : Nat) (r : Role) (m : BitVec 8) : (s.writeTerminal t r m).fck = s.fck := rfl
@[simp] theorem State.writeTerminal_flp (t : Nat) (r : Role) (m : BitVec 8) : (s.writeTerminal t r m).flp = s.flp := rfl
@[simp] theorem State.writeTerminal_fhp (t : Nat) (r : Role) (m : BitVec 8) : (s.writeTerminal t r m).fhp = s.fhp := rfl
@[simp] theorem State.writeTerminal_gwp (t : Nat) (r : Role) (m : BitVec 8) : (s.writeTerminal t r m).gwp = s.gwp := rfl
@[simp] theorem State.writeTerminal_power (t : Nat) (r : Role) (m : BitVec 8) : (s.writeTerminal t r m).power = s.power := rfl
@[simp] theorem State.writeTerminal_due (t : Nat) (r : Role) (m : BitVec 8) : (s.writeTerminal t r m).due = s.due := rfl
@[simp] theorem State.writeTerminal_pending (t : Nat) (r : Role) (m : BitVec 8) : (s.writeTerminal t r m).pending = s.pending := rfl

@[simp] theorem State.roleChanged_ckt_nextNumber (t : Nat) (o n : Role) : (s.roleChanged t o n).ckt.nextNumber = s.ckt.nextNumber := by simp only [State.roleChanged]; (repeat' split) <;> simp
@[simp] theorem State.roleChanged_freeLines (t : Nat) (o n : Role) : (s.roleChanged t o n).freeLines = s.freeLines := by simp only [State.roleChanged]; (repeat' split) <;> simp
@[simp] theorem State.roleChanged_fmp_lists (t : Nat) (o n : Role) : (s.roleChanged t o n).fmp.lists = s.fmp.lists := by simp only [State.roleChanged]; (repeat' split) <;> simp
@[simp] theorem State.roleChanged_fmp_lastHeard (t : Nat) (o n : Role) : (s.roleChanged t o n).fmp.lastHeard = s.fmp.lastHeard := by simp only [State.roleChanged]; (repeat' split) <;> simp
@[simp] theorem State.roleChanged_aqp (t : Nat) (o n : Role) : (s.roleChanged t o n).aqp = s.aqp := by simp only [State.roleChanged]; (repeat' split) <;> simp
@[simp] theorem State.roleChanged_apu_counter (t : Nat) (o n : Role) : (s.roleChanged t o n).apu.counter = s.apu.counter := by simp only [State.roleChanged]; (repeat' split) <;> simp
@[simp] theorem State.roleChanged_wnu_startup (t : Nat) (o n : Role) : (s.roleChanged t o n).wnu.startup = s.wnu.startup := by simp only [State.roleChanged]; (repeat' split) <;> simp
@[simp] theorem State.roleChanged_wnu_startKind (t : Nat) (o n : Role) : (s.roleChanged t o n).wnu.startKind = s.wnu.startKind := by simp only [State.roleChanged]; (repeat' split) <;> simp
@[simp] theorem State.roleChanged_sst (t : Nat) (o n : Role) : (s.roleChanged t o n).sst = s.sst := by simp only [State.roleChanged]; (repeat' split) <;> simp
@[simp] theorem State.roleChanged_fck (t : Nat) (o n : Role) : (s.roleChanged t o n).fck = s.fck := by simp only [State.roleChanged]; (repeat' split) <;> simp
@[simp] theorem State.roleChanged_flp (t : Nat) (o n : Role) : (s.roleChanged t o n).flp = s.flp := by simp only [State.roleChanged]; (repeat' split) <;> simp
@[simp] theorem State.roleChanged_fhp (t : Nat) (o n : Role) : (s.roleChanged t o n).fhp = s.fhp := by simp only [State.roleChanged]; (repeat' split) <;> simp
@[simp] theorem State.roleChanged_gwp (t : Nat) (o n : Role) : (s.roleChanged t o n).gwp = s.gwp := by simp only [State.roleChanged]; (repeat' split) <;> simp
@[simp] theorem State.roleChanged_power (t : Nat) (o n : Role) : (s.roleChanged t o n).power = s.power := by simp only [State.roleChanged]; (repeat' split) <;> simp
@[simp] theorem State.roleChanged_due (t : Nat) (o n : Role) : (s.roleChanged t o n).due = s.due := by simp only [State.roleChanged]; (repeat' split) <;> simp
@[simp] theorem State.roleChanged_pending (t : Nat) (o n : Role) : (s.roleChanged t o n).pending = s.pending := by simp only [State.roleChanged]; (repeat' split) <;> simp

@[simp] theorem State.startSave_ckt : (s.startSave).ckt = s.ckt := rfl
@[simp] theorem State.startSave_freeLines : (s.startSave).freeLines = s.freeLines := rfl
@[simp] theorem State.startSave_tdu : (s.startSave).tdu = s.tdu := rfl
@[simp] theorem State.startSave_fmp : (s.startSave).fmp = s.fmp := rfl
@[simp] theorem State.startSave_aqp : (s.startSave).aqp = s.aqp := rfl
@[simp] theorem State.startSave_apu : (s.startSave).apu = s.apu := rfl
@[simp] theorem State.startSave_wnu : (s.startSave).wnu = s.wnu := rfl
@[simp] theorem State.startSave_sst_work : (s.startSave).sst.work = s.sst.work := rfl
@[simp] theorem State.startSave_sst_factory : (s.startSave).sst.factory = s.sst.factory := rfl
@[simp] theorem State.startSave_sst_loaded : (s.startSave).sst.loaded = s.sst.loaded := rfl
@[simp] theorem State.startSave_fck : (s.startSave).fck = s.fck := rfl
@[simp] theorem State.startSave_flp : (s.startSave).flp = s.flp := rfl
@[simp] theorem State.startSave_fhp : (s.startSave).fhp = s.fhp := rfl
@[simp] theorem State.startSave_gwp : (s.startSave).gwp = s.gwp := rfl
@[simp] theorem State.startSave_power : (s.startSave).power = s.power := rfl
@[simp] theorem State.startSave_due : (s.startSave).due = s.due := rfl
@[simp] theorem State.startSave_pending : (s.startSave).pending = s.pending := rfl

@[simp] theorem State.finishSave_ckt (b : Bool) : (s.finishSave b).ckt = s.ckt := rfl
@[simp] theorem State.finishSave_freeLines (b : Bool) : (s.finishSave b).freeLines = s.freeLines := rfl
@[simp] theorem State.finishSave_tdu (b : Bool) : (s.finishSave b).tdu = s.tdu := rfl
@[simp] theorem State.finishSave_fmp (b : Bool) : (s.finishSave b).fmp = s.fmp := rfl
@[simp] theorem State.finishSave_aqp (b : Bool) : (s.finishSave b).aqp = s.aqp := rfl
@[simp] theorem State.finishSave_apu (b : Bool) : (s.finishSave b).apu = s.apu := rfl
@[simp] theorem State.finishSave_wnu (b : Bool) : (s.finishSave b).wnu = s.wnu := rfl
@[simp] theorem State.finishSave_sst_work (b : Bool) : (s.finishSave b).sst.work = s.sst.work := rfl
@[simp] theorem State.finishSave_sst_factory (b : Bool) : (s.finishSave b).sst.factory = s.sst.factory := rfl
@[simp] theorem State.finishSave_sst_loaded (b : Bool) : (s.finishSave b).sst.loaded = s.sst.loaded := rfl
@[simp] theorem State.finishSave_fck (b : Bool) : (s.finishSave b).fck = s.fck := rfl
@[simp] theorem State.finishSave_flp (b : Bool) : (s.finishSave b).flp = s.flp := rfl
@[simp] theorem State.finishSave_fhp (b : Bool) : (s.finishSave b).fhp = s.fhp := rfl
@[simp] theorem State.finishSave_gwp (b : Bool) : (s.finishSave b).gwp = s.gwp := rfl
@[simp] theorem State.finishSave_power (b : Bool) : (s.finishSave b).power = s.power := rfl
@[simp] theorem State.finishSave_due (b : Bool) : (s.finishSave b).due = s.due := rfl
@[simp] theorem State.finishSave_pending (b : Bool) : (s.finishSave b).pending = s.pending := rfl

@[simp] theorem State.loadCopy_ckt_nextNumber (w : Settings) (l : LoadedFrom) : (s.loadCopy w l).ckt.nextNumber = s.ckt.nextNumber := by
  simp only [State.loadCopy]
  rw [foldl_keeps (fun s : State => s.ckt.nextNumber)]; simp
@[simp] theorem State.loadCopy_freeLines (w : Settings) (l : LoadedFrom) : (s.loadCopy w l).freeLines = s.freeLines := by
  simp only [State.loadCopy]
  rw [foldl_keeps (fun s : State => s.freeLines)]; simp
@[simp] theorem State.loadCopy_fmp_lists (w : Settings) (l : LoadedFrom) : (s.loadCopy w l).fmp.lists = s.fmp.lists := by
  simp only [State.loadCopy]
  rw [foldl_keeps (fun s : State => s.fmp.lists)]; simp
@[simp] theorem State.loadCopy_fmp_lastHeard (w : Settings) (l : LoadedFrom) : (s.loadCopy w l).fmp.lastHeard = s.fmp.lastHeard := by
  simp only [State.loadCopy]
  rw [foldl_keeps (fun s : State => s.fmp.lastHeard)]; simp
@[simp] theorem State.loadCopy_aqp (w : Settings) (l : LoadedFrom) : (s.loadCopy w l).aqp = s.aqp := by
  simp only [State.loadCopy]
  rw [foldl_keeps (fun s : State => s.aqp)]; simp
@[simp] theorem State.loadCopy_apu_counter (w : Settings) (l : LoadedFrom) : (s.loadCopy w l).apu.counter = s.apu.counter := by
  simp only [State.loadCopy]
  rw [foldl_keeps (fun s : State => s.apu.counter)]; simp
@[simp] theorem State.loadCopy_wnu_startup (w : Settings) (l : LoadedFrom) : (s.loadCopy w l).wnu.startup = s.wnu.startup := by
  simp only [State.loadCopy]
  rw [foldl_keeps (fun s : State => s.wnu.startup)]; simp
@[simp] theorem State.loadCopy_wnu_startKind (w : Settings) (l : LoadedFrom) : (s.loadCopy w l).wnu.startKind = s.wnu.startKind := by
  simp only [State.loadCopy]
  rw [foldl_keeps (fun s : State => s.wnu.startKind)]; simp
@[simp] theorem State.loadCopy_sst_site (w : Settings) (l : LoadedFrom) : (s.loadCopy w l).sst.site = s.sst.site := by
  simp only [State.loadCopy]
  rw [foldl_keeps (fun s : State => s.sst.site)]; simp
@[simp] theorem State.loadCopy_sst_factory (w : Settings) (l : LoadedFrom) : (s.loadCopy w l).sst.factory = s.sst.factory := by
  simp only [State.loadCopy]
  rw [foldl_keeps (fun s : State => s.sst.factory)]; simp
@[simp] theorem State.loadCopy_sst_save (w : Settings) (l : LoadedFrom) : (s.loadCopy w l).sst.save = s.sst.save := by
  simp only [State.loadCopy]
  rw [foldl_keeps (fun s : State => s.sst.save)]; simp
@[simp] theorem State.loadCopy_sst_saveCopy (w : Settings) (l : LoadedFrom) : (s.loadCopy w l).sst.saveCopy = s.sst.saveCopy := by
  simp only [State.loadCopy]
  rw [foldl_keeps (fun s : State => s.sst.saveCopy)]; simp
@[simp] theorem State.loadCopy_fck (w : Settings) (l : LoadedFrom) : (s.loadCopy w l).fck = s.fck := by
  simp only [State.loadCopy]
  rw [foldl_keeps (fun s : State => s.fck)]; simp
@[simp] theorem State.loadCopy_flp (w : Settings) (l : LoadedFrom) : (s.loadCopy w l).flp = s.flp := by
  simp only [State.loadCopy]
  rw [foldl_keeps (fun s : State => s.flp)]; simp
@[simp] theorem State.loadCopy_fhp (w : Settings) (l : LoadedFrom) : (s.loadCopy w l).fhp = s.fhp := by
  simp only [State.loadCopy]
  rw [foldl_keeps (fun s : State => s.fhp)]; simp
@[simp] theorem State.loadCopy_gwp (w : Settings) (l : LoadedFrom) : (s.loadCopy w l).gwp = s.gwp := by
  simp only [State.loadCopy]
  rw [foldl_keeps (fun s : State => s.gwp)]; simp
@[simp] theorem State.loadCopy_power (w : Settings) (l : LoadedFrom) : (s.loadCopy w l).power = s.power := by
  simp only [State.loadCopy]
  rw [foldl_keeps (fun s : State => s.power)]; simp
@[simp] theorem State.loadCopy_due (w : Settings) (l : LoadedFrom) : (s.loadCopy w l).due = s.due := by
  simp only [State.loadCopy]
  rw [foldl_keeps (fun s : State => s.due)]; simp
@[simp] theorem State.loadCopy_pending (w : Settings) (l : LoadedFrom) : (s.loadCopy w l).pending = s.pending := by
  simp only [State.loadCopy]
  rw [foldl_keeps (fun s : State => s.pending)]; simp

@[simp] theorem State.setClock_ckt (d m : Nat) : (s.setClock d m).ckt = s.ckt := rfl
@[simp] theorem State.setClock_freeLines (d m : Nat) : (s.setClock d m).freeLines = s.freeLines := rfl
@[simp] theorem State.setClock_tdu (d m : Nat) : (s.setClock d m).tdu = s.tdu := rfl
@[simp] theorem State.setClock_fmp (d m : Nat) : (s.setClock d m).fmp = s.fmp := rfl
@[simp] theorem State.setClock_aqp (d m : Nat) : (s.setClock d m).aqp = s.aqp := rfl
@[simp] theorem State.setClock_apu (d m : Nat) : (s.setClock d m).apu = s.apu := rfl
@[simp] theorem State.setClock_wnu (d m : Nat) : (s.setClock d m).wnu = s.wnu := rfl
@[simp] theorem State.setClock_sst (d m : Nat) : (s.setClock d m).sst = s.sst := rfl
@[simp] theorem State.setClock_flp (d m : Nat) : (s.setClock d m).flp = s.flp := rfl
@[simp] theorem State.setClock_fhp (d m : Nat) : (s.setClock d m).fhp = s.fhp := rfl
@[simp] theorem State.setClock_gwp (d m : Nat) : (s.setClock d m).gwp = s.gwp := rfl
@[simp] theorem State.setClock_power (d m : Nat) : (s.setClock d m).power = s.power := rfl
@[simp] theorem State.setClock_due (d m : Nat) : (s.setClock d m).due = s.due := rfl
@[simp] theorem State.setClock_pending (d m : Nat) : (s.setClock d m).pending = s.pending := rfl

end Sys2Proof.Machine
end

