-- ==== Sys2Proof/Laws/FramesPorts.lean ====
section
/-! SUPPORT. Frames of the acquirer link, the marks of due tests and the ports: each field that an operation leaves alone, one simp lemma each. -/

namespace Sys2Proof.Machine

set_option Elab.async false

variable (s : State)

@[simp] theorem State.clearTimeouts_ckt : (s.clearTimeouts).ckt = s.ckt := rfl
@[simp] theorem State.clearTimeouts_freeLines : (s.clearTimeouts).freeLines = s.freeLines := rfl
@[simp] theorem State.clearTimeouts_tdu : (s.clearTimeouts).tdu = s.tdu := rfl
@[simp] theorem State.clearTimeouts_fmp : (s.clearTimeouts).fmp = s.fmp := rfl
@[simp] theorem State.clearTimeouts_aqp_linkOk : (s.clearTimeouts).aqp.linkOk = s.aqp.linkOk := rfl
@[simp] theorem State.clearTimeouts_aqp_link : (s.clearTimeouts).aqp.link = s.aqp.link := rfl
@[simp] theorem State.clearTimeouts_aqp_entries : (s.clearTimeouts).aqp.entries = s.aqp.entries := rfl
@[simp] theorem State.clearTimeouts_aqp_queue : (s.clearTimeouts).aqp.queue = s.aqp.queue := rfl
@[simp] theorem State.clearTimeouts_aqp_tagCounter : (s.clearTimeouts).aqp.tagCounter = s.aqp.tagCounter := rfl
@[simp] theorem State.clearTimeouts_aqp_discarded : (s.clearTimeouts).aqp.discarded = s.aqp.discarded := rfl
@[simp] theorem State.clearTimeouts_apu : (s.clearTimeouts).apu = s.apu := rfl
@[simp] theorem State.clearTimeouts_wnu : (s.clearTimeouts).wnu = s.wnu := rfl
@[simp] theorem State.clearTimeouts_sst : (s.clearTimeouts).sst = s.sst := rfl
@[simp] theorem State.clearTimeouts_fck : (s.clearTimeouts).fck = s.fck := rfl
@[simp] theorem State.clearTimeouts_flp : (s.clearTimeouts).flp = s.flp := rfl
@[simp] theorem State.clearTimeouts_fhp : (s.clearTimeouts).fhp = s.fhp := rfl
@[simp] theorem State.clearTimeouts_gwp : (s.clearTimeouts).gwp = s.gwp := rfl
@[simp] theorem State.clearTimeouts_power : (s.clearTimeouts).power = s.power := rfl
@[simp] theorem State.clearTimeouts_due : (s.clearTimeouts).due = s.due := rfl
@[simp] theorem State.clearTimeouts_pending : (s.clearTimeouts).pending = s.pending := rfl

@[simp] theorem State.discardFrame_ckt : (s.discardFrame).ckt = s.ckt := rfl
@[simp] theorem State.discardFrame_freeLines : (s.discardFrame).freeLines = s.freeLines := rfl
@[simp] theorem State.discardFrame_tdu : (s.discardFrame).tdu = s.tdu := rfl
@[simp] theorem State.discardFrame_fmp : (s.discardFrame).fmp = s.fmp := rfl
@[simp] theorem State.discardFrame_aqp_linkOk : (s.discardFrame).aqp.linkOk = s.aqp.linkOk := rfl
@[simp] theorem State.discardFrame_aqp_link : (s.discardFrame).aqp.link = s.aqp.link := rfl
@[simp] theorem State.discardFrame_aqp_timeouts : (s.discardFrame).aqp.timeouts = s.aqp.timeouts := rfl
@[simp] theorem State.discardFrame_aqp_entries : (s.discardFrame).aqp.entries = s.aqp.entries := rfl
@[simp] theorem State.discardFrame_aqp_queue : (s.discardFrame).aqp.queue = s.aqp.queue := rfl
@[simp] theorem State.discardFrame_aqp_tagCounter : (s.discardFrame).aqp.tagCounter = s.aqp.tagCounter := rfl
@[simp] theorem State.discardFrame_apu : (s.discardFrame).apu = s.apu := rfl
@[simp] theorem State.discardFrame_wnu : (s.discardFrame).wnu = s.wnu := rfl
@[simp] theorem State.discardFrame_sst : (s.discardFrame).sst = s.sst := rfl
@[simp] theorem State.discardFrame_fck : (s.discardFrame).fck = s.fck := rfl
@[simp] theorem State.discardFrame_flp : (s.discardFrame).flp = s.flp := rfl
@[simp] theorem State.discardFrame_fhp : (s.discardFrame).fhp = s.fhp := rfl
@[simp] theorem State.discardFrame_gwp : (s.discardFrame).gwp = s.gwp := rfl
@[simp] theorem State.discardFrame_power : (s.discardFrame).power = s.power := rfl
@[simp] theorem State.discardFrame_due : (s.discardFrame).due = s.due := rfl
@[simp] theorem State.discardFrame_pending : (s.discardFrame).pending = s.pending := rfl

@[simp] theorem State.setEntry_ckt (j : Nat) (e : Option Exchange) : (s.setEntry j e).ckt = s.ckt := rfl
@[simp] theorem State.setEntry_freeLines (j : Nat) (e : Option Exchange) : (s.setEntry j e).freeLines = s.freeLines := rfl
@[simp] theorem State.setEntry_tdu (j : Nat) (e : Option Exchange) : (s.setEntry j e).tdu = s.tdu := rfl
@[simp] theorem State.setEntry_fmp (j : Nat) (e : Option Exchange) : (s.setEntry j e).fmp = s.fmp := rfl
@[simp] theorem State.setEntry_aqp_linkOk (j : Nat) (e : Option Exchange) : (s.setEntry j e).aqp.linkOk = s.aqp.linkOk := rfl
@[simp] theorem State.setEntry_aqp_link (j : Nat) (e : Option Exchange) : (s.setEntry j e).aqp.link = s.aqp.link := rfl
@[simp] theorem State.setEntry_aqp_timeouts (j : Nat) (e : Option Exchange) : (s.setEntry j e).aqp.timeouts = s.aqp.timeouts := rfl
@[simp] theorem State.setEntry_aqp_queue (j : Nat) (e : Option Exchange) : (s.setEntry j e).aqp.queue = s.aqp.queue := rfl
@[simp] theorem State.setEntry_aqp_tagCounter (j : Nat) (e : Option Exchange) : (s.setEntry j e).aqp.tagCounter = s.aqp.tagCounter := rfl
@[simp] theorem State.setEntry_aqp_discarded (j : Nat) (e : Option Exchange) : (s.setEntry j e).aqp.discarded = s.aqp.discarded := rfl
@[simp] theorem State.setEntry_apu (j : Nat) (e : Option Exchange) : (s.setEntry j e).apu = s.apu := rfl
@[simp] theorem State.setEntry_wnu (j : Nat) (e : Option Exchange) : (s.setEntry j e).wnu = s.wnu := rfl
@[simp] theorem State.setEntry_sst (j : Nat) (e : Option Exchange) : (s.setEntry j e).sst = s.sst := rfl
@[simp] theorem State.setEntry_fck (j : Nat) (e : Option Exchange) : (s.setEntry j e).fck = s.fck := rfl
@[simp] theorem State.setEntry_flp (j : Nat) (e : Option Exchange) : (s.setEntry j e).flp = s.flp := rfl
@[simp] theorem State.setEntry_fhp (j : Nat) (e : Option Exchange) : (s.setEntry j e).fhp = s.fhp := rfl
@[simp] theorem State.setEntry_gwp (j : Nat) (e : Option Exchange) : (s.setEntry j e).gwp = s.gwp := rfl
@[simp] theorem State.setEntry_power (j : Nat) (e : Option Exchange) : (s.setEntry j e).power = s.power := rfl
@[simp] theorem State.setEntry_due (j : Nat) (e : Option Exchange) : (s.setEntry j e).due = s.due := rfl
@[simp] theorem State.setEntry_pending (j : Nat) (e : Option Exchange) : (s.setEntry j e).pending = s.pending := rfl

@[simp] theorem State.setLinkOk_ckt (b : Bool) : (s.setLinkOk b).ckt = s.ckt := rfl
@[simp] theorem State.setLinkOk_freeLines (b : Bool) : (s.setLinkOk b).freeLines = s.freeLines := rfl
@[simp] theorem State.setLinkOk_tdu (b : Bool) : (s.setLinkOk b).tdu = s.tdu := rfl
@[simp] theorem State.setLinkOk_fmp (b : Bool) : (s.setLinkOk b).fmp = s.fmp := rfl
@[simp] theorem State.setLinkOk_aqp_link (b : Bool) : (s.setLinkOk b).aqp.link = s.aqp.link := rfl
@[simp] theorem State.setLinkOk_aqp_timeouts (b : Bool) : (s.setLinkOk b).aqp.timeouts = s.aqp.timeouts := rfl
@[simp] theorem State.setLinkOk_aqp_entries (b : Bool) : (s.setLinkOk b).aqp.entries = s.aqp.entries := rfl
@[simp] theorem State.setLinkOk_aqp_queue (b : Bool) : (s.setLinkOk b).aqp.queue = s.aqp.queue := rfl
@[simp] theorem State.setLinkOk_aqp_tagCounter (b : Bool) : (s.setLinkOk b).aqp.tagCounter = s.aqp.tagCounter := rfl
@[simp] theorem State.setLinkOk_aqp_discarded (b : Bool) : (s.setLinkOk b).aqp.discarded = s.aqp.discarded := rfl
@[simp] theorem State.setLinkOk_apu (b : Bool) : (s.setLinkOk b).apu = s.apu := rfl
@[simp] theorem State.setLinkOk_wnu (b : Bool) : (s.setLinkOk b).wnu = s.wnu := rfl
@[simp] theorem State.setLinkOk_sst (b : Bool) : (s.setLinkOk b).sst = s.sst := rfl
@[simp] theorem State.setLinkOk_fck (b : Bool) : (s.setLinkOk b).fck = s.fck := rfl
@[simp] theorem State.setLinkOk_flp (b : Bool) : (s.setLinkOk b).flp = s.flp := rfl
@[simp] theorem State.setLinkOk_fhp (b : Bool) : (s.setLinkOk b).fhp = s.fhp := rfl
@[simp] theorem State.setLinkOk_gwp (b : Bool) : (s.setLinkOk b).gwp = s.gwp := rfl
@[simp] theorem State.setLinkOk_power (b : Bool) : (s.setLinkOk b).power = s.power := rfl
@[simp] theorem State.setLinkOk_due (b : Bool) : (s.setLinkOk b).due = s.due := rfl
@[simp] theorem State.setLinkOk_pending (b : Bool) : (s.setLinkOk b).pending = s.pending := rfl

@[simp] theorem State.clearFault_ckt : (s.clearFault).ckt = s.ckt := by simp only [State.clearFault]; (repeat' split) <;> simp
@[simp] theorem State.clearFault_freeLines : (s.clearFault).freeLines = s.freeLines := by simp only [State.clearFault]; (repeat' split) <;> simp
@[simp] theorem State.clearFault_tdu : (s.clearFault).tdu = s.tdu := by simp only [State.clearFault]; (repeat' split) <;> simp
@[simp] theorem State.clearFault_fmp : (s.clearFault).fmp = s.fmp := by simp only [State.clearFault]; (repeat' split) <;> simp
@[simp] theorem State.clearFault_aqp_linkOk : (s.clearFault).aqp.linkOk = s.aqp.linkOk := by simp only [State.clearFault]; (repeat' split) <;> simp
@[simp] theorem State.clearFault_aqp_entries : (s.clearFault).aqp.entries = s.aqp.entries := by simp only [State.clearFault]; (repeat' split) <;> simp
@[simp] theorem State.clearFault_aqp_queue : (s.clearFault).aqp.queue = s.aqp.queue := by simp only [State.clearFault]; (repeat' split) <;> simp
@[simp] theorem State.clearFault_aqp_tagCounter : (s.clearFault).aqp.tagCounter = s.aqp.tagCounter := by simp only [State.clearFault]; (repeat' split) <;> simp
@[simp] theorem State.clearFault_aqp_discarded : (s.clearFault).aqp.discarded = s.aqp.discarded := by simp only [State.clearFault]; (repeat' split) <;> simp
@[simp] theorem State.clearFault_apu : (s.clearFault).apu = s.apu := by simp only [State.clearFault]; (repeat' split) <;> simp
@[simp] theorem State.clearFault_wnu : (s.clearFault).wnu = s.wnu := by simp only [State.clearFault]; (repeat' split) <;> simp
@[simp] theorem State.clearFault_sst : (s.clearFault).sst = s.sst := by simp only [State.clearFault]; (repeat' split) <;> simp
@[simp] theorem State.clearFault_fck : (s.clearFault).fck = s.fck := by simp only [State.clearFault]; (repeat' split) <;> simp
@[simp] theorem State.clearFault_flp : (s.clearFault).flp = s.flp := by simp only [State.clearFault]; (repeat' split) <;> simp
@[simp] theorem State.clearFault_fhp : (s.clearFault).fhp = s.fhp := by simp only [State.clearFault]; (repeat' split) <;> simp
@[simp] theorem State.clearFault_gwp : (s.clearFault).gwp = s.gwp := by simp only [State.clearFault]; (repeat' split) <;> simp
@[simp] theorem State.clearFault_power : (s.clearFault).power = s.power := by simp only [State.clearFault]; (repeat' split) <;> simp
@[simp] theorem State.clearFault_due : (s.clearFault).due = s.due := by simp only [State.clearFault]; (repeat' split) <;> simp
@[simp] theorem State.clearFault_pending : (s.clearFault).pending = s.pending := by simp only [State.clearFault]; (repeat' split) <;> simp

@[simp] theorem State.minuteTested_ckt : (s.minuteTested).ckt = s.ckt := rfl
@[simp] theorem State.minuteTested_freeLines : (s.minuteTested).freeLines = s.freeLines := rfl
@[simp] theorem State.minuteTested_tdu : (s.minuteTested).tdu = s.tdu := rfl
@[simp] theorem State.minuteTested_fmp : (s.minuteTested).fmp = s.fmp := rfl
@[simp] theorem State.minuteTested_aqp : (s.minuteTested).aqp = s.aqp := rfl
@[simp] theorem State.minuteTested_apu : (s.minuteTested).apu = s.apu := rfl
@[simp] theorem State.minuteTested_wnu : (s.minuteTested).wnu = s.wnu := rfl
@[simp] theorem State.minuteTested_sst : (s.minuteTested).sst = s.sst := rfl
@[simp] theorem State.minuteTested_fck : (s.minuteTested).fck = s.fck := rfl
@[simp] theorem State.minuteTested_flp : (s.minuteTested).flp = s.flp := rfl
@[simp] theorem State.minuteTested_fhp : (s.minuteTested).fhp = s.fhp := rfl
@[simp] theorem State.minuteTested_gwp : (s.minuteTested).gwp = s.gwp := rfl
@[simp] theorem State.minuteTested_power : (s.minuteTested).power = s.power := rfl
@[simp] theorem State.minuteTested_due_exchanges : (s.minuteTested).due.exchanges = s.due.exchanges := rfl
@[simp] theorem State.minuteTested_due_leases : (s.minuteTested).due.leases = s.due.leases := rfl
@[simp] theorem State.minuteTested_due_approvals : (s.minuteTested).due.approvals = s.due.approvals := rfl
@[simp] theorem State.minuteTested_due_silences : (s.minuteTested).due.silences = s.due.silences := rfl
@[simp] theorem State.minuteTested_pending : (s.minuteTested).pending = s.pending := rfl

/-- Minutes that pass change the minute clock and the ageings found due, and nothing else. -/
theorem State.passMinutes_frame (n : Nat) : s.passMinutes n =
    { s with fck := (s.passMinutes n).fck, due := { s.due with ages := (s.passMinutes n).due.ages } } := by
  induction n generalizing s with
  | zero => rfl
  | succ n ih => exact ih _

@[simp] theorem State.doneExchange_ckt (t : Nat) : (s.doneExchange t).ckt = s.ckt := rfl
@[simp] theorem State.doneExchange_freeLines (t : Nat) : (s.doneExchange t).freeLines = s.freeLines := rfl
@[simp] theorem State.doneExchange_tdu (t : Nat) : (s.doneExchange t).tdu = s.tdu := rfl
@[simp] theorem State.doneExchange_fmp (t : Nat) : (s.doneExchange t).fmp = s.fmp := rfl
@[simp] theorem State.doneExchange_aqp (t : Nat) : (s.doneExchange t).aqp = s.aqp := rfl
@[simp] theorem State.doneExchange_apu (t : Nat) : (s.doneExchange t).apu = s.apu := rfl
@[simp] theorem State.doneExchange_wnu (t : Nat) : (s.doneExchange t).wnu = s.wnu := rfl
@[simp] theorem State.doneExchange_sst (t : Nat) : (s.doneExchange t).sst = s.sst := rfl
@[simp] theorem State.doneExchange_fck (t : Nat) : (s.doneExchange t).fck = s.fck := rfl
@[simp] theorem State.doneExchange_flp (t : Nat) : (s.doneExchange t).flp = s.flp := rfl
@[simp] theorem State.doneExchange_fhp (t : Nat) : (s.doneExchange t).fhp = s.fhp := rfl
@[simp] theorem State.doneExchange_gwp (t : Nat) : (s.doneExchange t).gwp = s.gwp := rfl
@[simp] theorem State.doneExchange_power (t : Nat) : (s.doneExchange t).power = s.power := rfl
@[simp] theorem State.doneExchange_due_leases (t : Nat) : (s.doneExchange t).due.leases = s.due.leases := rfl
@[simp] theorem State.doneExchange_due_approvals (t : Nat) : (s.doneExchange t).due.approvals = s.due.approvals := rfl
@[simp] theorem State.doneExchange_due_silences (t : Nat) : (s.doneExchange t).due.silences = s.due.silences := rfl
@[simp] theorem State.doneExchange_due_ages (t : Nat) : (s.doneExchange t).due.ages = s.due.ages := rfl
@[simp] theorem State.doneExchange_pending (t : Nat) : (s.doneExchange t).pending = s.pending := rfl

@[simp] theorem State.doneApproval_ckt (t : Nat) : (s.doneApproval t).ckt = s.ckt := rfl
@[simp] theorem State.doneApproval_freeLines (t : Nat) : (s.doneApproval t).freeLines = s.freeLines := rfl
@[simp] theorem State.doneApproval_tdu (t : Nat) : (s.doneApproval t).tdu = s.tdu := rfl
@[simp] theorem State.doneApproval_fmp (t : Nat) : (s.doneApproval t).fmp = s.fmp := rfl
@[simp] theorem State.doneApproval_aqp (t : Nat) : (s.doneApproval t).aqp = s.aqp := rfl
@[simp] theorem State.doneApproval_apu (t : Nat) : (s.doneApproval t).apu = s.apu := rfl
@[simp] theorem State.doneApproval_wnu (t : Nat) : (s.doneApproval t).wnu = s.wnu := rfl
@[simp] theorem State.doneApproval_sst (t : Nat) : (s.doneApproval t).sst = s.sst := rfl
@[simp] theorem State.doneApproval_fck (t : Nat) : (s.doneApproval t).fck = s.fck := rfl
@[simp] theorem State.doneApproval_flp (t : Nat) : (s.doneApproval t).flp = s.flp := rfl
@[simp] theorem State.doneApproval_fhp (t : Nat) : (s.doneApproval t).fhp = s.fhp := rfl
@[simp] theorem State.doneApproval_gwp (t : Nat) : (s.doneApproval t).gwp = s.gwp := rfl
@[simp] theorem State.doneApproval_power (t : Nat) : (s.doneApproval t).power = s.power := rfl
@[simp] theorem State.doneApproval_due_exchanges (t : Nat) : (s.doneApproval t).due.exchanges = s.due.exchanges := rfl
@[simp] theorem State.doneApproval_due_leases (t : Nat) : (s.doneApproval t).due.leases = s.due.leases := rfl
@[simp] theorem State.doneApproval_due_silences (t : Nat) : (s.doneApproval t).due.silences = s.due.silences := rfl
@[simp] theorem State.doneApproval_due_ages (t : Nat) : (s.doneApproval t).due.ages = s.due.ages := rfl
@[simp] theorem State.doneApproval_pending (t : Nat) : (s.doneApproval t).pending = s.pending := rfl

@[simp] theorem State.doneLease_ckt (t : Nat) : (s.doneLease t).ckt = s.ckt := rfl
@[simp] theorem State.doneLease_freeLines (t : Nat) : (s.doneLease t).freeLines = s.freeLines := rfl
@[simp] theorem State.doneLease_tdu (t : Nat) : (s.doneLease t).tdu = s.tdu := rfl
@[simp] theorem State.doneLease_fmp (t : Nat) : (s.doneLease t).fmp = s.fmp := rfl
@[simp] theorem State.doneLease_aqp (t : Nat) : (s.doneLease t).aqp = s.aqp := rfl
@[simp] theorem State.doneLease_apu (t : Nat) : (s.doneLease t).apu = s.apu := rfl
@[simp] theorem State.doneLease_wnu (t : Nat) : (s.doneLease t).wnu = s.wnu := rfl
@[simp] theorem State.doneLease_sst (t : Nat) : (s.doneLease t).sst = s.sst := rfl
@[simp] theorem State.doneLease_fck (t : Nat) : (s.doneLease t).fck = s.fck := rfl
@[simp] theorem State.doneLease_flp (t : Nat) : (s.doneLease t).flp = s.flp := rfl
@[simp] theorem State.doneLease_fhp (t : Nat) : (s.doneLease t).fhp = s.fhp := rfl
@[simp] theorem State.doneLease_gwp (t : Nat) : (s.doneLease t).gwp = s.gwp := rfl
@[simp] theorem State.doneLease_power (t : Nat) : (s.doneLease t).power = s.power := rfl
@[simp] theorem State.doneLease_due_exchanges (t : Nat) : (s.doneLease t).due.exchanges = s.due.exchanges := rfl
@[simp] theorem State.doneLease_due_approvals (t : Nat) : (s.doneLease t).due.approvals = s.due.approvals := rfl
@[simp] theorem State.doneLease_due_silences (t : Nat) : (s.doneLease t).due.silences = s.due.silences := rfl
@[simp] theorem State.doneLease_due_ages (t : Nat) : (s.doneLease t).due.ages = s.due.ages := rfl
@[simp] theorem State.doneLease_pending (t : Nat) : (s.doneLease t).pending = s.pending := rfl

@[simp] theorem GatewayPort.sendHead_assembler (p : GatewayPort) : p.sendHead.assembler = p.assembler := by
  unfold GatewayPort.sendHead
  split <;> rfl
@[simp] theorem GatewayPort.sendHead_crcErrors (p : GatewayPort) : p.sendHead.crcErrors = p.crcErrors := by
  unfold GatewayPort.sendHead
  split <;> rfl
@[simp] theorem GatewayPort.sendHead_framingErrors (p : GatewayPort) : p.sendHead.framingErrors = p.framingErrors := by
  unfold GatewayPort.sendHead
  split <;> rfl
@[simp] theorem GatewayPort.sendHead_out (p : GatewayPort) : p.sendHead.out = p.out.tail := by
  unfold GatewayPort.sendHead
  split <;> simp_all
@[simp] theorem GatewayPort.sendHead_txd (p : GatewayPort) :
    p.sendHead.txd = (p.out.head?.map Frame.wire).getD p.txd := by
  unfold GatewayPort.sendHead
  split <;> simp_all

/-- All that a granted message does to the port: it joins the frames that wait, from which the head frame has left when
8 waited (10 R184; log entry 27). -/
theorem GatewayPort.sendMessage_eq (p : GatewayPort) (f : Frame) :
    p.sendMessage f = { p with
      out := (if p.out.length < 8 then p.out else p.out.tail) ++ [f]
      txd := if p.out.length < 8 then p.txd else (p.out.head?.map Frame.wire).getD p.txd } := by
  by_cases h : p.out.length < 8
  · simp [GatewayPort.sendMessage, Config.exchangeEntries, h]
  · simp only [GatewayPort.sendMessage, Config.exchangeEntries, h, if_false, GatewayPort.sendHead_out]
    rw [← p.sendHead_txd, ← p.sendHead_assembler, ← p.sendHead_crcErrors, ← p.sendHead_framingErrors]

@[simp] theorem GatewayPort.sendMessage_assembler (p : GatewayPort) (f : Frame) :
    (p.sendMessage f).assembler = p.assembler := by rw [p.sendMessage_eq f]

@[simp] theorem GatewayPort.sendMessage_crcErrors (p : GatewayPort) (f : Frame) :
    (p.sendMessage f).crcErrors = p.crcErrors := by rw [p.sendMessage_eq f]

@[simp] theorem GatewayPort.sendMessage_framingErrors (p : GatewayPort) (f : Frame) :
    (p.sendMessage f).framingErrors = p.framingErrors := by rw [p.sendMessage_eq f]

/-- A port within its 8 frames stays within them (10 R184). -/
theorem GatewayPort.sendMessage_length_le (p : GatewayPort) (f : Frame) (h : p.out.length ≤ 8) :
    (p.sendMessage f).out.length ≤ 8 := by
  rw [p.sendMessage_eq f]
  by_cases h' : p.out.length < 8
  · simp [h']
  · simp [h']; omega

@[simp] theorem State.grantNeed_gwp (j : Nat) (n : Need) (t : Tender) : (s.grantNeed j n t).gwp = s.gwp.sendMessage
    (.message s.nextTag n.kind.toNat (messageBody (s.numberAt t.slot) t n.kind (messageAmount t n.kind))) := rfl
@[simp] theorem State.grantNeed_ckt (j : Nat) (n : Need) (t : Tender) : (s.grantNeed j n t).ckt = s.ckt := rfl
@[simp] theorem State.grantNeed_freeLines (j : Nat) (n : Need) (t : Tender) : (s.grantNeed j n t).freeLines = s.freeLines := rfl
@[simp] theorem State.grantNeed_tdu_pendingList (j : Nat) (n : Need) (t : Tender) : (s.grantNeed j n t).tdu.pendingList = s.tdu.pendingList := rfl
@[simp] theorem State.grantNeed_fmp (j : Nat) (n : Need) (t : Tender) : (s.grantNeed j n t).fmp = s.fmp := rfl
@[simp] theorem State.grantNeed_aqp_linkOk (j : Nat) (n : Need) (t : Tender) : (s.grantNeed j n t).aqp.linkOk = s.aqp.linkOk := rfl
@[simp] theorem State.grantNeed_aqp_link (j : Nat) (n : Need) (t : Tender) : (s.grantNeed j n t).aqp.link = s.aqp.link := rfl
@[simp] theorem State.grantNeed_aqp_timeouts (j : Nat) (n : Need) (t : Tender) : (s.grantNeed j n t).aqp.timeouts = s.aqp.timeouts := rfl
@[simp] theorem State.grantNeed_aqp_discarded (j : Nat) (n : Need) (t : Tender) : (s.grantNeed j n t).aqp.discarded = s.aqp.discarded := rfl
@[simp] theorem State.grantNeed_apu (j : Nat) (n : Need) (t : Tender) : (s.grantNeed j n t).apu = s.apu := rfl
@[simp] theorem State.grantNeed_wnu (j : Nat) (n : Need) (t : Tender) : (s.grantNeed j n t).wnu = s.wnu := rfl
@[simp] theorem State.grantNeed_sst (j : Nat) (n : Need) (t : Tender) : (s.grantNeed j n t).sst = s.sst := rfl
@[simp] theorem State.grantNeed_fck (j : Nat) (n : Need) (t : Tender) : (s.grantNeed j n t).fck = s.fck := rfl
@[simp] theorem State.grantNeed_flp (j : Nat) (n : Need) (t : Tender) : (s.grantNeed j n t).flp = s.flp := rfl
@[simp] theorem State.grantNeed_fhp (j : Nat) (n : Need) (t : Tender) : (s.grantNeed j n t).fhp = s.fhp := rfl
@[simp] theorem State.grantNeed_power (j : Nat) (n : Need) (t : Tender) : (s.grantNeed j n t).power = s.power := rfl
@[simp] theorem State.grantNeed_due (j : Nat) (n : Need) (t : Tender) : (s.grantNeed j n t).due = s.due := rfl
@[simp] theorem State.grantNeed_pending (j : Nat) (n : Need) (t : Tender) : (s.grantNeed j n t).pending = s.pending := rfl

@[simp] theorem State.countCrc_ckt (p : Port) : (s.countCrc p).ckt = s.ckt := by cases p <;> rfl
@[simp] theorem State.countCrc_freeLines (p : Port) : (s.countCrc p).freeLines = s.freeLines := by cases p <;> rfl
@[simp] theorem State.countCrc_tdu (p : Port) : (s.countCrc p).tdu = s.tdu := by cases p <;> rfl
@[simp] theorem State.countCrc_fmp (p : Port) : (s.countCrc p).fmp = s.fmp := by cases p <;> rfl
@[simp] theorem State.countCrc_aqp (p : Port) : (s.countCrc p).aqp = s.aqp := by cases p <;> rfl
@[simp] theorem State.countCrc_apu (p : Port) : (s.countCrc p).apu = s.apu := by cases p <;> rfl
@[simp] theorem State.countCrc_wnu (p : Port) : (s.countCrc p).wnu = s.wnu := by cases p <;> rfl
@[simp] theorem State.countCrc_sst (p : Port) : (s.countCrc p).sst = s.sst := by cases p <;> rfl
@[simp] theorem State.countCrc_fck (p : Port) : (s.countCrc p).fck = s.fck := by cases p <;> rfl
@[simp] theorem State.countCrc_flp_assembler (p : Port) : (s.countCrc p).flp.assembler = s.flp.assembler := by cases p <;> rfl
@[simp] theorem State.countCrc_flp_out (p : Port) : (s.countCrc p).flp.out = s.flp.out := by cases p <;> rfl
@[simp] theorem State.countCrc_flp_framingErrors (p : Port) : (s.countCrc p).flp.framingErrors = s.flp.framingErrors := by cases p <;> rfl
@[simp] theorem State.countCrc_flp_overruns (p : Port) : (s.countCrc p).flp.overruns = s.flp.overruns := by cases p <;> rfl
@[simp] theorem State.countCrc_flp_pushDrops (p : Port) : (s.countCrc p).flp.pushDrops = s.flp.pushDrops := by cases p <;> rfl
@[simp] theorem State.countCrc_flp_sent (p : Port) : (s.countCrc p).flp.sent = s.flp.sent := by cases p <;> rfl
@[simp] theorem State.countCrc_fhp_out (p : Port) : (s.countCrc p).fhp.out = s.fhp.out := by cases p <;> rfl
@[simp] theorem State.countCrc_fhp_framingErrors (p : Port) : (s.countCrc p).fhp.framingErrors = s.fhp.framingErrors := by cases p <;> rfl
@[simp] theorem State.countCrc_fhp_overruns (p : Port) : (s.countCrc p).fhp.overruns = s.fhp.overruns := by cases p <;> rfl
@[simp] theorem State.countCrc_fhp_ignore (p : Port) : (s.countCrc p).fhp.ignore = s.fhp.ignore := by cases p <;> rfl
@[simp] theorem State.countCrc_fhp_sdo (p : Port) : (s.countCrc p).fhp.sdo = s.fhp.sdo := by cases p <;> rfl
@[simp] theorem State.countCrc_gwp_assembler (p : Port) : (s.countCrc p).gwp.assembler = s.gwp.assembler := by cases p <;> rfl
@[simp] theorem State.countCrc_gwp_out (p : Port) : (s.countCrc p).gwp.out = s.gwp.out := by cases p <;> rfl
@[simp] theorem State.countCrc_gwp_framingErrors (p : Port) : (s.countCrc p).gwp.framingErrors = s.gwp.framingErrors := by cases p <;> rfl
@[simp] theorem State.countCrc_gwp_txd (p : Port) : (s.countCrc p).gwp.txd = s.gwp.txd := by cases p <;> rfl
@[simp] theorem State.countCrc_power (p : Port) : (s.countCrc p).power = s.power := by cases p <;> rfl
@[simp] theorem State.countCrc_due (p : Port) : (s.countCrc p).due = s.due := by cases p <;> rfl
@[simp] theorem State.countCrc_pending (p : Port) : (s.countCrc p).pending = s.pending := by cases p <;> rfl

@[simp] theorem State.framingError_ckt (p : StreamPort) (a : Assembler) : (s.framingError p a).ckt = s.ckt := by cases p <;> rfl
@[simp] theorem State.framingError_freeLines (p : StreamPort) (a : Assembler) : (s.framingError p a).freeLines = s.freeLines := by cases p <;> rfl
@[simp] theorem State.framingError_tdu (p : StreamPort) (a : Assembler) : (s.framingError p a).tdu = s.tdu := by cases p <;> rfl
@[simp] theorem State.framingError_fmp (p : StreamPort) (a : Assembler) : (s.framingError p a).fmp = s.fmp := by cases p <;> rfl
@[simp] theorem State.framingError_aqp (p : StreamPort) (a : Assembler) : (s.framingError p a).aqp = s.aqp := by cases p <;> rfl
@[simp] theorem State.framingError_apu (p : StreamPort) (a : Assembler) : (s.framingError p a).apu = s.apu := by cases p <;> rfl
@[simp] theorem State.framingError_wnu (p : StreamPort) (a : Assembler) : (s.framingError p a).wnu = s.wnu := by cases p <;> rfl
@[simp] theorem State.framingError_sst (p : StreamPort) (a : Assembler) : (s.framingError p a).sst = s.sst := by cases p <;> rfl
@[simp] theorem State.framingError_fck (p : StreamPort) (a : Assembler) : (s.framingError p a).fck = s.fck := by cases p <;> rfl
@[simp] theorem State.framingError_flp_out (p : StreamPort) (a : Assembler) : (s.framingError p a).flp.out = s.flp.out := by cases p <;> rfl
@[simp] theorem State.framingError_flp_crcErrors (p : StreamPort) (a : Assembler) : (s.framingError p a).flp.crcErrors = s.flp.crcErrors := by cases p <;> rfl
@[simp] theorem State.framingError_flp_overruns (p : StreamPort) (a : Assembler) : (s.framingError p a).flp.overruns = s.flp.overruns := by cases p <;> rfl
@[simp] theorem State.framingError_flp_pushDrops (p : StreamPort) (a : Assembler) : (s.framingError p a).flp.pushDrops = s.flp.pushDrops := by cases p <;> rfl
@[simp] theorem State.framingError_flp_sent (p : StreamPort) (a : Assembler) : (s.framingError p a).flp.sent = s.flp.sent := by cases p <;> rfl
@[simp] theorem State.framingError_fhp (p : StreamPort) (a : Assembler) : (s.framingError p a).fhp = s.fhp := by cases p <;> rfl
@[simp] theorem State.framingError_gwp_out (p : StreamPort) (a : Assembler) : (s.framingError p a).gwp.out = s.gwp.out := by cases p <;> rfl
@[simp] theorem State.framingError_gwp_crcErrors (p : StreamPort) (a : Assembler) : (s.framingError p a).gwp.crcErrors = s.gwp.crcErrors := by cases p <;> rfl
@[simp] theorem State.framingError_gwp_txd (p : StreamPort) (a : Assembler) : (s.framingError p a).gwp.txd = s.gwp.txd := by cases p <;> rfl
@[simp] theorem State.framingError_power (p : StreamPort) (a : Assembler) : (s.framingError p a).power = s.power := by cases p <;> rfl
@[simp] theorem State.framingError_due (p : StreamPort) (a : Assembler) : (s.framingError p a).due = s.due := by cases p <;> rfl
@[simp] theorem State.framingError_pending (p : StreamPort) (a : Assembler) : (s.framingError p a).pending = s.pending := by cases p <;> rfl

@[simp] theorem State.assemblerIdle_ckt (p : StreamPort) : (s.assemblerIdle p).ckt = s.ckt := by cases p <;> rfl
@[simp] theorem State.assemblerIdle_freeLines (p : StreamPort) : (s.assemblerIdle p).freeLines = s.freeLines := by cases p <;> rfl
@[simp] theorem State.assemblerIdle_tdu (p : StreamPort) : (s.assemblerIdle p).tdu = s.tdu := by cases p <;> rfl
@[simp] theorem State.assemblerIdle_fmp (p : StreamPort) : (s.assemblerIdle p).fmp = s.fmp := by cases p <;> rfl
@[simp] theorem State.assemblerIdle_aqp (p : StreamPort) : (s.assemblerIdle p).aqp = s.aqp := by cases p <;> rfl
@[simp] theorem State.assemblerIdle_apu (p : StreamPort) : (s.assemblerIdle p).apu = s.apu := by cases p <;> rfl
@[simp] theorem State.assemblerIdle_wnu (p : StreamPort) : (s.assemblerIdle p).wnu = s.wnu := by cases p <;> rfl
@[simp] theorem State.assemblerIdle_sst (p : StreamPort) : (s.assemblerIdle p).sst = s.sst := by cases p <;> rfl
@[simp] theorem State.assemblerIdle_fck (p : StreamPort) : (s.assemblerIdle p).fck = s.fck := by cases p <;> rfl
@[simp] theorem State.assemblerIdle_flp_out (p : StreamPort) : (s.assemblerIdle p).flp.out = s.flp.out := by cases p <;> rfl
@[simp] theorem State.assemblerIdle_flp_crcErrors (p : StreamPort) : (s.assemblerIdle p).flp.crcErrors = s.flp.crcErrors := by cases p <;> rfl
@[simp] theorem State.assemblerIdle_flp_framingErrors (p : StreamPort) : (s.assemblerIdle p).flp.framingErrors = s.flp.framingErrors := by cases p <;> rfl
@[simp] theorem State.assemblerIdle_flp_overruns (p : StreamPort) : (s.assemblerIdle p).flp.overruns = s.flp.overruns := by cases p <;> rfl
@[simp] theorem State.assemblerIdle_flp_pushDrops (p : StreamPort) : (s.assemblerIdle p).flp.pushDrops = s.flp.pushDrops := by cases p <;> rfl
@[simp] theorem State.assemblerIdle_flp_sent (p : StreamPort) : (s.assemblerIdle p).flp.sent = s.flp.sent := by cases p <;> rfl
@[simp] theorem State.assemblerIdle_fhp (p : StreamPort) : (s.assemblerIdle p).fhp = s.fhp := by cases p <;> rfl
@[simp] theorem State.assemblerIdle_gwp_out (p : StreamPort) : (s.assemblerIdle p).gwp.out = s.gwp.out := by cases p <;> rfl
@[simp] theorem State.assemblerIdle_gwp_crcErrors (p : StreamPort) : (s.assemblerIdle p).gwp.crcErrors = s.gwp.crcErrors := by cases p <;> rfl
@[simp] theorem State.assemblerIdle_gwp_framingErrors (p : StreamPort) : (s.assemblerIdle p).gwp.framingErrors = s.gwp.framingErrors := by cases p <;> rfl
@[simp] theorem State.assemblerIdle_gwp_txd (p : StreamPort) : (s.assemblerIdle p).gwp.txd = s.gwp.txd := by cases p <;> rfl
@[simp] theorem State.assemblerIdle_power (p : StreamPort) : (s.assemblerIdle p).power = s.power := by cases p <;> rfl
@[simp] theorem State.assemblerIdle_due (p : StreamPort) : (s.assemblerIdle p).due = s.due := by cases p <;> rfl
@[simp] theorem State.assemblerIdle_pending (p : StreamPort) : (s.assemblerIdle p).pending = s.pending := by cases p <;> rfl

@[simp] theorem State.leaveHead_ckt (n : Nat) (f : Option Frame) : (s.leaveHead n f).ckt = s.ckt := by simp only [State.leaveHead]; (repeat' split) <;> simp
@[simp] theorem State.leaveHead_freeLines (n : Nat) (f : Option Frame) : (s.leaveHead n f).freeLines = s.freeLines := by simp only [State.leaveHead]; (repeat' split) <;> simp
@[simp] theorem State.leaveHead_tdu (n : Nat) (f : Option Frame) : (s.leaveHead n f).tdu = s.tdu := by simp only [State.leaveHead]; (repeat' split) <;> simp
@[simp] theorem State.leaveHead_fmp (n : Nat) (f : Option Frame) : (s.leaveHead n f).fmp = s.fmp := by simp only [State.leaveHead]; (repeat' split) <;> simp
@[simp] theorem State.leaveHead_aqp (n : Nat) (f : Option Frame) : (s.leaveHead n f).aqp = s.aqp := by simp only [State.leaveHead]; (repeat' split) <;> simp
@[simp] theorem State.leaveHead_apu (n : Nat) (f : Option Frame) : (s.leaveHead n f).apu = s.apu := by simp only [State.leaveHead]; (repeat' split) <;> simp
@[simp] theorem State.leaveHead_wnu (n : Nat) (f : Option Frame) : (s.leaveHead n f).wnu = s.wnu := by simp only [State.leaveHead]; (repeat' split) <;> simp
@[simp] theorem State.leaveHead_sst (n : Nat) (f : Option Frame) : (s.leaveHead n f).sst = s.sst := by simp only [State.leaveHead]; (repeat' split) <;> simp
@[simp] theorem State.leaveHead_fck (n : Nat) (f : Option Frame) : (s.leaveHead n f).fck = s.fck := by simp only [State.leaveHead]; (repeat' split) <;> simp
@[simp] theorem State.leaveHead_flp (n : Nat) (f : Option Frame) : (s.leaveHead n f).flp = s.flp := by simp only [State.leaveHead]; (repeat' split) <;> simp
@[simp] theorem State.leaveHead_fhp_crcErrors (n : Nat) (f : Option Frame) : (s.leaveHead n f).fhp.crcErrors = s.fhp.crcErrors := by simp only [State.leaveHead]; (repeat' split) <;> simp
@[simp] theorem State.leaveHead_fhp_framingErrors (n : Nat) (f : Option Frame) : (s.leaveHead n f).fhp.framingErrors = s.fhp.framingErrors := by simp only [State.leaveHead]; (repeat' split) <;> simp
@[simp] theorem State.leaveHead_fhp_overruns (n : Nat) (f : Option Frame) : (s.leaveHead n f).fhp.overruns = s.fhp.overruns := by simp only [State.leaveHead]; (repeat' split) <;> simp
@[simp] theorem State.leaveHead_fhp_ignore (n : Nat) (f : Option Frame) : (s.leaveHead n f).fhp.ignore = s.fhp.ignore := by simp only [State.leaveHead]; (repeat' split) <;> simp
@[simp] theorem State.leaveHead_fhp_sdo (n : Nat) (f : Option Frame) : (s.leaveHead n f).fhp.sdo = s.fhp.sdo := by simp only [State.leaveHead]; (repeat' split) <;> simp
@[simp] theorem State.leaveHead_gwp (n : Nat) (f : Option Frame) : (s.leaveHead n f).gwp = s.gwp := by simp only [State.leaveHead]; (repeat' split) <;> simp
@[simp] theorem State.leaveHead_power (n : Nat) (f : Option Frame) : (s.leaveHead n f).power = s.power := by simp only [State.leaveHead]; (repeat' split) <;> simp
@[simp] theorem State.leaveHead_due (n : Nat) (f : Option Frame) : (s.leaveHead n f).due = s.due := by simp only [State.leaveHead]; (repeat' split) <;> simp
@[simp] theorem State.leaveHead_pending (n : Nat) (f : Option Frame) : (s.leaveHead n f).pending = s.pending := by simp only [State.leaveHead]; (repeat' split) <;> simp

@[simp] theorem State.setSdo_ckt (b : List Byte) : (s.setSdo b).ckt = s.ckt := rfl
@[simp] theorem State.setSdo_freeLines (b : List Byte) : (s.setSdo b).freeLines = s.freeLines := rfl
@[simp] theorem State.setSdo_tdu (b : List Byte) : (s.setSdo b).tdu = s.tdu := rfl
@[simp] theorem State.setSdo_fmp (b : List Byte) : (s.setSdo b).fmp = s.fmp := rfl
@[simp] theorem State.setSdo_aqp (b : List Byte) : (s.setSdo b).aqp = s.aqp := rfl
@[simp] theorem State.setSdo_apu (b : List Byte) : (s.setSdo b).apu = s.apu := rfl
@[simp] theorem State.setSdo_wnu (b : List Byte) : (s.setSdo b).wnu = s.wnu := rfl
@[simp] theorem State.setSdo_sst (b : List Byte) : (s.setSdo b).sst = s.sst := rfl
@[simp] theorem State.setSdo_fck (b : List Byte) : (s.setSdo b).fck = s.fck := rfl
@[simp] theorem State.setSdo_flp (b : List Byte) : (s.setSdo b).flp = s.flp := rfl
@[simp] theorem State.setSdo_fhp_out (b : List Byte) : (s.setSdo b).fhp.out = s.fhp.out := rfl
@[simp] theorem State.setSdo_fhp_crcErrors (b : List Byte) : (s.setSdo b).fhp.crcErrors = s.fhp.crcErrors := rfl
@[simp] theorem State.setSdo_fhp_framingErrors (b : List Byte) : (s.setSdo b).fhp.framingErrors = s.fhp.framingErrors := rfl
@[simp] theorem State.setSdo_fhp_overruns (b : List Byte) : (s.setSdo b).fhp.overruns = s.fhp.overruns := rfl
@[simp] theorem State.setSdo_fhp_ignore (b : List Byte) : (s.setSdo b).fhp.ignore = s.fhp.ignore := rfl
@[simp] theorem State.setSdo_gwp (b : List Byte) : (s.setSdo b).gwp = s.gwp := rfl
@[simp] theorem State.setSdo_power (b : List Byte) : (s.setSdo b).power = s.power := rfl
@[simp] theorem State.setSdo_due (b : List Byte) : (s.setSdo b).due = s.due := rfl
@[simp] theorem State.setSdo_pending (b : List Byte) : (s.setSdo b).pending = s.pending := rfl

end Sys2Proof.Machine
end

