-- ==== Sys2Proof/Laws/Records.lean ====
section
/-! SUPPORT. Reading a check or a tender after an operation: what was written where it was written, and what was there
before everywhere else. -/

namespace Sys2Proof.Machine

/-! ## Lists numbered from 1 -/

section
variable {α : Type}

theorem get1_set1 (l : List α) (n m : Nat) (v d : α) :
    get1 (set1 l n v) m d = if m = n ∧ 1 ≤ n ∧ n ≤ l.length then v else get1 l m d := by
  unfold get1 set1
  by_cases hn : n = 0
  · simp [hn]
  · by_cases hm : m = 0
    · simp [hm]; omega
    · by_cases he : m = n
      · subst he
        simp only [hm, if_false, List.getD_eq_getElem?_getD]
        by_cases hl : m ≤ l.length
        · rw [List.getElem?_set_self (by omega)]; simp [hl]; omega
        · rw [List.set_eq_of_length_le (by omega)]; simp [hl]
      · simp only [hm, hn, if_false, he, false_and, List.getD_eq_getElem?_getD]
        rw [List.getElem?_set_ne (by omega)]

@[simp] theorem set1_length (l : List α) (n : Nat) (v : α) : (set1 l n v).length = l.length := by
  unfold set1; split <;> simp

@[simp] theorem mod1_length (l : List α) (n : Nat) (f : α → α) : (mod1 l n f).length = l.length := by
  unfold mod1; split <;> simp

theorem get1_mod1 (l : List α) (n m : Nat) (f : α → α) (d : α) :
    get1 (mod1 l n f) m d = if m = n ∧ 1 ≤ n ∧ n ≤ l.length then f (get1 l m d) else get1 l m d := by
  unfold get1 mod1
  by_cases hn : n = 0
  · simp [hn]
  · by_cases hm : m = 0
    · simp [hm]; omega
    · simp only [hm, hn, if_false, List.getD_eq_getElem?_getD, List.getElem?_modify]
      by_cases he : m = n
      · subst he
        by_cases hl : m ≤ l.length
        · have : m - 1 < l.length := by omega
          simp [hl, this]; omega
        · have : ¬ m - 1 < l.length := by omega
          simp [hl, this]
      · have : ¬ n - 1 = m - 1 := by omega
        simp [he, this]

end

/-! ## Checks and tenders -/

section
variable (s : State)

theorem State.modCheck_check? (i : Nat) (f : Check → Check) (j : Nat) :
    (s.modCheck i f).check? j = if i = j then (s.check? j).map f else s.check? j := by
  simp only [State.check?, State.modCheck, List.getElem?_modify]
  split <;> cases s.ckt.slots[j]? <;> simp_all [Option.map]

@[simp] theorem State.modCheck_check?_self (i : Nat) (f : Check → Check) :
    (s.modCheck i f).check? i = (s.check? i).map f := by simp [State.modCheck_check?]

theorem State.modTender_tender? (i : Nat) (f : Tender → Tender) (j : Nat) :
    (s.modTender i f).tender? j = if i = j then (s.tender? j).map f else s.tender? j := by
  simp only [State.tender?, State.modTender, List.getElem?_modify]
  split <;> cases s.tdu.pool[j]? <;> simp_all [Option.map]

@[simp] theorem State.modTender_tender?_self (i : Nat) (f : Tender → Tender) :
    (s.modTender i f).tender? i = (s.tender? i).map f := by simp [State.modTender_tender?]

/-- Two changes of a check that agree on the record there are the same change. -/
theorem State.modCheck_congr {s : State} {i : Nat} {c : Check} (hc : s.check? i = some c) {f g : Check → Check}
    (h : f c = g c) : s.modCheck i f = s.modCheck i g := by
  have : s.ckt.slots.modify i (Option.map f) = s.ckt.slots.modify i (Option.map g) := by
    apply List.ext_getElem?
    intro j
    simp only [List.getElem?_modify]
    by_cases hj : i = j
    · subst hj
      simp only [State.check?] at hc
      cases ho : s.ckt.slots[i]? with
      | none => simp
      | some o => cases o with
        | none => simp
        | some d => simp only [ho, Option.join_some, Option.some.injEq] at hc; subst hc; simp [h]
    · simp [hj]
  simp only [State.modCheck, this]

/-- Two changes of one check in turn are one change. -/
theorem State.modCheck_modCheck (i : Nat) (f g : Check → Check) :
    (s.modCheck i f).modCheck i g = s.modCheck i (fun c => g (f c)) := by
  have : (s.ckt.slots.modify i (Option.map f)).modify i (Option.map g)
      = s.ckt.slots.modify i (Option.map fun c => g (f c)) := by
    apply List.ext_getElem?
    intro j
    simp only [List.getElem?_modify]
    by_cases hj : i = j <;> simp [hj]
    cases s.ckt.slots[j]? with
    | none => simp
    | some o => cases o <;> simp
  simp only [State.modCheck, this]

@[simp] theorem State.setWork_check? (w : Settings) (q : Nat) : (s.setWork w).check? q = s.check? q := by simp [State.check?]
@[simp] theorem State.setWork_tender? (w : Settings) (q : Nat) : (s.setWork w).tender? q = s.tender? q := by simp [State.tender?]
@[simp] theorem State.setPresent_check? (t : Nat) (b : Bool) (q : Nat) : (s.setPresent t b).check? q = s.check? q := by simp [State.check?]
@[simp] theorem State.setPresent_tender? (t : Nat) (b : Bool) (q : Nat) : (s.setPresent t b).tender? q = s.tender? q := by simp [State.tender?]
@[simp] theorem State.setHits_check? (t : Nat) (hs : List Hit) (q : Nat) : (s.setHits t hs).check? q = s.check? q := by simp [State.check?]
@[simp] theorem State.setHits_tender? (t : Nat) (hs : List Hit) (q : Nat) : (s.setHits t hs).tender? q = s.tender? q := by simp [State.tender?]
@[simp] theorem State.setPendCount_check? (t n : Nat) (q : Nat) : (s.setPendCount t n).check? q = s.check? q := by simp [State.check?]
@[simp] theorem State.setPendCount_tender? (t n : Nat) (q : Nat) : (s.setPendCount t n).tender? q = s.tender? q := by simp [State.tender?]
@[simp] theorem State.modCheck_tender? (i : Nat) (f : Check → Check) (q : Nat) : (s.modCheck i f).tender? q = s.tender? q := by simp [State.tender?]
@[simp] theorem State.seatAt_check? (table slot : Nat) (q : Nat) : (s.seatAt table slot).check? q = s.check? q := by simp [State.check?]
@[simp] theorem State.seatAt_tender? (table slot : Nat) (q : Nat) : (s.seatAt table slot).tender? q = s.tender? q := by simp [State.tender?]
@[simp] theorem State.unseat_check? (table slot : Nat) (q : Nat) : (s.unseat table slot).check? q = s.check? q := by simp [State.check?]
@[simp] theorem State.unseat_tender? (table slot : Nat) (q : Nat) : (s.unseat table slot).tender? q = s.tender? q := by simp [State.tender?]
@[simp] theorem State.modTender_check? (i : Nat) (f : Tender → Tender) (q : Nat) : (s.modTender i f).check? q = s.check? q := by simp [State.check?]
@[simp] theorem State.dropApproval_check? (a : Approval) (q : Nat) : (s.dropApproval a).check? q = s.check? q := by simp [State.check?]
@[simp] theorem State.dropApproval_tender? (a : Approval) (q : Nat) : (s.dropApproval a).tender? q = s.tender? q := by simp [State.tender?]
@[simp] theorem State.renewLeases_check? (t : Nat) (q : Nat) : (s.renewLeases t).check? q = s.check? q := by simp [State.check?]
@[simp] theorem State.flushPushes_check? (q : Nat) : (s.flushPushes).check? q = s.check? q := by simp [State.check?]
@[simp] theorem State.flushPushes_tender? (q : Nat) : (s.flushPushes).tender? q = s.tender? q := by simp [State.tender?]
@[simp] theorem State.removeNeed_check? (i : Nat) (q : Nat) : (s.removeNeed i).check? q = s.check? q := by simp [State.check?]
@[simp] theorem State.removeNeed_tender? (i : Nat) (q : Nat) : (s.removeNeed i).tender? q = s.tender? q := by simp [State.tender?]
@[simp] theorem State.placeNeed_check? (i : Nat) (k : NeedKind) (q : Nat) : (s.placeNeed i k).check? q = s.check? q := by simp [State.check?]
@[simp] theorem State.setLink_check? (l : LinkState) (q : Nat) : (s.setLink l).check? q = s.check? q := by simp [State.check?]
@[simp] theorem State.setLink_tender? (l : LinkState) (q : Nat) : (s.setLink l).tender? q = s.tender? q := by simp [State.tender?]
@[simp] theorem State.dropWatchesOn_check? (n : Nat) (q : Nat) : (s.dropWatchesOn n).check? q = s.check? q := by simp [State.check?]
@[simp] theorem State.dropWatchesOn_tender? (n : Nat) (q : Nat) : (s.dropWatchesOn n).tender? q = s.tender? q := by simp [State.tender?]
@[simp] theorem State.mapLeases_check? (slot : Nat) (f : Lease → Lease) (q : Nat) : (s.mapLeases slot f).check? q = s.check? q := by simp [State.check?]
@[simp] theorem State.raise_check? (p : Push) (q : Nat) : (s.raise p).check? q = s.check? q := by simp [State.check?]
@[simp] theorem State.raise_tender? (p : Push) (q : Nat) : (s.raise p).tender? q = s.tender? q := by simp [State.tender?]
@[simp] theorem State.recordHit_check? (t n : Nat) (k : EventKind) (q : Nat) : (s.recordHit t n k).check? q = s.check? q := by simp [State.check?]
@[simp] theorem State.recordHit_tender? (t n : Nat) (k : EventKind) (q : Nat) : (s.recordHit t n k).tender? q = s.tender? q := by simp [State.tender?]
@[simp] theorem State.handEvent_check? (n : Nat) (k : EventKind) (q : Nat) : (s.handEvent n k).check? q = s.check? q := by simp [State.check?]
@[simp] theorem State.handEvent_tender? (n : Nat) (k : EventKind) (q : Nat) : (s.handEvent n k).tender? q = s.tender? q := by simp [State.tender?]
@[simp] theorem State.raiseCount_check? (o : Option Nat) (q : Nat) : (s.raiseCount o).check? q = s.check? q := by simp [State.check?]
@[simp] theorem State.raiseCount_tender? (o : Option Nat) (q : Nat) : (s.raiseCount o).tender? q = s.tender? q := by simp [State.tender?]
@[simp] theorem State.lowerCount_check? (o : Option Nat) (q : Nat) : (s.lowerCount o).check? q = s.check? q := by simp [State.check?]
@[simp] theorem State.lowerCount_tender? (o : Option Nat) (q : Nat) : (s.lowerCount o).tender? q = s.tender? q := by simp [State.tender?]
@[simp] theorem State.unlist_check? (i : Nat) (o : Option Nat) (q : Nat) : (s.unlist i o).check? q = s.check? q := by simp [State.check?]
@[simp] theorem State.unlist_tender? (i : Nat) (o : Option Nat) (q : Nat) : (s.unlist i o).tender? q = s.tender? q := by simp [State.tender?]
@[simp] theorem State.setStatus_check? (i : Nat) (st : Status) (q : Nat) : (s.setStatus i st).check? q = s.check? q := by simp [State.check?]
@[simp] theorem State.collect_check? (i : Nat) (q : Nat) : (s.collect i).check? q = s.check? q := by simp [State.check?]
@[simp] theorem State.announceEnding_check? (a : Approval) (c o : Nat) (q : Nat) : (s.announceEnding a c o).check? q = s.check? q := by simp [State.check?]
@[simp] theorem State.announceEnding_tender? (a : Approval) (c o : Nat) (q : Nat) : (s.announceEnding a c o).tender? q = s.tender? q := by simp [State.tender?]
@[simp] theorem State.announceWaiting_check? (q : Nat) : (s.announceWaiting).check? q = s.check? q := by simp [State.check?]
@[simp] theorem State.announceWaiting_tender? (q : Nat) : (s.announceWaiting).tender? q = s.tender? q := by simp [State.tender?]
@[simp] theorem State.announceReturn_check? (t : Nat) (q : Nat) : (s.announceReturn t).check? q = s.check? q := by simp [State.check?]
@[simp] theorem State.announceReturn_tender? (t : Nat) (q : Nat) : (s.announceReturn t).tender? q = s.tender? q := by simp [State.tender?]
@[simp] theorem State.hear_check? (t : Nat) (q : Nat) : (s.hear t).check? q = s.check? q := by simp [State.check?]
@[simp] theorem State.countFraming_check? (p : ReqPort) (q : Nat) : (s.countFraming p).check? q = s.check? q := by simp [State.check?]
@[simp] theorem State.countFraming_tender? (p : ReqPort) (q : Nat) : (s.countFraming p).tender? q = s.tender? q := by simp [State.tender?]
@[simp] theorem State.countOverrun_check? (p : ReqPort) (q : Nat) : (s.countOverrun p).check? q = s.check? q := by simp [State.check?]
@[simp] theorem State.countOverrun_tender? (p : ReqPort) (q : Nat) : (s.countOverrun p).tender? q = s.tender? q := by simp [State.tender?]
@[simp] theorem State.putOut_check? (p : ReqPort) (fs : List Frame) (q : Nat) : (s.putOut p fs).check? q = s.check? q := by simp [State.check?]
@[simp] theorem State.putOut_tender? (p : ReqPort) (fs : List Frame) (q : Nat) : (s.putOut p fs).tender? q = s.tender? q := by simp [State.tender?]
@[simp] theorem State.answer_check? (h : Hdr) (kind : Nat) (r : Reply) (q : Nat) : (s.answer h kind r).check? q = s.check? q := by simp [State.check?]
@[simp] theorem State.answer_tender? (h : Hdr) (kind : Nat) (r : Reply) (q : Nat) : (s.answer h kind r).tender? q = s.tender? q := by simp [State.tender?]
@[simp] theorem State.derive_tender? (b : Bool) (slot : Nat) (q : Nat) : (s.derive b slot).tender? q = s.tender? q := by simp [State.tender?]
@[simp] theorem State.freeTender_check? (i : Nat) (q : Nat) : (s.freeTender i).check? q = s.check? q := by simp [State.check?]
@[simp] theorem State.discardApproval_check? (slot n : Nat) (q : Nat) : (s.discardApproval slot n).check? q = s.check? q := by simp [State.check?]
@[simp] theorem State.discardApproval_tender? (slot n : Nat) (q : Nat) : (s.discardApproval slot n).tender? q = s.tender? q := by simp [State.tender?]
@[simp] theorem State.moveCheck_tender? (slot : Nat) (c : Check) (table owner : Nat) (q : Nat) : (s.moveCheck slot c table owner).tender? q = s.tender? q := by simp [State.tender?]
@[simp] theorem State.unhold_check? (i : Nat) (q : Nat) : (s.unhold i).check? q = s.check? q := by simp [State.check?]
@[simp] theorem State.placeCheck_tender? (slot : Nat) (c : Check) (q : Nat) : (s.placeCheck slot c).tender? q = s.tender? q := by simp [State.tender?]
@[simp] theorem State.writeFigures_tender? (slot : Nat) (t : Tally) (q : Nat) : (s.writeFigures slot t).tender? q = s.tender? q := by simp [State.tender?]
@[simp] theorem State.startCapture_check? (i : Nat) (q : Nat) : (s.startCapture i).check? q = s.check? q := by simp [State.check?]
@[simp] theorem State.takeLines_tender? (slot : Nat) (c : Check) (n : Nat) (t : Tally) (q : Nat) : (s.takeLines slot c n t).tender? q = s.tender? q := by simp [State.tender?]
@[simp] theorem State.putWatch_check? (t c : Nat) (m : BitVec 8) (q : Nat) : (s.putWatch t c m).check? q = s.check? q := by simp [State.check?]
@[simp] theorem State.putWatch_tender? (t c : Nat) (m : BitVec 8) (q : Nat) : (s.putWatch t c m).tender? q = s.tender? q := by simp [State.tender?]
@[simp] theorem State.removeWatch_check? (t c : Nat) (q : Nat) : (s.removeWatch t c).check? q = s.check? q := by simp [State.check?]
@[simp] theorem State.removeWatch_tender? (t c : Nat) (q : Nat) : (s.removeWatch t c).tender? q = s.tender? q := by simp [State.tender?]
@[simp] theorem State.clearStartup_check? (q : Nat) : (s.clearStartup).check? q = s.check? q := by simp [State.check?]
@[simp] theorem State.clearStartup_tender? (q : Nat) : (s.clearStartup).tender? q = s.tender? q := by simp [State.tender?]
@[simp] theorem State.ackAged_tender? (q : Nat) : (s.ackAged).tender? q = s.tender? q := by simp [State.tender?]
@[simp] theorem State.setSections_check? (a b c : Nat) (q : Nat) : (s.setSections a b c).check? q = s.check? q := by simp [State.check?]
@[simp] theorem State.setSections_tender? (a b c : Nat) (q : Nat) : (s.setSections a b c).tender? q = s.tender? q := by simp [State.tender?]
@[simp] theorem State.writeTerminal_check? (t : Nat) (r : Role) (m : BitVec 8) (q : Nat) : (s.writeTerminal t r m).check? q = s.check? q := by simp [State.check?]
@[simp] theorem State.writeTerminal_tender? (t : Nat) (r : Role) (m : BitVec 8) (q : Nat) : (s.writeTerminal t r m).tender? q = s.tender? q := by simp [State.tender?]
@[simp] theorem State.startSave_check? (q : Nat) : (s.startSave).check? q = s.check? q := by simp [State.check?]
@[simp] theorem State.startSave_tender? (q : Nat) : (s.startSave).tender? q = s.tender? q := by simp [State.tender?]
@[simp] theorem State.finishSave_check? (b : Bool) (q : Nat) : (s.finishSave b).check? q = s.check? q := by simp [State.check?]
@[simp] theorem State.finishSave_tender? (b : Bool) (q : Nat) : (s.finishSave b).tender? q = s.tender? q := by simp [State.tender?]
@[simp] theorem State.setClock_check? (d m : Nat) (q : Nat) : (s.setClock d m).check? q = s.check? q := by simp [State.check?]
@[simp] theorem State.setClock_tender? (d m : Nat) (q : Nat) : (s.setClock d m).tender? q = s.tender? q := by simp [State.tender?]
@[simp] theorem State.clearTimeouts_check? (q : Nat) : (s.clearTimeouts).check? q = s.check? q := by simp [State.check?]
@[simp] theorem State.clearTimeouts_tender? (q : Nat) : (s.clearTimeouts).tender? q = s.tender? q := by simp [State.tender?]
@[simp] theorem State.discardFrame_check? (q : Nat) : (s.discardFrame).check? q = s.check? q := by simp [State.check?]
@[simp] theorem State.discardFrame_tender? (q : Nat) : (s.discardFrame).tender? q = s.tender? q := by simp [State.tender?]
@[simp] theorem State.setEntry_check? (j : Nat) (e : Option Exchange) (q : Nat) : (s.setEntry j e).check? q = s.check? q := by simp [State.check?]
@[simp] theorem State.setEntry_tender? (j : Nat) (e : Option Exchange) (q : Nat) : (s.setEntry j e).tender? q = s.tender? q := by simp [State.tender?]
@[simp] theorem State.setLinkOk_check? (b : Bool) (q : Nat) : (s.setLinkOk b).check? q = s.check? q := by simp [State.check?]
@[simp] theorem State.setLinkOk_tender? (b : Bool) (q : Nat) : (s.setLinkOk b).tender? q = s.tender? q := by simp [State.tender?]
@[simp] theorem State.clearFault_check? (q : Nat) : (s.clearFault).check? q = s.check? q := by simp [State.check?]
@[simp] theorem State.clearFault_tender? (q : Nat) : (s.clearFault).tender? q = s.tender? q := by simp [State.tender?]
@[simp] theorem State.doneExchange_check? (t : Nat) (q : Nat) : (s.doneExchange t).check? q = s.check? q := by simp [State.check?]
@[simp] theorem State.doneExchange_tender? (t : Nat) (q : Nat) : (s.doneExchange t).tender? q = s.tender? q := by simp [State.tender?]
@[simp] theorem State.doneApproval_check? (t : Nat) (q : Nat) : (s.doneApproval t).check? q = s.check? q := by simp [State.check?]
@[simp] theorem State.doneApproval_tender? (t : Nat) (q : Nat) : (s.doneApproval t).tender? q = s.tender? q := by simp [State.tender?]
@[simp] theorem State.doneSilence_check? (t : Nat) (q : Nat) : (s.doneSilence t).check? q = s.check? q := by simp [State.check?]
@[simp] theorem State.doneSilence_tender? (t : Nat) (q : Nat) : (s.doneSilence t).tender? q = s.tender? q := by simp [State.tender?]
@[simp] theorem State.doneLease_check? (t : Nat) (q : Nat) : (s.doneLease t).check? q = s.check? q := by simp [State.check?]
@[simp] theorem State.doneLease_tender? (t : Nat) (q : Nat) : (s.doneLease t).tender? q = s.tender? q := by simp [State.tender?]
@[simp] theorem State.doneAge_check? (t : Nat) (q : Nat) : (s.doneAge t).check? q = s.check? q := by simp [State.check?]
@[simp] theorem State.doneAge_tender? (t : Nat) (q : Nat) : (s.doneAge t).tender? q = s.tender? q := by simp [State.tender?]
@[simp] theorem State.grantNeed_check? (j : Nat) (n : Need) (t : Tender) (q : Nat) : (s.grantNeed j n t).check? q = s.check? q := by simp [State.check?]
@[simp] theorem State.countCrc_check? (p : Port) (q : Nat) : (s.countCrc p).check? q = s.check? q := by simp [State.check?]
@[simp] theorem State.countCrc_tender? (p : Port) (q : Nat) : (s.countCrc p).tender? q = s.tender? q := by simp [State.tender?]
@[simp] theorem State.framingError_check? (p : StreamPort) (a : Assembler) (q : Nat) : (s.framingError p a).check? q = s.check? q := by simp [State.check?]
@[simp] theorem State.framingError_tender? (p : StreamPort) (a : Assembler) (q : Nat) : (s.framingError p a).tender? q = s.tender? q := by simp [State.tender?]
@[simp] theorem State.assemblerIdle_check? (p : StreamPort) (q : Nat) : (s.assemblerIdle p).check? q = s.check? q := by simp [State.check?]
@[simp] theorem State.assemblerIdle_tender? (p : StreamPort) (q : Nat) : (s.assemblerIdle p).tender? q = s.tender? q := by simp [State.tender?]
@[simp] theorem State.leaveHead_check? (n : Nat) (f : Option Frame) (q : Nat) : (s.leaveHead n f).check? q = s.check? q := by simp [State.check?]
@[simp] theorem State.leaveHead_tender? (n : Nat) (f : Option Frame) (q : Nat) : (s.leaveHead n f).tender? q = s.tender? q := by simp [State.tender?]
@[simp] theorem State.setSdo_check? (b : List Byte) (q : Nat) : (s.setSdo b).check? q = s.check? q := by simp [State.check?]
@[simp] theorem State.setSdo_tender? (b : List Byte) (q : Nat) : (s.setSdo b).tender? q = s.tender? q := by simp [State.tender?]

end

end Sys2Proof.Machine
end

