-- ==== Sys2Proof/Laws/Requests.lean ====
section
/-! SUPPORT. How a request is taken: what its frame leaves as it was, and what becomes of it once its class, its check
and its tender are known. -/

namespace Sys2Proof.Machine

/-! ## What the frame of a request leaves as it was -/

/-- The age of a check depends on the floor clock alone (01 R22). -/
theorem age_of_fck {u v : State} (h : u.fck = v.fck) (c : Check) : u.age c = v.age c := by
  simp only [State.age, h]

/-- The summary of a check record depends on the floor clock alone (01 R12). -/
theorem summary_of_fck {u v : State} (h : u.fck = v.fck) (c : Check) : u.summary c = v.summary c := by
  unfold State.summary
  rw [age_of_fck h]

section
variable (s : State) (t : Nat)

@[simp] theorem State.hear_setting (n : Nat) : (s.hear t).setting n = s.setting n := by simp [State.setting]
@[simp] theorem State.hear_role (u : Nat) : (s.hear t).role u = s.role u := by simp [State.role]
@[simp] theorem State.hear_sectionsMask (u : Nat) : (s.hear t).sectionsMask u = s.sectionsMask u := by
  simp [State.sectionsMask]
@[simp] theorem State.hear_sectionOf (n : Nat) : (s.hear t).sectionOf n = s.sectionOf n := by simp [State.sectionOf]
@[simp] theorem State.hear_works (u n : Nat) : (s.hear t).works u n = s.works u n := by simp [State.works]
@[simp] theorem State.hear_shares (n : Nat) : (s.hear t).shares n = s.shares n := by simp [State.shares]
@[simp] theorem State.hear_now : (s.hear t).now = s.now := by simp [State.now]
@[simp] theorem State.hear_pendCount (u : Nat) : (s.hear t).pendCount u = s.pendCount u := by simp [State.pendCount]
@[simp] theorem State.hear_hitSet (u : Nat) : (s.hear t).hitSet u = s.hitSet u := by simp [State.hitSet]
@[simp] theorem State.hear_findSlot (n : Nat) : (s.hear t).findSlot n = s.findSlot n := by simp [State.findSlot]
@[simp] theorem State.hear_liveChecks : (s.hear t).liveChecks = s.liveChecks := by simp [State.liveChecks]
@[simp] theorem State.hear_anyLive : (s.hear t).anyLive = s.anyLive := by simp [State.anyLive]
@[simp] theorem State.hear_tableList (n : Nat) : (s.hear t).tableList n = s.tableList n := by simp [State.tableList]
@[simp] theorem State.hear_tableFull (n : Nat) : (s.hear t).tableFull n = s.tableFull n := by simp [State.tableFull]
@[simp] theorem State.hear_age (c : Check) : (s.hear t).age c = s.age c :=
  age_of_fck (State.hear_fck s t) c
@[simp] theorem State.hear_summary (c : Check) : (s.hear t).summary c = s.summary c :=
  summary_of_fck (State.hear_fck s t) c
@[simp] theorem State.hear_summaryAt (i : Nat) : (s.hear t).summaryAt i = s.summaryAt i := by simp [State.summaryAt]
@[simp] theorem State.hear_numberAt (i : Nat) : (s.hear t).numberAt i = s.numberAt i := by simp [State.numberAt]
@[simp] theorem State.hear_isServer (u : Nat) : (s.hear t).isServer u = s.isServer u := by simp [State.isServer]
@[simp] theorem State.hear_admits (cls : ReqClass) (u : Nat) : (s.hear t).admits cls u = s.admits cls u := by
  cases cls <;> simp [State.admits]
@[simp] theorem State.hear_mayRead (u : Nat) (c : Check) : (s.hear t).mayRead u c = s.mayRead u c := by
  simp [State.mayRead]
@[simp] theorem State.hear_mayChange (u : Nat) (c : Check) : (s.hear t).mayChange u c = s.mayChange u c := by
  simp [State.mayChange]
@[simp] theorem State.hear_mayTender (u : Nat) (x : Tender) : (s.hear t).mayTender u x = s.mayTender u x := by
  simp [State.mayTender]
@[simp] theorem State.hear_mayOwn (u : Nat) : (s.hear t).mayOwn u = s.mayOwn u := by simp [State.mayOwn]
@[simp] theorem State.hear_freeSlot : (s.hear t).freeSlot = s.freeSlot := by simp [State.freeSlot]
@[simp] theorem State.hear_freeNumber : (s.hear t).freeNumber = s.freeNumber := by simp [State.freeNumber]
@[simp] theorem State.hear_approvalOf (i : Nat) : (s.hear t).approvalOf i = s.approvalOf i := by
  simp [State.approvalOf]
@[simp] theorem State.hear_approvalsFull : (s.hear t).approvalsFull = s.approvalsFull := by
  simp [State.approvalsFull]
@[simp] theorem State.hear_watchesOf (u : Nat) : (s.hear t).watchesOf u = s.watchesOf u := by simp [State.watchesOf]
@[simp] theorem State.hear_watchesCheck (u n : Nat) : (s.hear t).watchesCheck u n = s.watchesCheck u n := by
  simp [State.watchesCheck]
@[simp] theorem State.hear_overWatchLimit (u n : Nat) : (s.hear t).overWatchLimit u n = s.overWatchLimit u n := by
  simp [State.overWatchLimit]
@[simp] theorem State.hear_outList (p : ReqPort) : (s.hear t).outList p = s.outList p := by
  cases p <;> simp [State.outList]

/-- A frame of the floor server changes nothing (02 R28). -/
@[simp] theorem State.hear_zero : s.hear 0 = s := by simp [State.hear]

end

/-! ## Taking a request -/

variable {s : State} {h : Hdr} {cls : ReqClass}

/-- A class of the floor server admits requester 0 alone (02 R31). -/
theorem Judged.term_eq_zero (hj : Judged s h .floorServer) : h.term = 0 := by simpa [State.admits] using hj.2

/-- A request whose frame is taken and whose class admits the requester is acted on after its frame's presence update;
its answer and then its pushes follow (10 R178, R179; 09 R166). -/
theorem request_of_judged (hj : Judged s h cls) (kind : Nat) (act : State → State × Reply) :
    s.request h kind cls act
      = ((act (s.hear h.term)).1.answer h kind (act (s.hear h.term)).2).flushPushes := by
  simp [State.request, State.frame, hj.1, hj.2]

/-- A request of a class that does not admit the requester is answered DENIED (02 R31). -/
theorem request_of_not_admitted (ht : s.takes h = .taken) (ha : s.admits cls h.term = false) (kind : Nat)
    (act : State → State × Reply) :
    s.request h kind cls act = (s.hear h.term).finish h kind .denied [] := by
  simp [State.request, State.frame, ht, ha, State.finish, refuse]

/-- A number that no live check carries is answered ABSENT (01 R3). -/
theorem withCheck_of_none {n : Nat} (hn : s.findSlot n = none) (k : Nat → Check → State × Reply) :
    s.withCheck n k = (s, refuse .absent) := by
  simp [State.withCheck, hn]

/-- A number that a live check carries is acted on with its slot and record (01 R3). -/
theorem withCheck_of_named {n slot : Nat} {c : Check} (hn : Named s n slot c) (k : Nat → Check → State × Reply) :
    s.withCheck n k = k slot c := by
  simp [State.withCheck, hn.1, hn.2]

/-- The frame of a request leaves the check it names where it is. -/
theorem Named.hear {n slot : Nat} {c : Check} (hn : Named s n slot c) (t : Nat) : Named (s.hear t) n slot c := by
  simpa [Named] using hn

/-- The check a number resolves to carries the number (01 R3). -/
theorem Named.number_eq {n slot : Nat} {c : Check} (hn : Named s n slot c) : c.number = n := by
  obtain ⟨h1, h2⟩ := hn
  unfold State.findSlot at h1
  rw [List.findIdx?_eq_some_iff_getElem] at h1
  obtain ⟨hlt, hp, -⟩ := h1
  simp only [State.check?, List.getElem?_eq_getElem hlt, Option.join_some] at h2
  simpa [h2] using hp

/-- A tender number that names a record is acted on with its index and record (06 R98). -/
theorem withTender_of_named {c : Check} {n i : Nat} {x : Tender} (hn : NamedTender s c n i x)
    (k : Nat → Tender → State × Reply) : s.withTender c n k = k i x := by
  simp [State.withTender, hn.1, hn.2]

/-- A request whose tests all fail to refuse it is acted on. -/
theorem judged_of_pass {tests : List (Bool × Reply)} (ht : judge tests = none) (act : State × Reply) :
    judged s tests act = act := by
  simp [judged, ht]

/-- A request that some test refuses changes nothing. -/
theorem judged_of_refusal {tests : List (Bool × Reply)} {r : Reply} (ht : judge tests = some r)
    (act : State × Reply) : judged s tests act = (s, r) := by
  simp [judged, ht]

end Sys2Proof.Machine
end

