-- ==== Sys2Proof/Laws/PerInstr.lean ====
section
/-! SUPPORT. One law for each command: the body of a well-formed request has a length that 10.6 gives its kind, and its
header fits its frame. A command that is no request has no body to speak of. -/

namespace Sys2Proof.Laws

open Sys2Proof.Machine

set_option Elab.async false

/-- A number takes as many bytes as its field has. -/
@[simp] theorem be_length (n v : Nat) : (be n v).length = n := by
  induction n generalizing v with
  | zero => rfl
  | succ n ih => simp [be, ih]

@[simp] theorem pack_nil (vs : List Nat) : pack [] vs = [] := rfl

/-- A packed field, then the rest. -/
@[simp] theorem pack_cons (n : Nat) (ns : List Nat) (v : Nat) (vs : List Nat) :
    pack (n :: ns) (v :: vs) = be n v ++ pack ns vs := rfl

/-- An ADD LINES entry takes 9 bytes. -/
@[simp] theorem encodeEntry_length (e : LineEntry) : (encodeEntry e).length = 9 := by
  simp [encodeEntry, entrySizes]

/-- The entries of an ADD LINES body take 9 bytes each. -/
theorem encodeEntries_length (es : List LineEntry) : (es.map encodeEntry).flatten.length = 9 * es.length := by
  induction es with
  | nil => rfl
  | cons e es ih => simp only [List.map_cons, List.flatten_cons, List.length_append, encodeEntry_length, ih,
      List.length_cons]; omega

/-- The law: a well-formed request has a header that fits and a body of a length that its kind has. -/
def Wellformed.Statement (i : Instr) : Prop :=
  i.wf = true → ∀ (h : Hdr) (kind : Nat) (body : List Byte), requestParts i = some (h, kind, body) →
    h.wf = true ∧ body.length ∈ bodyLengths kind

/-- The law of a request whose body is fields alone. -/
theorem Wellformed.of_parts {i : Instr} {h : Hdr} {kind : Nat} {body : List Byte}
    (hp : requestParts i = some (h, kind, body)) (hw : i.wf = true → h.wf = true)
    (hl : i.wf = true → body.length ∈ bodyLengths kind) : Wellformed.Statement i := by
  intro hi h' kind' body' hp'
  rw [hp] at hp'
  simp only [Option.some.injEq, Prod.mk.injEq] at hp'
  obtain ⟨rfl, rfl, rfl⟩ := hp'
  exact ⟨hw hi, hl hi⟩

/-- The law of a command that is no request. -/
theorem Wellformed.of_none {i : Instr} (hp : requestParts i = none) : Wellformed.Statement i := by
  intro _ h kind body hp'
  rw [hp] at hp'
  cases hp'

theorem Wellformed.hello (h : Hdr) : Wellformed.Statement (.hello h) :=
  Wellformed.of_parts rfl (fun hw => hw)
    (fun _ => by simp [bodyLengths])

theorem Wellformed.openCheck (h : Hdr) (table : Nat) (covers : Nat) (owner : Nat) :
    Wellformed.Statement (.openCheck h table covers owner) :=
  Wellformed.of_parts rfl
    (fun hw => (Bool.and_eq_true_iff.mp (Bool.and_eq_true_iff.mp (Bool.and_eq_true_iff.mp hw).1).1).1)
    (fun _ => by simp [bodyLengths])

theorem Wellformed.readCheck (h : Hdr) (check : Nat) : Wellformed.Statement (.readCheck h check) :=
  Wellformed.of_parts rfl (fun hw => (Bool.and_eq_true_iff.mp hw).1)
    (fun _ => by simp [bodyLengths])

theorem Wellformed.updateCheck (h : Hdr) (check : Nat) (covers : Nat) :
    Wellformed.Statement (.updateCheck h check covers) :=
  Wellformed.of_parts rfl (fun hw => (Bool.and_eq_true_iff.mp (Bool.and_eq_true_iff.mp hw).1).1)
    (fun _ => by simp [bodyLengths])

theorem Wellformed.presentCheck (h : Hdr) (check : Nat) : Wellformed.Statement (.presentCheck h check) :=
  Wellformed.of_parts rfl (fun hw => (Bool.and_eq_true_iff.mp hw).1)
    (fun _ => by simp [bodyLengths])

theorem Wellformed.transferCheck (h : Hdr) (check : Nat) (table : Nat) (owner : Nat) :
    Wellformed.Statement (.transferCheck h check table owner) :=
  Wellformed.of_parts rfl
    (fun hw => (Bool.and_eq_true_iff.mp (Bool.and_eq_true_iff.mp (Bool.and_eq_true_iff.mp hw).1).1).1)
    (fun _ => by simp [bodyLengths])

theorem Wellformed.voidCheck (h : Hdr) (check : Nat) : Wellformed.Statement (.voidCheck h check) :=
  Wellformed.of_parts rfl (fun hw => (Bool.and_eq_true_iff.mp hw).1)
    (fun _ => by simp [bodyLengths])

theorem Wellformed.closeCheck (h : Hdr) (check : Nat) : Wellformed.Statement (.closeCheck h check) :=
  Wellformed.of_parts rfl (fun hw => (Bool.and_eq_true_iff.mp hw).1)
    (fun _ => by simp [bodyLengths])

theorem Wellformed.addLines (h : Hdr) (check : Nat) (entries : List LineEntry) :
    Wellformed.Statement (.addLines h check entries) := by
  refine Wellformed.of_parts rfl (fun hw => ?_) (fun hw => ?_)
  · simp only [Instr.wf, Bool.and_eq_true] at hw
    exact hw.1.1.1
  · have hl : 1 ≤ entries.length ∧ entries.length ≤ 8 := by
      simp only [Instr.wf, Bool.and_eq_true, decide_eq_true_eq] at hw
      exact hw.1.2
    have h9 := encodeEntries_length entries
    have hb : (pack [2] [check] ++ (entries.map encodeEntry).flatten).length = 2 + 9 * entries.length := by
      simp only [List.length_append, pack_cons, pack_nil, be_length, List.length_nil, h9]
    rw [hb]
    have hn : entries.length = 1 ∨ entries.length = 2 ∨ entries.length = 3 ∨ entries.length = 4 ∨ entries.length = 5
        ∨ entries.length = 6 ∨ entries.length = 7 ∨ entries.length = 8 := by omega
    rcases hn with hn | hn | hn | hn | hn | hn | hn | hn <;> rw [hn] <;> decide

theorem Wellformed.voidLine (h : Hdr) (check : Nat) (line : Nat) : Wellformed.Statement (.voidLine h check line) :=
  Wellformed.of_parts rfl (fun hw => (Bool.and_eq_true_iff.mp (Bool.and_eq_true_iff.mp hw).1).1)
    (fun _ => by simp [bodyLengths])

theorem Wellformed.discountLine (h : Hdr) (check : Nat) (line : Nat) (amount : Nat) :
    Wellformed.Statement (.discountLine h check line amount) :=
  Wellformed.of_parts rfl
    (fun hw => (Bool.and_eq_true_iff.mp (Bool.and_eq_true_iff.mp (Bool.and_eq_true_iff.mp hw).1).1).1)
    (fun _ => by simp [bodyLengths])

theorem Wellformed.readLines (h : Hdr) (check : Nat) (first : Nat) (last : Nat) :
    Wellformed.Statement (.readLines h check first last) :=
  Wellformed.of_parts rfl
    (fun hw => (Bool.and_eq_true_iff.mp (Bool.and_eq_true_iff.mp (Bool.and_eq_true_iff.mp hw).1).1).1)
    (fun _ => by simp [bodyLengths])

theorem Wellformed.setSplit (h : Hdr) (check : Nat) (kind : Nat) (count : Nat) :
    Wellformed.Statement (.setSplit h check kind count) :=
  Wellformed.of_parts rfl
    (fun hw => (Bool.and_eq_true_iff.mp (Bool.and_eq_true_iff.mp (Bool.and_eq_true_iff.mp hw).1).1).1)
    (fun _ => by simp [bodyLengths])

theorem Wellformed.setPortion (h : Hdr) (check : Nat) (portion : Nat) (amount : Nat) :
    Wellformed.Statement (.setPortion h check portion amount) :=
  Wellformed.of_parts rfl
    (fun hw => (Bool.and_eq_true_iff.mp (Bool.and_eq_true_iff.mp (Bool.and_eq_true_iff.mp hw).1).1).1)
    (fun _ => by simp [bodyLengths])

theorem Wellformed.lockSplit (h : Hdr) (check : Nat) : Wellformed.Statement (.lockSplit h check) :=
  Wellformed.of_parts rfl (fun hw => (Bool.and_eq_true_iff.mp hw).1)
    (fun _ => by simp [bodyLengths])

theorem Wellformed.startTender (h : Hdr) (check : Nat) (portion : Nat) (kind : Nat) (amount : Nat) (token : List Byte) :
    Wellformed.Statement (.startTender h check portion kind amount token) := by
  refine Wellformed.of_parts rfl (fun hw => ?_) (fun hw => ?_)
  · simp only [Instr.wf, Bool.and_eq_true] at hw
    exact hw.1.1.1.1.1
  · have hl : token.length = 32 := by
      simp only [Instr.wf, Bool.and_eq_true, decide_eq_true_eq] at hw
      exact hw.2
    simp only [List.length_append, pack_cons, pack_nil, be_length, List.length_nil, hl]
    decide

theorem Wellformed.submitTip (h : Hdr) (check : Nat) (tender : Nat) (form : Nat) (figure : Nat) :
    Wellformed.Statement (.submitTip h check tender form figure) :=
  Wellformed.of_parts rfl
    (fun hw => (Bool.and_eq_true_iff.mp (Bool.and_eq_true_iff.mp (Bool.and_eq_true_iff.mp (Bool.and_eq_true_iff.mp hw).1).1).1).1)
    (fun _ => by simp [bodyLengths])

theorem Wellformed.withdrawTender (h : Hdr) (check : Nat) (tender : Nat) :
    Wellformed.Statement (.withdrawTender h check tender) :=
  Wellformed.of_parts rfl (fun hw => (Bool.and_eq_true_iff.mp (Bool.and_eq_true_iff.mp hw).1).1)
    (fun _ => by simp [bodyLengths])

theorem Wellformed.fetchStatus (h : Hdr) (check : Nat) (tender : Nat) :
    Wellformed.Statement (.fetchStatus h check tender) :=
  Wellformed.of_parts rfl (fun hw => (Bool.and_eq_true_iff.mp (Bool.and_eq_true_iff.mp hw).1).1)
    (fun _ => by simp [bodyLengths])

theorem Wellformed.abandonTender (h : Hdr) (check : Nat) (tender : Nat) :
    Wellformed.Statement (.abandonTender h check tender) :=
  Wellformed.of_parts rfl (fun hw => (Bool.and_eq_true_iff.mp (Bool.and_eq_true_iff.mp hw).1).1)
    (fun _ => by simp [bodyLengths])

theorem Wellformed.holdCheck (h : Hdr) (check : Nat) : Wellformed.Statement (.holdCheck h check) :=
  Wellformed.of_parts rfl (fun hw => (Bool.and_eq_true_iff.mp hw).1)
    (fun _ => by simp [bodyLengths])

theorem Wellformed.releaseCheck (h : Hdr) (check : Nat) : Wellformed.Statement (.releaseCheck h check) :=
  Wellformed.of_parts rfl (fun hw => (Bool.and_eq_true_iff.mp hw).1)
    (fun _ => by simp [bodyLengths])

theorem Wellformed.approve (h : Hdr) (check : Nat) (number : Nat) : Wellformed.Statement (.approve h check number) :=
  Wellformed.of_parts rfl (fun hw => (Bool.and_eq_true_iff.mp (Bool.and_eq_true_iff.mp hw).1).1)
    (fun _ => by simp [bodyLengths])

theorem Wellformed.reject (h : Hdr) (check : Nat) (number : Nat) : Wellformed.Statement (.reject h check number) :=
  Wellformed.of_parts rfl (fun hw => (Bool.and_eq_true_iff.mp (Bool.and_eq_true_iff.mp hw).1).1)
    (fun _ => by simp [bodyLengths])

theorem Wellformed.setWatch (h : Hdr) (check : Nat) (mask : Nat) : Wellformed.Statement (.setWatch h check mask) :=
  Wellformed.of_parts rfl (fun hw => (Bool.and_eq_true_iff.mp (Bool.and_eq_true_iff.mp hw).1).1)
    (fun _ => by simp [bodyLengths])

theorem Wellformed.dropWatch (h : Hdr) (check : Nat) : Wellformed.Statement (.dropWatch h check) :=
  Wellformed.of_parts rfl (fun hw => (Bool.and_eq_true_iff.mp hw).1)
    (fun _ => by simp [bodyLengths])

theorem Wellformed.fetchHits (h : Hdr) : Wellformed.Statement (.fetchHits h) :=
  Wellformed.of_parts rfl (fun hw => hw)
    (fun _ => by simp [bodyLengths])

theorem Wellformed.fetchNextPending (h : Hdr) : Wellformed.Statement (.fetchNextPending h) :=
  Wellformed.of_parts rfl (fun hw => hw)
    (fun _ => by simp [bodyLengths])

theorem Wellformed.ackNoticeStartup (h : Hdr) (source : Nat) : Wellformed.Statement (.ackNoticeStartup h source) :=
  Wellformed.of_parts rfl (fun hw => (Bool.and_eq_true_iff.mp (Bool.and_eq_true_iff.mp hw).1).1)
    (fun _ => by simp [bodyLengths])

theorem Wellformed.ackNoticeAged (h : Hdr) : Wellformed.Statement (.ackNoticeAged h) :=
  Wellformed.of_parts rfl (fun hw => hw)
    (fun _ => by simp [bodyLengths])

theorem Wellformed.setTable (h : Hdr) (first : Nat) (last : Nat) (sect : Nat) :
    Wellformed.Statement (.setTable h first last sect) :=
  Wellformed.of_parts rfl
    (fun hw => (Bool.and_eq_true_iff.mp (Bool.and_eq_true_iff.mp (Bool.and_eq_true_iff.mp hw).1).1).1)
    (fun _ => by simp [bodyLengths])

theorem Wellformed.setTerminal (h : Hdr) (terminal : Nat) (role : Nat) (mask : Nat) :
    Wellformed.Statement (.setTerminal h terminal role mask) :=
  Wellformed.of_parts rfl
    (fun hw => (Bool.and_eq_true_iff.mp (Bool.and_eq_true_iff.mp (Bool.and_eq_true_iff.mp hw).1).1).1)
    (fun _ => by simp [bodyLengths])

theorem Wellformed.forgetTerminal (h : Hdr) (terminal : Nat) : Wellformed.Statement (.forgetTerminal h terminal) :=
  Wellformed.of_parts rfl (fun hw => (Bool.and_eq_true_iff.mp hw).1)
    (fun _ => by simp [bodyLengths])

theorem Wellformed.readTable (h : Hdr) (table : Nat) : Wellformed.Statement (.readTable h table) :=
  Wellformed.of_parts rfl (fun hw => (Bool.and_eq_true_iff.mp hw).1)
    (fun _ => by simp [bodyLengths])

theorem Wellformed.setSetting (h : Hdr) (number : Nat) (value : Nat) :
    Wellformed.Statement (.setSetting h number value) :=
  Wellformed.of_parts rfl (fun hw => (Bool.and_eq_true_iff.mp (Bool.and_eq_true_iff.mp hw).1).1)
    (fun _ => by simp [bodyLengths])

theorem Wellformed.readSetting (h : Hdr) (number : Nat) : Wellformed.Statement (.readSetting h number) :=
  Wellformed.of_parts rfl (fun hw => (Bool.and_eq_true_iff.mp hw).1)
    (fun _ => by simp [bodyLengths])

theorem Wellformed.saveSettings (h : Hdr) : Wellformed.Statement (.saveSettings h) :=
  Wellformed.of_parts rfl (fun hw => hw)
    (fun _ => by simp [bodyLengths])

theorem Wellformed.loadSettings (h : Hdr) (source : Nat) : Wellformed.Statement (.loadSettings h source) :=
  Wellformed.of_parts rfl (fun hw => (Bool.and_eq_true_iff.mp hw).1)
    (fun _ => by simp [bodyLengths])

theorem Wellformed.setClock (h : Hdr) (day : Nat) (minute : Nat) : Wellformed.Statement (.setClock h day minute) :=
  Wellformed.of_parts rfl (fun hw => (Bool.and_eq_true_iff.mp (Bool.and_eq_true_iff.mp hw).1).1)
    (fun _ => by simp [bodyLengths])

theorem Wellformed.readPartStatus (h : Hdr) : Wellformed.Statement (.readPartStatus h) :=
  Wellformed.of_parts rfl (fun hw => hw)
    (fun _ => by simp [bodyLengths])

theorem Wellformed.clearLinkFault (h : Hdr) : Wellformed.Statement (.clearLinkFault h) :=
  Wellformed.of_parts rfl (fun hw => hw)
    (fun _ => by simp [bodyLengths])

theorem Wellformed.malformedRequest (h : Hdr) (kind : Nat) (bodyLen : Nat) :
    Wellformed.Statement (.malformedRequest h kind bodyLen) :=
  Wellformed.of_none rfl

theorem Wellformed.tagZeroFrame (port : ReqPort) : Wellformed.Statement (.tagZeroFrame port) :=
  Wellformed.of_none rfl

theorem Wellformed.crcErrorFrame (port : Port) : Wellformed.Statement (.crcErrorFrame port) :=
  Wellformed.of_none rfl

theorem Wellformed.frameLenError (port : StreamPort) (len : Nat) : Wellformed.Statement (.frameLenError port len) :=
  Wellformed.of_none rfl

theorem Wellformed.frameIdleTimeout (port : StreamPort) (count : Nat) :
    Wellformed.Statement (.frameIdleTimeout port count) :=
  Wellformed.of_none rfl

theorem Wellformed.requestOverrun (port : ReqPort) : Wellformed.Statement (.requestOverrun port) :=
  Wellformed.of_none rfl

theorem Wellformed.fhpTransaction (bytes : List Byte) : Wellformed.Statement (.fhpTransaction bytes) :=
  Wellformed.of_none rfl

theorem Wellformed.outputFrameSent (port : StreamPort) : Wellformed.Statement (.outputFrameSent port) :=
  Wellformed.of_none rfl

theorem Wellformed.result (tag : Nat) (body : List Byte) : Wellformed.Statement (.result tag body) :=
  Wellformed.of_none rfl

theorem Wellformed.nonResultFrame (kind : Nat) : Wellformed.Statement (.nonResultFrame kind) :=
  Wellformed.of_none rfl

theorem Wellformed.exchangeTimeout (tag : Nat) : Wellformed.Statement (.exchangeTimeout tag) :=
  Wellformed.of_none rfl

theorem Wellformed.grant : Wellformed.Statement .grant :=
  Wellformed.of_none rfl

theorem Wellformed.noLinkCompletion : Wellformed.Statement .noLinkCompletion :=
  Wellformed.of_none rfl

theorem Wellformed.linkOkFall : Wellformed.Statement .linkOkFall :=
  Wellformed.of_none rfl

theorem Wellformed.linkOkRise : Wellformed.Statement .linkOkRise :=
  Wellformed.of_none rfl

theorem Wellformed.leaseExpiry (check : Nat) (tender : Nat) : Wellformed.Statement (.leaseExpiry check tender) :=
  Wellformed.of_none rfl

theorem Wellformed.approvalExpiry (number : Nat) : Wellformed.Statement (.approvalExpiry number) :=
  Wellformed.of_none rfl

theorem Wellformed.terminalSilence (terminal : Nat) : Wellformed.Statement (.terminalSilence terminal) :=
  Wellformed.of_none rfl

theorem Wellformed.checkAged (check : Nat) : Wellformed.Statement (.checkAged check) :=
  Wellformed.of_none rfl

theorem Wellformed.secondTick : Wellformed.Statement .secondTick :=
  Wellformed.of_none rfl

theorem Wellformed.minuteTick : Wellformed.Statement .minuteTick :=
  Wellformed.of_none rfl

theorem Wellformed.saveEnd (matched : Bool) : Wellformed.Statement (.saveEnd matched) :=
  Wellformed.of_none rfl

theorem Wellformed.resetAssert (cause : HaltCause) : Wellformed.Statement (.resetAssert cause) :=
  Wellformed.of_none rfl

theorem Wellformed.coldStart (selLow : Bool) : Wellformed.Statement (.coldStart selLow) :=
  Wellformed.of_none rfl

theorem Wellformed.warmStart (selLow : Bool) : Wellformed.Statement (.warmStart selLow) :=
  Wellformed.of_none rfl

theorem Wellformed.clockAdvanceWithoutPower (seconds : Nat) :
    Wellformed.Statement (.clockAdvanceWithoutPower seconds) :=
  Wellformed.of_none rfl

theorem Wellformed.retentionIndicatorLost : Wellformed.Statement .retentionIndicatorLost :=
  Wellformed.of_none rfl

end Sys2Proof.Laws
end

