-- ==== Sys2Proof/Tests/Slice0.lean ====
section
/-! SUPPORT. Tests on fixed values, taken from the worked cases and tables of the manual, and for each statement of
Certificates/Slice0/Obligations.lean a witness that its hypotheses can be met. -/

set_option Elab.async false

namespace Sys2Proof.Tests

open Sys2Proof.Machine

/-! ## Small states -/

/-- A request header: the floor server by its own port, a terminal by the Floor Link Port; no version compared. -/
def hdr (term : Nat) : Hdr := { port := if term = 0 then .fhp else .flp, term, tag := 1, ver := 65535 }

/-- The settings of the worked case 4.10, with every section shared and every notice source enabled; tables 1, 2 and 3
stand in section 1, terminal 1 is a SERVER on it, terminal 2 a MANAGER. -/
def floorSettings : Settings where
  values := [7250, 10000, 0, 0, 0, 0, 0, 0, 0, 0, 0, 100000, 20000, 20000, 90, 30, 3, 3, 300, 120, 180, 255, 8191]
  sections := [1, 1, 1] ++ List.replicate 397 0
  roles := [.server, .manager] ++ List.replicate 46 .off
  masks := [1] ++ List.replicate 47 0

/-- The part at work on that floor, the link UP, no check live. -/
def floor : State :=
  { State.reset with
    sst := { State.reset.sst with work := floorSettings }
    aqp := { State.reset.aqp with linkOk := true, link := .up } }

/-- A line of the worked case 4.10. -/
def lineOf (number seat quantity price cls : Nat) : Line :=
  { number, item := 4096, seat, quantity, price, cls, discount := 0, void := false, addedBy := 1 }

/-- The six lines of the worked case 4.10. -/
def sixLines : List Line :=
  [lineOf 1 0 1 1450 1, lineOf 2 1 1 2395 1, lineOf 3 2 1 2795 1, lineOf 4 3 1 1995 1, lineOf 5 1 2 850 2,
   lineOf 6 3 1 1200 2]

/-- Check 1 on table 1 with the six lines, under a plan of a kind. -/
def checkWith (kind : PlanKind) (count : Nat) : Check :=
  { newCheck 1 1 3 1 0 0 with
    lines := sixLines, nextLine := 7, totals := totalsOf floorSettings 3 sixLines
    plan := buildPlan floorSettings 3 sixLines kind count }

/-- The check of the worked case, unsplit. -/
def six : Check := checkWith .unsplit 1

/-- The floor with one check in slot 0, on table 1. -/
def seat (c : Check) : State :=
  { floor with
    ckt := { slots := some c :: List.replicate 191 none, nextNumber := 2 }
    freeLines := 3072 - c.lines.length
    fmp := { floor.fmp with lists := [0] :: List.replicate 399 [] } }

/-- A card tender of check 1 for the whole of portion 1, held by terminal 1. -/
def cardTender (state : TenderState) : Tender :=
  { newTender 0 1 1 .tipFirst (some 1) 1 12451 with state, token := some (List.replicate 32 7) }

/-- A state of the check, with the tender at pool index 0 as its tender 1. -/
def owing (c : Check) (state : CheckState) : Check :=
  { c with
    state, tenders := [0]
    plan := { c.plan with portions := c.plan.portions.map fun p => { p with counted := p.share } } }

/-- The floor with one check and its tender. -/
def table1 (c : Check) (t : Tender) : State :=
  { seat c with tdu := { pool := some t :: List.replicate 319 none, pendingList := if t.hasStatus then [0] else [] } }

/-- A list that holds one value and then none. -/
theorem getElem?_single {α : Type} (x : α) (n i : Nat) :
    ((some x :: List.replicate n none : List (Option α))[i]?).join = if i = 0 then some x else none := by
  cases i with
  | zero => rfl
  | succ k => by_cases h : k < n <;> simp [h]

theorem table1_check? (c : Check) (x : Tender) (slot : Nat) :
    (table1 c x).check? slot = if slot = 0 then some c else none := getElem?_single c 191 slot

theorem table1_tender? (c : Check) (x : Tender) (i : Nat) :
    (table1 c x).tender? i = if i = 0 then some x else none := getElem?_single x 319 i

/-- A check with one tender, its tender 1, is a state of matched records. -/
theorem table1_listed (c : Check) (x : Tender) (hc : c.tenders = [0]) (hs : x.slot = 0) (hn : x.number = 1) :
    TendersListed (table1 c x) := by
  refine ⟨congrArg (· + 1) (List.length_replicate (n := 319)), fun slot d hd => ?_, fun i y hy => ?_⟩
  · rw [table1_check?] at hd
    split at hd
    · rename_i h0
      obtain rfl : c = d := Option.some.inj hd
      refine ⟨by rw [hc]; decide, fun k i hk => ?_⟩
      rw [hc] at hk
      match k with
      | 0 =>
        obtain rfl : 0 = i := Option.some.inj hk
        exact ⟨x, table1_tender? c x 0, hs.trans h0.symm, hn⟩
      | k + 1 => simp at hk
    · simp at hd
  · rw [table1_tender?] at hy
    split at hy
    · rename_i h0
      obtain rfl : x = y := Option.some.inj hy
      exact ⟨c, 0, by rw [table1_check?, if_pos hs], by rw [hc, h0]; rfl, hn⟩
    · simp at hy

/-- The outcome of a command, the check in slot 0 of it, and the answers it leaves. -/
def after (i : Instr) (s : State) : State := Out.orElse (exec i s) s

/-- The codes of the answers in an output list. -/
def codes (l : List Frame) : List Code := l.filterMap fun
  | .answer _ _ _ code _ _ => some code
  | _ => none

/-! ## The worked cases of the manual -/

/-- 04 4.10: taxes, subtotal and total of the six lines. -/
theorem test_worked_totals :
    totalsOf floorSettings 3 sixLines
      = { subtotal := 11535, taxes := [626, 290, 0, 0, 0, 0, 0, 0], service := 0, total := 12451 } := by decide +kernel

/-- 04 4.10: the shares by seat and their class 1 taxes. -/
theorem test_worked_seat_shares :
    seatShares floorSettings 3 sixLines [1, 2, 3] = [4958, 3516, 3977]
    ∧ portionTaxes floorSettings sixLines [1, 2, 3] 1 = [209, 238, 179]
    ∧ portionBases sixLines [1, 2, 3] 1 = [2879, 3278, 2478] := by decide +kernel

/-- 04 4.11: the shares with a service of 1,442, which covers of 6 bring. -/
theorem test_worked_service :
    (fun w : Settings => (serviceParts w 6 sixLines [1, 2, 3], seatShares w 6 sixLines [1, 2, 3],
        (totalsOf w 6 sixLines).total, (totalsOf w 5 sixLines).total))
      ((floorSettings.write 10 12500).write 11 6)
      = ([572, 410, 460], [5530, 3926, 4437], 13893, 12451) := by decide +kernel

/-- 04 4.12: the two roundings of an exact half and of its neighbours. -/
theorem test_rounding_modes :
    [25250000, 25350000, 25260000, 25240000].map (roundCent 0) = [253, 254, 253, 252]
    ∧ [25250000, 25350000, 25260000, 25240000].map (roundCent 1) = [252, 254, 253, 252] := by decide +kernel

/-- 04 R65, 4.10: even shares, and 20 portions of a total of 13. -/
theorem test_even_shares :
    evenShares 12451 4 = [3113, 3113, 3113, 3112] ∧ evenShares 12451 3 = [4151, 4150, 4150]
    ∧ evenShares 13 20 = List.replicate 13 1 ++ List.replicate 7 0 := by decide +kernel

/-- 04 4.13: every portion takes a cent. -/
theorem test_every_portion_takes_a_cent :
    apportion 450 100000 [19980000, 24980000] = [200, 250] := by decide +kernel

/-- 04 R73: cash on a balance of 3,112. -/
theorem test_cash_figures :
    cashFigures 5000 3112 = some (5000, 3112, 1888) ∧ cashFigures 2000 3112 = some (2000, 2000, 0)
    ∧ cashFigures 0 3112 = some (3112, 3112, 0) ∧ cashFigures 5 0 = none := by decide +kernel

/-- 04 4.15: the tip cap of 4,958 at a limit of 25,000. -/
theorem test_tip_cap : tipCap (floorSettings.write 12 25000) 4958 = 1239 := by decide +kernel

/-- 01 1.8: the hold ceiling of 12,451 at a tolerance of 20,000. -/
theorem test_hold_ceiling :
    ({ cardTender .authorized with authTotal := some 12451, tolerance := some 20000 } : Tender).ceiling = some 14941 := by
  decide +kernel

/-- 10 R176 and 11 R191 name the two checksums by their generators; their published check values. -/
theorem test_checksums :
    crc16 [0x31, 0x32, 0x33, 0x34, 0x35, 0x36, 0x37, 0x38, 0x39] = 0x29B1
    ∧ crc32 [0x31, 0x32, 0x33, 0x34, 0x35, 0x36, 0x37, 0x38, 0x39] = 0xCBF43926 := by decide +kernel

/-! ## Commands that a frame cannot be are refused by wf -/

/-- A table number above two bytes. -/
theorem test_wf_table : (Instr.openCheck (hdr 1) 65536 3 255).wf = false ∧ (Instr.openCheck (hdr 1) 65535 3 255).wf = true := by
  decide +kernel

/-- A TAG of 0, a TERM above one byte and a VER above two. -/
theorem test_wf_header :
    (Instr.hello { hdr 1 with tag := 0 }).wf = false ∧ (Instr.hello { hdr 1 with tag := 256 }).wf = false
    ∧ (Instr.hello { hdr 1 with term := 256 }).wf = false ∧ (Instr.hello { hdr 1 with ver := 65536 }).wf = false
    ∧ (Instr.hello (hdr 1)).wf = true := by decide +kernel

/-- An entry of an ADD LINES body. -/
def entry : LineEntry := { item := 1, seat := 0, quantity := 1, price := 5, cls := 1 }

/-- No entry and nine entries; an entry with a field too wide. -/
theorem test_wf_entries :
    (Instr.addLines (hdr 1) 1 []).wf = false ∧ (Instr.addLines (hdr 1) 1 (List.replicate 9 entry)).wf = false
    ∧ (Instr.addLines (hdr 1) 1 (List.replicate 8 entry)).wf = true
    ∧ [{ entry with item := 2 ^ 24 }, { entry with seat := 256 }, { entry with quantity := 256 },
        { entry with price := 2 ^ 24 }, { entry with cls := 256 }].all (fun e => !e.wf) = true := by decide +kernel

/-- A token that is not 32 bytes; an amount above four bytes. -/
theorem test_wf_token :
    (Instr.startTender (hdr 1) 1 1 1 0 []).wf = false
    ∧ (Instr.startTender (hdr 1) 1 1 1 0 (List.replicate 32 0)).wf = true
    ∧ (Instr.startTender (hdr 1) 1 1 1 (2 ^ 32) (List.replicate 32 0)).wf = false := by decide +kernel

/-- Fields of one byte: a line, a portion, a tender, a mask, a setting number, a role. -/
theorem test_wf_bytes :
    [Instr.voidLine (hdr 1) 1 256, .setPortion (hdr 1) 1 256 0, .fetchStatus (hdr 1) 1 256, .setWatch (hdr 1) 1 256,
      .readSetting (hdr 0) 256, .setTerminal (hdr 0) 1 256 0, .forgetTerminal (hdr 0) 256, .loadSettings (hdr 0) 256,
      .approve (hdr 2) 1 256, .setSplit (hdr 1) 1 256 0, .updateCheck (hdr 1) 1 256, .readLines (hdr 1) 1 1 256].all
      (fun i => !i.wf) = true := by decide +kernel

/-- Fields of two and four bytes: check numbers, tables, a day, an amount, a figure, a value. -/
theorem test_wf_words :
    [Instr.readCheck (hdr 1) 65536, .dropWatch (hdr 1) 65536, .readTable (hdr 0) 65536, .setTable (hdr 0) 1 65536 1,
      .transferCheck (hdr 1) 1 65536 1, .setClock (hdr 0) 65536 0, .discountLine (hdr 1) 1 1 (2 ^ 32),
      .submitTip (hdr 1) 1 1 0 (2 ^ 32), .setSetting (hdr 0) 1 (2 ^ 32)].all (fun i => !i.wf) = true := by decide +kernel

/-- ACK NOTICE naming AGED is the other constructor's. -/
theorem test_wf_ack : (Instr.ackNoticeStartup (hdr 0) 12).wf = false ∧ (Instr.ackNoticeStartup (hdr 0) 13).wf = true := by
  decide +kernel

/-- Events that their rows do not have. -/
theorem test_wf_events :
    [Instr.malformedRequest (hdr 1) 2 241, .frameLenError .flp 5, .frameLenError .aqp 245, .frameIdleTimeout .flp 249,
      .result 256 [], .result 1 (List.replicate 243 0), .nonResultFrame 0xC8, .exchangeTimeout 0, .leaseExpiry 65536 1,
      .approvalExpiry 0, .terminalSilence 49, .terminalSilence 0, .checkAged 10000].all (fun i => !i.wf) = true := by
  decide +kernel

/-! ## Frames written out from the tables of 10.6 -/

/-- HELLO, READ CHECK and READ LINES. -/
theorem test_decode_reads :
    decodeRequest .flp [1, 2, 0x01, 0, 0] = some (.hello { port := .flp, term := 1, tag := 2, ver := 0 })
    ∧ decodeRequest .flp [1, 2, 0x11, 0, 7, 0x27, 0x0F]
        = some (.readCheck { port := .flp, term := 1, tag := 2, ver := 7 } 9999)
    ∧ decodeRequest .flp [1, 2, 0x23, 0, 0, 0, 1, 1, 120]
        = some (.readLines { port := .flp, term := 1, tag := 2, ver := 0 } 1 1 120) := by decide +kernel

/-- TRANSFER CHECK, SET PORTION and WITHDRAW TENDER. -/
theorem test_decode_changes :
    decodeRequest .flp [1, 2, 0x14, 0xFF, 0xFF, 0, 1, 1, 0x90, 255]
        = some (.transferCheck { port := .flp, term := 1, tag := 2, ver := 65535 } 1 400 255)
    ∧ decodeRequest .flp [1, 2, 0x31, 0, 0, 0, 1, 3, 0, 0, 0x09, 0x93]
        = some (.setPortion { port := .flp, term := 1, tag := 2, ver := 0 } 1 3 2451)
    ∧ decodeRequest .flp [1, 2, 0x42, 0, 0, 0, 1, 16]
        = some (.withdrawTender { port := .flp, term := 1, tag := 2, ver := 0 } 1 16) := by decide +kernel

/-- START TENDER with its token. -/
theorem test_decode_start :
    decodeRequest .flp ([1, 2, 0x40, 0, 0, 0, 1, 1, 2, 0, 0, 0x30, 0xA3] ++ List.replicate 32 0xAB)
      = some (.startTender { port := .flp, term := 1, tag := 2, ver := 0 } 1 1 2 12451 (List.replicate 32 0xAB)) := by
  decide +kernel

/-- APPROVE, SET WATCH, ACK NOTICE, SET TERMINAL and SET CLOCK. -/
theorem test_decode_others :
    decodeRequest .flp [2, 1, 0x52, 0, 0, 0, 9, 255]
        = some (.approve { port := .flp, term := 2, tag := 1, ver := 0 } 9 255)
    ∧ decodeRequest .flp [2, 1, 0x60, 0, 0, 0, 9, 0x81]
        = some (.setWatch { port := .flp, term := 2, tag := 1, ver := 0 } 9 0x81)
    ∧ decodeRequest .fhp [0, 1, 0x69, 0, 0, 12] = some (.ackNoticeAged { port := .fhp, term := 0, tag := 1, ver := 0 })
    ∧ decodeRequest .fhp [0, 1, 0x71, 0, 0, 48, 2, 0xFF]
        = some (.setTerminal { port := .fhp, term := 0, tag := 1, ver := 0 } 48 2 255)
    ∧ decodeRequest .fhp [0, 1, 0x84, 0, 0, 0, 9, 0x05, 0x9F]
        = some (.setClock { port := .fhp, term := 0, tag := 1, ver := 0 } 9 1439) := by decide +kernel

/-- An unknown kind, a wrong length and a TAG of 0 (10 R178). -/
theorem test_decode_malformed :
    decodeRequest .flp [1, 2, 0x02, 0, 0] = some (.malformedRequest { port := .flp, term := 1, tag := 2, ver := 0 } 2 0)
    ∧ decodeRequest .flp [1, 2, 0x11, 0, 0, 1]
        = some (.malformedRequest { port := .flp, term := 1, tag := 2, ver := 0 } 0x11 1)
    ∧ decodeRequest .flp [1, 0, 0x11, 0, 0, 0, 1] = some (.tagZeroFrame .flp) := by decide +kernel

/-! ## Witnesses: the step, refusals and reading -/

theorem witness_stepRunsFrontCommand :
    ({ floor with pending := [.grant, .secondTick] } : State).pending = .grant :: [.secondTick] ∧ floor.pending = [] := by
  decide +kernel

theorem witness_refusedRequestsChangeNothing :
    requestOf (.readCheck (hdr 1) 1) = some (hdr 1, 0x11, .read) ∧ (Instr.readCheck (hdr 1) 1).wf = true
    ∧ floor.takes (hdr 1) = .taken := by decide +kernel

theorem witness_earlyRefusals_class :
    requestOf (.openCheck (hdr 48) 1 3 255) = some (hdr 48, 0x10, .change) ∧ (Instr.openCheck (hdr 48) 1 3 255).wf = true
    ∧ floor.takes (hdr 48) = .taken ∧ floor.admits .change 48 = false := by decide +kernel

theorem witness_earlyRefusals_number :
    requestOf (.readCheck (hdr 1) 9999) = some (hdr 1, 0x11, .read) ∧ (Instr.readCheck (hdr 1) 9999).wf = true
    ∧ Judged (seat six) (hdr 1) .read ∧ namedCheck (.readCheck (hdr 1) 9999) = some 9999
    ∧ (seat six).findSlot 9999 = none := by decide +kernel

theorem witness_staleRefusals :
    (fun h : Hdr => requestOf (.presentCheck h 1) = some (h, 0x13, .change) ∧ (Instr.presentCheck h 1).wf = true
      ∧ Judged (seat six) h .change ∧ comparesVersion (.presentCheck h 1) = true
      ∧ namedCheck (.presentCheck h 1) = some 1 ∧ Named (seat six) 1 0 six ∧ h.ver ≠ 65535 ∧ h.ver ≠ six.version)
      { hdr 1 with ver := 65534 } := by
  show _ ∧ _
  decide +kernel

/-- The check of the worked case under a manager's hold. -/
def heldSix : Check := { six with holds := { manager := true, approval := false } }

theorem witness_heldRefusals :
    requestOf (.presentCheck (hdr 1) 1) = some (hdr 1, 0x13, .change) ∧ (Instr.presentCheck (hdr 1) 1).wf = true
    ∧ Judged (seat heldSix) (hdr 1) .change ∧ refusedWhenHeld (.presentCheck (hdr 1) 1) = true
    ∧ namedCheck (.presentCheck (hdr 1) 1) = some 1 ∧ Named (seat heldSix) 1 0 heldSix ∧ heldSix.held = true := by
  decide +kernel

/-- A line asked of a check in SETTLING, a recall of a bill shown, a hold on a check that closes. -/
theorem witness_admissionRefusals :
    Judged (seat (owing six .settling)) (hdr 1) .change ∧ Named (seat (owing six .settling)) 1 0 (owing six .settling)
    ∧ requestOf (.voidLine (hdr 1) 1 1) = some (hdr 1, 0x21, .change) ∧ (Instr.voidLine (hdr 1) 1 1).wf = true
    ∧ admittedIn (owing six .settling) (.voidLine (hdr 1) 1 1) = false
    ∧ admittedIn { six with state := .presented } (.presentCheck (hdr 1) 1) = false
    ∧ admittedIn (owing six .paid) (.startTender (hdr 1) 1 1 0 0 []) = false
    ∧ admittedIn (owing six .closing) (.holdCheck (hdr 2) 1) = false
    ∧ admittedIn (owing six .paid) (.abandonTender (hdr 0) 1 1) = false
    ∧ admittedIn six (.closeCheck (hdr 1) 1) = false := by decide +kernel

theorem witness_readingRequestsComplete_hello : floor.takes (hdr 1) = .taken ∧ floor.takes (hdr 48) = .taken := by
  decide +kernel

theorem witness_readingRequestsComplete_check :
    Judged (seat six) (hdr 1) .read ∧ Named (seat six) 1 0 six ∧ (seat six).mayRead 1 six = true := by decide +kernel

theorem witness_readingRequestsComplete_lines :
    Judged (seat six) (hdr 1) .read ∧ Named (seat six) 1 0 six ∧ (seat six).mayRead 1 six = true
    ∧ 1 ≤ 1 ∧ 1 ≤ 120 ∧ 120 ≤ 120 := by decide +kernel

theorem witness_readingRequestsComplete_table :
    Judged (seat six) (hdr 0) .floorServer ∧ 1 ≤ 1 ∧ 1 ≤ 400 ∧ 400 ≤ 400 := by decide +kernel

theorem witness_readingRequestsComplete_status : Judged floor (hdr 0) .floorServer := by decide +kernel

theorem witness_readingRequestsComplete_setting :
    Judged floor (hdr 0) .floorServer ∧ (0 = 0 ∨ 23 < 0) ∧ (24 = 0 ∨ 23 < 24) ∧ (1 ≤ 1 ∧ 1 ≤ 23) ∧ (1 ≤ 23 ∧ 23 ≤ 23)
    ∧ floor.takes (hdr 1) = .taken ∧ (hdr 1).term ≠ 0 := by decide +kernel

/-! ## Witnesses: checks -/

theorem witness_openCheckCompletes_server :
    Judged floor (hdr 1) .change ∧ (255 = 255 ∨ 255 = (hdr 1).term) ∧ floor.works 1 (floor.sectionOf 1) = true
    ∧ floor.isServer 1 = true ∧ 1 ≤ 1 ∧ 1 ≤ 400 ∧ 1 ≤ 30 ∧ 30 ≤ 30 ∧ floor.sectionOf 1 ≠ 0
    ∧ floor.freeSlot = some 0 ∧ (floor.tableList 1).length < 4 := by decide +kernel

theorem witness_openCheckCompletes_floor :
    Judged floor (hdr 0) .change ∧ floor.isServer 0 = false ∧ floor.mayOwn 2 = true ∧ floor.sectionOf 3 ≠ 0
    ∧ floor.freeSlot = some 0 ∧ (floor.tableList 3).length < 4 := by decide +kernel

/-- A check with its figures computed anew. -/
def figured (c : Check) : Check :=
  { c with totals := totalsOf floorSettings c.covers c.lines
           plan := rebuiltPlan floorSettings c (totalsOf floorSettings c.covers c.lines).total }

theorem witness_checkRequestsComplete_update :
    Judged (seat six) (hdr 1) .change ∧ Named (seat six) 1 0 six ∧ (seat six).mayChange 1 six = true ∧ Ready six (hdr 1)
    ∧ six.orderable = true ∧ 1 ≤ 30 ∧ 30 ≤ 30
    ∧ recompute (seat six).sst.work { six with covers := 30 } = .ok (figured { six with covers := 30 }) := by
  decide +kernel

theorem witness_checkRequestsComplete_present :
    Judged (seat six) (hdr 1) .change ∧ Named (seat six) 1 0 six ∧ (seat six).mayChange 1 six = true ∧ Ready six (hdr 1)
    ∧ six.state = .opened := by decide +kernel

theorem witness_checkRequestsComplete_transferTable :
    Judged (seat six) (hdr 1) .change ∧ Named (seat six) 1 0 six ∧ (seat six).mayChange 1 six = true ∧ Ready six (hdr 1)
    ∧ six.closeRunning = false ∧ movesTable six 2 = true ∧ 2 ≤ 400 ∧ (seat six).sectionOf 2 ≠ 0
    ∧ ((seat six).tableList 2).length < 4 ∧ (seat six).works 1 ((seat six).sectionOf 2) = true
    ∧ changesOwner six 255 = false := by decide +kernel

theorem witness_checkRequestsComplete_transferOwner :
    Judged (seat six) (hdr 2) .change ∧ Named (seat six) 1 0 six ∧ (seat six).mayChange 2 six = true ∧ Ready six (hdr 2)
    ∧ six.closeRunning = false ∧ movesTable six 0 = false ∧ changesOwner six 2 = true ∧ (seat six).mayOwn 2 = true
    ∧ (seat six).isServer 2 = false := by decide +kernel

theorem witness_closingRequestsComplete_void :
    Judged (seat six) (hdr 2) .change ∧ Named (seat six) 1 0 six ∧ (seat six).mayChange 2 six = true ∧ Ready six (hdr 2)
    ∧ (seat six).isServer 2 = false ∧ ((seat six).hear 2).anyPending six = false ∧ six.orderable = true := by
  decide +kernel

/-- A check with no lines. -/
def empty : Check := newCheck 1 1 3 1 0 0

theorem witness_closingRequestsComplete_closeEmpty :
    Judged (seat empty) (hdr 1) .change ∧ Named (seat empty) 1 0 empty ∧ (seat empty).mayChange 1 empty = true
    ∧ Ready empty (hdr 1) ∧ ((seat empty).hear 1).anyPending empty = false ∧ empty.mayClose = true
    ∧ ((seat empty).hear 1).toCapture empty = [] := by decide +kernel

/-- The check of the worked case paid by its tender. -/
def paidSix : Check := owing six .paid

/-- The floor with that check and its tender AUTHORIZED. -/
def paidTable : State := table1 paidSix (cardTender .authorized)

theorem witness_closingRequestsComplete_closePaid :
    Judged paidTable (hdr 1) .change ∧ Named paidTable 1 0 paidSix ∧ paidTable.mayChange 1 paidSix = true
    ∧ Ready paidSix (hdr 1) ∧ (paidTable.hear 1).anyPending paidSix = false ∧ paidSix.mayClose = true
    ∧ (paidTable.hear 1).toCapture paidSix ≠ [] := by decide +kernel

/-! ## Witnesses: lines, parked changes and plans -/

theorem witness_lineRequestsComplete_add :
    Judged (seat six) (hdr 1) .change ∧ Named (seat six) 1 0 six ∧ (seat six).mayChange 1 six = true
    ∧ 1 ≤ (List.replicate 8 entry).length ∧ (List.replicate 8 entry).length ≤ 8
    ∧ firstBadEntry 1 (List.replicate 8 entry) = none
    ∧ recompute (seat six).sst.work (six.withLines (List.replicate 8 entry) 1)
        = .ok (figured (six.withLines (List.replicate 8 entry) 1))
    ∧ Ready six (hdr 1) ∧ six.orderable = true ∧ six.nextLine + (List.replicate 8 entry).length ≤ 121
    ∧ (List.replicate 8 entry).length ≤ (seat six).freeLines := by decide +kernel

theorem witness_lineRequestsComplete_void :
    Judged (seat six) (hdr 1) .change ∧ Named (seat six) 1 0 six ∧ (seat six).mayChange 1 six = true
    ∧ six.line? 6 = some (lineOf 6 3 1 1200 2) ∧ (lineOf 6 3 1 1200 2).void = false
    ∧ recompute (seat six).sst.work (six.withVoid 6) = .ok (figured (six.withVoid 6))
    ∧ Ready six (hdr 1) ∧ six.orderable = true ∧ six.state ≠ .presented := by decide +kernel

theorem witness_lineRequestsComplete_discount :
    Judged (seat six) (hdr 2) .change ∧ Named (seat six) 1 0 six ∧ (seat six).mayChange 2 six = true
    ∧ six.line? 6 = some (lineOf 6 3 1 1200 2) ∧ (lineOf 6 3 1 1200 2).void = false ∧ 99999999 ≤ 99999999
    ∧ recompute (seat six).sst.work (six.withDiscount 6 (min 99999999 (lineOf 6 3 1 1200 2).gross))
        = .ok (figured (six.withDiscount 6 (min 99999999 (lineOf 6 3 1 1200 2).gross)))
    ∧ Ready six (hdr 2) ∧ six.orderable = true ∧ (seat six).isServer 2 = false := by decide +kernel

/-- A SERVER's discount at its threshold: setting 14 of the floor is 20,000, 240 of 1,200. -/
theorem witness_lineRequestsComplete_serverDiscount :
    (seat six).isServer 1 = true ∧ Ready six (hdr 1)
    ∧ min 240 (lineOf 6 3 1 1200 2).gross ≤ (lineOf 6 3 1 1200 2).gross * (seat six).setting 14 / 100000
    ∧ recompute (seat six).sst.work (six.withDiscount 6 (min 240 (lineOf 6 3 1 1200 2).gross))
        = .ok (figured (six.withDiscount 6 (min 240 (lineOf 6 3 1 1200 2).gross))) := by decide +kernel

theorem witness_parkedChangesComplete_void :
    Judged (seat six) (hdr 1) .change ∧ Named (seat six) 1 0 six ∧ (seat six).mayChange 1 six = true ∧ Ready six (hdr 1)
    ∧ (seat six).isServer 1 = true ∧ (seat six).apu.table.length < 16 ∧ (seat six).approvalOf 0 = none
    ∧ six.orderable = true ∧ ((seat six).hear 1).anyPending six = false := by decide +kernel

theorem witness_parkedChangesComplete_transfer :
    Judged (seat six) (hdr 1) .change ∧ Named (seat six) 1 0 six ∧ (seat six).mayChange 1 six = true ∧ Ready six (hdr 1)
    ∧ (seat six).isServer 1 = true ∧ (seat six).apu.table.length < 16 ∧ (seat six).approvalOf 0 = none
    ∧ changesOwner six 2 = true ∧ (seat six).mayOwn 2 = true ∧ six.closeRunning = false ∧ movesTable six 3 = true
    ∧ 3 ≤ 400 ∧ (seat six).sectionOf 3 ≠ 0 ∧ ((seat six).tableList 3).length < 4
    ∧ (seat six).works 1 ((seat six).sectionOf 3) = true := by decide +kernel

/-- The check of the worked case, PRESENTED. -/
def shown : Check := { six with state := .presented }

theorem witness_parkedChangesComplete_voidLine :
    Judged (seat shown) (hdr 1) .change ∧ Named (seat shown) 1 0 shown ∧ (seat shown).mayChange 1 shown = true
    ∧ Ready shown (hdr 1) ∧ (seat shown).isServer 1 = true ∧ (seat shown).apu.table.length < 16
    ∧ (seat shown).approvalOf 0 = none ∧ shown.line? 6 = some (lineOf 6 3 1 1200 2)
    ∧ (lineOf 6 3 1 1200 2).void = false ∧ shown.state = .presented
    ∧ recompute (seat shown).sst.work (shown.withVoid 6) = .ok (figured (shown.withVoid 6)) := by decide +kernel

/-- A SERVER's discount one cent above its threshold. -/
theorem witness_parkedChangesComplete_discount :
    Judged (seat six) (hdr 1) .change ∧ Named (seat six) 1 0 six ∧ (seat six).mayChange 1 six = true ∧ Ready six (hdr 1)
    ∧ (seat six).isServer 1 = true ∧ (seat six).apu.table.length < 16 ∧ (seat six).approvalOf 0 = none
    ∧ six.line? 6 = some (lineOf 6 3 1 1200 2) ∧ (lineOf 6 3 1 1200 2).void = false ∧ six.orderable = true
    ∧ 241 ≤ 99999999
    ∧ (lineOf 6 3 1 1200 2).gross * (seat six).setting 14 / 100000 < min 241 (lineOf 6 3 1 1200 2).gross
    ∧ recompute (seat six).sst.work (six.withDiscount 6 (min 241 (lineOf 6 3 1 1200 2).gross))
        = .ok (figured (six.withDiscount 6 (min 241 (lineOf 6 3 1 1200 2).gross))) := by decide +kernel

theorem witness_splitRequestsComplete_set :
    Judged (seat six) (hdr 1) .change ∧ Named (seat six) 1 0 six ∧ (seat six).mayChange 1 six = true
    ∧ PlanKind.ofNat? 2 = some .bySeat ∧ badSplitCount .bySeat 0 = false
    ∧ badSeatCount (seatsPresent six.lines).length = false ∧ badSplitCount .even 20 = false
    ∧ badSplitCount .custom 8 = false ∧ Ready six (hdr 1) ∧ six.orderable = true := by decide +kernel

/-- The check of the worked case under CUSTOM 3. -/
def custom : Check := checkWith .custom 3

theorem witness_splitRequestsComplete_portion :
    Judged (seat custom) (hdr 1) .change ∧ Named (seat custom) 1 0 custom ∧ (seat custom).mayChange 1 custom = true
    ∧ custom.plan.kind = .custom ∧ 1 ≤ 3 ∧ 3 ≤ custom.plan.count ∧ 3 ≤ 20 ∧ 12451 ≤ custom.totals.total
    ∧ Ready custom (hdr 1) ∧ custom.orderable = true := by decide +kernel

/-- The same with amounts that sum to the total. -/
def customReady : Check := { custom with plan := (custom.plan.enter 1 12000).enter 3 451 }

theorem witness_splitRequestsComplete_lock :
    Judged (seat customReady) (hdr 1) .change ∧ Named (seat customReady) 1 0 customReady
    ∧ (seat customReady).mayChange 1 customReady = true ∧ customReady.plan.kind = .custom
    ∧ Ready customReady (hdr 1) ∧ customReady.orderable = true
    ∧ customReady.plan.shareSum = customReady.totals.total := by decide +kernel

theorem witness_splitRequestsComplete_lockFails :
    Judged (seat custom) (hdr 1) .change ∧ Named (seat custom) 1 0 custom ∧ (seat custom).mayChange 1 custom = true
    ∧ custom.plan.kind = .custom ∧ Ready custom (hdr 1) ∧ custom.orderable = true
    ∧ custom.plan.shareSum ≠ custom.totals.total := by decide +kernel

/-! ## Witnesses: tenders -/

/-- The single portion of the check of the worked case. -/
def wholePortion : Portion := { number := 1, share := 12451, seat := none, counted := 0, claim := none }

theorem witness_startTenderCompletes :
    Judged (seat six) (hdr 1) .change ∧ Named (seat six) 1 0 six ∧ (seat six).mayChange 1 six = true
    ∧ (List.replicate 32 (7 : Byte)).length = 32 ∧ 1 ≤ six.plan.count ∧ six.plan.portion? 1 = some wholePortion
    ∧ 12451 ≤ 99999999 ∧ wholePortion.claim = none ∧ Ready six (hdr 1) ∧ six.startBusy = false
    ∧ six.tenders.length < 16 ∧ (seat six).freeTenderIndex = some 0 := by decide +kernel

theorem witness_startTenderCompletes_check :
    (seat six).check? (cardTender .tipWait).slot = some six ∧ 319 < (seat six).tdu.pool.length
    ∧ six.closeRunning = false := by decide +kernel

theorem witness_startTenderCompletes_kinds :
    wholePortion.balance ≠ 0
    ∧ (if 0 = 0 then wholePortion.balance else 0) ≠ 0 ∧ 0 ≤ wholePortion.balance
    ∧ (if 12451 = 0 then wholePortion.balance else 12451) ≠ 0 ∧ 12451 ≤ wholePortion.balance := by decide +kernel

/-- The check of the worked case with its tender in TIP_WAIT, and its tender. -/
def settlingSix : Check := owing six .settling

/-- A tender in TIP_WAIT with its lease. -/
def waitingTender : Tender := { cardTender .tipWait with lease := .running 90 }

/-- An approved tender at the tolerance of 20,000. -/
def approvedTender : Tender := { cardTender .authorized with authTotal := some 12451, tolerance := some 20000 }

theorem witness_submitTipCompletes_waiting :
    (fun s : State => Judged s (hdr 1) .change ∧ Named s 1 0 settlingSix ∧ s.mayChange 1 settlingSix = true
      ∧ NamedTender (s.hear 1) settlingSix 1 0 { waitingTender with lease := .running 90 }
      ∧ 12451 ≤ waitingTender.amount * s.setting 12 / 100000 ∧ waitingTender.amount + 12451 ≤ 99999999
      ∧ Ready settlingSix (hdr 1) ∧ settlingSix.closeRunning = false ∧ waitingTender.state = .tipWait)
      (table1 settlingSix waitingTender) := by
  show _ ∧ _
  decide +kernel

/-- A tip given as a rate of 200,000 rounds to twice the amount, above the cap; one of 10,000 is 1,245 cents. -/
theorem witness_submitTipCompletes_rate :
    (200000 ≤ 200000 ∧ 10000 ≤ 200000) ∧ roundCent (paidTable.setting 9) (approvedTender.amount * 10000) = 1245
    ∧ 1245 ≤ approvedTender.amount * paidTable.setting 12 / 100000 := by decide +kernel

theorem witness_submitTipCompletes_authorized :
    (fun s : State => Judged s (hdr 1) .change ∧ Named s 1 0 paidSix ∧ s.mayChange 1 paidSix = true
      ∧ NamedTender (s.hear 1) paidSix 1 0 approvedTender ∧ Ready paidSix (hdr 1) ∧ paidSix.closeRunning = false
      ∧ approvedTender.state = .authorized
      ∧ approvedTender.amount + 2490 ≤ approvedTender.ceiling.getD 0 ∧ 2490 ≠ approvedTender.tip
      ∧ 0 = approvedTender.tip
      ∧ approvedTender.ceiling.getD 0 < approvedTender.amount + 2491
      ∧ 2491 ≤ approvedTender.amount * s.setting 12 / 100000 ∧ paidSix.claimedByOther 0 approvedTender = false)
      (table1 paidSix approvedTender) := by
  show _ ∧ _
  decide +kernel

/-- What a withdraw of the tender of a check asks for, but for the hold and the tender's state. -/
abbrev WithdrawTaken (s : State) (c : Check) (x : Tender) : Prop :=
  Judged s (hdr 1) .tender ∧ Named s 1 0 c ∧ NamedTender (s.hear 1) c 1 0 x ∧ s.mayTender 1 x = true
  ∧ c.isStale (hdr 1).ver = false ∧ x.hasStatus = false ∧ c.closeRunning = false

theorem witness_tenderRequestsComplete_deferred :
    (fun (c : Check) (x : Tender) => WithdrawTaken (table1 c x) c x ∧ c.held = true
      ∧ x.state ≠ .reversing ∧ x.state ≠ .capturing ∧ x.state.isDone = false
      ∧ (x.state.exchanging = true ∧ x.sent = true ∧ x.withdrawRequested = false))
      { settlingSix with holds := { manager := true, approval := false } }
      { cardTender (.authorizing .auth) with sent := true } := by
  show _ ∧ _
  decide +kernel

theorem witness_tenderRequestsComplete_tipWait :
    WithdrawTaken (table1 settlingSix waitingTender) settlingSix waitingTender
    ∧ settlingSix.held = false ∧ waitingTender.state = .tipWait := by decide +kernel

theorem witness_tenderRequestsComplete_authorized :
    WithdrawTaken (table1 paidSix approvedTender) paidSix approvedTender ∧ paidSix.held = false
    ∧ approvedTender.state = .authorized := by decide +kernel

theorem witness_tenderRequestsComplete_queued :
    WithdrawTaken (table1 settlingSix (cardTender (.authorizing .auth))) settlingSix (cardTender (.authorizing .auth))
    ∧ WithdrawTaken (table1 settlingSix (cardTender (.authorizing .increment))) settlingSix
        (cardTender (.authorizing .increment))
    ∧ (cardTender (.authorizing .auth)).sent = false := by decide +kernel

theorem witness_tenderRequestsComplete_sent :
    (fun x : Tender => WithdrawTaken (table1 settlingSix x) settlingSix x ∧ settlingSix.held = false
      ∧ x.state = .authorizing .increment ∧ x.sent = true ∧ x.withdrawRequested = false)
      { cardTender (.authorizing .increment) with sent := true } := by
  show _ ∧ _
  decide +kernel

theorem witness_tenderRequestsComplete_fetch :
    Judged paidTable (hdr 1) .tender ∧ Named paidTable 1 0 paidSix
    ∧ NamedTender (paidTable.hear 1) paidSix 1 0 (cardTender .authorized)
    ∧ paidTable.mayTender 1 (cardTender .authorized) = true := by decide +kernel

/-- A check in CLOSE_FAULT with its faulted tender. -/
def faultedSix : Check := { owing six .closeFault with closeFault := some 1 }

/-- That tender. -/
def faultedTender : Tender := { approvedTender with captureFault := true }

/-- CLOSE CHECK captures again from CLOSE_FAULT. -/
theorem witness_closingRequestsComplete_recapture :
    (fun s : State => Judged s (hdr 1) .change ∧ Named s 1 0 faultedSix ∧ s.mayChange 1 faultedSix = true
      ∧ Ready faultedSix (hdr 1) ∧ (s.hear 1).anyPending faultedSix = false ∧ faultedSix.mayClose = true
      ∧ (s.hear 1).toCapture faultedSix = [0]) (table1 faultedSix faultedTender) := by
  show _ ∧ _
  decide +kernel

theorem witness_tenderRequestsComplete_abandon :
    (fun s : State => Judged s (hdr 0) .floorServer ∧ Named s 1 0 faultedSix ∧ NamedTender s faultedSix 1 0 faultedTender
      ∧ faultedSix.isStale (hdr 0).ver = false ∧ faultedSix.state = .closeFault ∧ faultedTender.state = .authorized
      ∧ faultedTender.captureFault = true) (table1 faultedSix faultedTender) := by
  show _ ∧ _
  decide +kernel

/-! ## Witnesses: holds, approvals, watches and notices -/

theorem witness_holdAndApproval_hold :
    Judged (seat six) (hdr 2) .manager ∧ Named (seat six) 1 0 six ∧ six.isStale (hdr 2).ver = false
    ∧ six.state ≠ .closing ∧ six.holds.manager = false := by decide +kernel

theorem witness_holdAndApproval_release :
    Judged (seat heldSix) (hdr 2) .manager ∧ Named (seat heldSix) 1 0 heldSix ∧ heldSix.isStale (hdr 2).ver = false
    ∧ heldSix.state ≠ .closing ∧ heldSix.holds.manager = true := by decide +kernel

/-- An approval record of the check in slot 0, parked by terminal 1. -/
def parkedBy1 (change : Parked) : Approval := { number := 255, slot := 0, requester := some 1, change, deadline := 300 }

/-- A check that awaits approval. -/
def awaiting (c : Check) : Check := { c with holds := { manager := false, approval := true } }

/-- The floor with a check whose parked change waits. -/
def parkedTable (c : Check) (change : Parked) : State :=
  { seat (awaiting c) with apu := { table := [parkedBy1 change], counter := 1 } }

/-- What APPROVE and REJECT ask for. -/
abbrev DecisionTaken (s : State) (c : Check) (a : Approval) (term n : Nat) : Prop :=
  Judged s (hdr term) .manager ∧ Named s 1 0 c ∧ s.approvalOf 0 = some a ∧ (n = 0 ∨ n = a.number)
  ∧ ((hdr term).term = 0 ∨ a.requester ≠ some (hdr term).term) ∧ c.holds.manager = false

/-- A check with a parked change, held by a manager as well. -/
theorem witness_approveHeld :
    (fun (c : Check) (s : State) => Judged s (hdr 2) .manager ∧ Named s 1 0 c
        ∧ s.approvalOf 0 = some (parkedBy1 .voidCheck) ∧ (parkedBy1 .voidCheck).requester ≠ some (hdr 2).term
        ∧ c.holds.manager = true)
      { six with holds := { manager := true, approval := true } }
      { seat { six with holds := { manager := true, approval := true } } with
        apu := { table := [parkedBy1 .voidCheck], counter := 1 } } := by
  show _ ∧ _
  decide +kernel

theorem witness_holdAndApproval_refused :
    DecisionTaken (parkedTable settlingSix .voidCheck) (awaiting settlingSix) (parkedBy1 .voidCheck) 2 255
    ∧ DecisionTaken (parkedTable settlingSix .voidCheck) (awaiting settlingSix) (parkedBy1 .voidCheck) 0 0 := by
  decide +kernel

theorem witness_holdAndApproval_refused_outcome :
    (((parkedTable settlingSix .voidCheck).hear 2).dropApproval (parkedBy1 .voidCheck)).evaluate 0
      (awaiting settlingSix) .voidCheck = .refused .busy := rfl

theorem witness_holdAndApproval_applied :
    DecisionTaken (parkedTable six (.transferCheck 2 2)) (awaiting six) (parkedBy1 (.transferCheck 2 2)) 2 0
    ∧ ∃ u, (((parkedTable six (.transferCheck 2 2)).hear 2).dropApproval (parkedBy1 (.transferCheck 2 2))).evaluate 0
        (awaiting six) (.transferCheck 2 2) = .applied u :=
  ⟨by decide +kernel, _, rfl⟩

theorem witness_holdAndApproval_retired :
    DecisionTaken (parkedTable six .voidCheck) (awaiting six) (parkedBy1 .voidCheck) 2 255
    ∧ ∃ u, (((parkedTable six .voidCheck).hear 2).dropApproval (parkedBy1 .voidCheck)).evaluate 0
        (awaiting six) .voidCheck = .retired u :=
  ⟨by decide +kernel, _, rfl⟩

/-- The paid floor with a status on its tender. -/
def statusTable : State := table1 settlingSix { cardTender .reversing with primary := some .timeout, sent := true }

/-- The line of the check of the worked case under BY_SEAT on one seat: its void would leave no seat. -/
def oneSeat : Check := { checkWith .bySeat 1 with lines := [lineOf 2 1 1 2395 1] }

/-- A line change is judged on a line ACTIVE or VOID, and where its recomputation finds figures or not. -/
theorem witness_holdAndApproval_judgesLine :
    six.line? 6 = some (lineOf 6 3 1 1200 2)
    ∧ recompute floorSettings (six.withVoid 6) = .ok (figured (six.withVoid 6))
    ∧ recompute floorSettings (six.withDiscount 6 (min 99999999 (lineOf 6 3 1 1200 2).gross))
        = .ok (figured (six.withDiscount 6 (min 99999999 (lineOf 6 3 1 1200 2).gross)))
    ∧ ((six.withVoid 6).line? 6).map Line.void = some true
    ∧ recompute floorSettings ((six.withVoid 6).withVoid 6) = .ok (figured (six.withVoid 6))
    ∧ oneSeat.line? 2 = some (lineOf 2 1 1 2395 1)
    ∧ recompute floorSettings (oneSeat.withVoid 2) = .badSeats 0 := by decide +kernel

/-- Each case of the second judgement of a void and of a transfer. -/
theorem witness_holdAndApproval_judgesCheck :
    (statusTable.anyPending settlingSix = true ∧ (seat six).anyPending settlingSix = false
      ∧ settlingSix.orderable = false ∧ six.orderable = true)
    ∧ (changesOwner six 48 = true ∧ floor.mayOwn 48 = false) ∧ (movesTable six 1 = false ∧ changesOwner six 1 = false)
    ∧ (owing six .closing).closeRunning = true ∧ (movesTable six 4 = true ∧ floor.sectionOf 4 = 0)
    ∧ (fun s : State => movesTable six 2 = true ∧ s.sectionOf 2 ≠ 0 ∧ 4 ≤ (s.tableList 2).length)
        { floor with fmp := { floor.fmp with lists := [[0], [1, 2, 3, 4]] } } := by
  refine ⟨?_, ?_, ?_, ?_, ?_, ?_⟩
  all_goals decide +kernel

/-- The floor with the check, watched by terminal 1 for every kind. -/
def watched : State := { seat six with wnu := { floor.wnu with watches := [{ terminal := 1, check := 1, mask := 255 }] } }

theorem witness_watchAndNotice_replace :
    Judged watched (hdr 1) .watch ∧ Named watched 1 0 six ∧ watched.mayRead 1 six = true
    ∧ BitVec.ofNat 8 128 ≠ 0 ∧ watched.watchesCheck 1 1 = true := by decide +kernel

/-- Seven hits of checks that terminal 1 does not watch leave it one watch more. -/
theorem witness_watchAndNotice_new :
    (fun s : State => Judged s (hdr 1) .watch ∧ Named s 1 0 six ∧ s.mayRead 1 six = true ∧ BitVec.ofNat 8 1 ≠ 0
      ∧ s.watchesCheck 1 1 = false ∧ s.wnu.watches.length < 96
      ∧ (s.watchesOf 1).length + 1 + ((s.hitSet 1).countP fun x => x.check != 1 && !s.watchesCheck 1 x.check) = 8)
      ((seat six).setHits 1 ((List.range' 2 7).map fun n => { check := n, kinds := 1 })) := by
  show _ ∧ _
  decide +kernel

theorem witness_watchAndNotice_terminal :
    Judged watched (hdr 1) .watch ∧ watched.watchesCheck 1 1 = true := by decide +kernel

theorem witness_watchAndNotice_floor :
    Judged statusTable (hdr 0) .floorServer ∧ statusTable.eligible = 0 :: [] ∧ floor.eligible = []
    ∧ Judged floor (hdr 0) .floorServer := by decide +kernel

/-! ## Witnesses: floor map, settings, frames -/

theorem witness_floorMapRequestsComplete_table :
    Judged floor (hdr 0) .floorServer ∧ 1 ≤ 1 ∧ 1 ≤ 400 ∧ 400 ≤ 400 ∧ 8 ≤ 8 ∧ floor.sst.save ≠ .saving
    ∧ floor.sst.work.sections.length = 400 := by decide +kernel

/-- Section 0 is taken where no check is seated. -/
theorem witness_floorMapRequestsComplete_noSection :
    ∀ table, 2 ≤ table → table ≤ 400 → (seat six).tableList table = [] := by
  have h : ((List.range' 2 399).all fun table => (seat six).tableList table == []) = true := by decide +kernel
  intro table h2 h400
  have := List.all_eq_true.mp h table (List.mem_range'_1.mpr ⟨h2, by omega⟩)
  simpa using this

theorem witness_floorMapRequestsComplete_terminal :
    Judged floor (hdr 0) .floorServer ∧ 1 ≤ 1 ∧ 48 ≤ 48 ∧ Role.ofNat? 0 = some .off ∧ Role.ofNat? 1 = some .server
    ∧ Role.ofNat? 2 = some .manager ∧ floor.sst.save ≠ .saving := by decide +kernel

theorem witness_settingsRequestsComplete_set :
    Judged (seat six) (hdr 0) .floorServer ∧ (1 ≤ 12 ∧ 23 ≤ 23 ∧ ¬ 12 ≤ 11) ∧ (seat six).sst.save ≠ .saving
    ∧ Judged floor (hdr 0) .floorServer ∧ (1 ≤ 1 ∧ 11 ≤ 11) ∧ floor.liveChecks = [] := by decide +kernel

theorem witness_settingsRequestsComplete_load :
    Judged floor (hdr 0) .floorServer
    ∧ floor.sst.factory = some { contents := RawCopy.defaults, crc := factoryCrc }
    ∧ floor.sst.save ≠ .saving ∧ floor.liveChecks = [] := by decide +kernel

theorem witness_settingsRequestsComplete_clock :
    Judged floor (hdr 0) .floorServer ∧ 1439 < 1440 ∧ 1439 ≤ 1439 ∧ floor.takes (hdr 1) = .taken ∧ (hdr 1).term ≠ 0 := by
  decide +kernel

theorem witness_badFramesCounted_malformed :
    floor.takes (hdr 1) = .taken ∧ bodyLengths 0xFF = [] ∧ bodyLengths 0x20 ≠ [] ∧ 75 ∉ bodyLengths 0x20
    ∧ floor.takes { hdr 1 with term := 49 } = .badRequester ∧ floor.takes { hdr 0 with port := .flp } = .badRequester := by
  decide +kernel

theorem witness_badFramesCounted_counts :
    floor.running = true ∧ floor.receives .flp = true ∧ floor.receives .fhp = true ∧ floor.portReceives .aqp = true
    ∧ floor.flp.assembler = .idle ∧ floor.gwp.assembler = .idle ∧ (4 < 5 ∨ 245 < 4) ∧ (246 < 3 ∨ 245 < 246)
    ∧ floor.assembler .flp ≠ .skip ∧ 0 < 1 ∧ 0xC7 ≠ 0xC8 := by decide +kernel

/-- 21 frames wait: 11 places are free. -/
theorem witness_badFramesCounted_requests :
    requestOf (.hello (hdr 1)) = some (hdr 1, 0x01, .presence)
    ∧ requestOf (.hello { hdr 1 with term := 49 }) = some ({ hdr 1 with term := 49 }, 0x01, .presence)
    ∧ floor.takes { hdr 1 with term := 49 } = .badRequester ∧ floor.takes { hdr 1 with tag := 0 } = .tagZero
    ∧ ({ floor with flp := { floor.flp with out := List.replicate 21 (.push 1 0xA0 []) } } : State).takes (hdr 1) = .overrun
    ∧ ({ floor with flp := { floor.flp with out := List.replicate 20 (.push 1 0xA0 []) } } : State).takes (hdr 1) = .taken
    ∧ ({ floor with flp := { floor.flp with assembler := .skip } } : State).takes (hdr 1) = .lost := by decide +kernel

theorem witness_badFramesCounted_overrun :
    (fun s : State => s.running = true ∧ s.receives .flp = true ∧ 32 < (s.outList .flp).length + 12)
      { floor with flp := { floor.flp with out := List.replicate 21 (.push 1 0xA0 []) } } := by
  show _ ∧ _
  decide +kernel

theorem witness_badFramesCounted_skip :
    (fun s : State => s.running = true ∧ s.assembler .aqp = .skip)
      { floor with gwp := { floor.gwp with assembler := .skip } } := by
  show _ ∧ _
  decide +kernel

theorem witness_transactionRunsRequest :
    (Instr.readTable (hdr 0) 1).wf = true
    ∧ requestParts (.readTable (hdr 0) 1) = some (hdr 0, 0x73, [0, 1]) ∧ (hdr 0).port = .fhp
    ∧ encodeRequest (.readTable (hdr 0) 1) = some [0, 1, 0x73, 0xFF, 0xFF, 0, 1]
    ∧ floor.running = true ∧ floor.fhp.ignore = false ∧ ∃ t, exec (.readTable (hdr 0) 1) floor = .next t :=
  ⟨by decide +kernel, by decide +kernel, by decide +kernel, by decide +kernel, by decide +kernel, by decide +kernel, _,
    rfl⟩

/-- A frame of 2 + 5 + 1 + 2 bytes waits at each port. -/
theorem witness_outputFramesLeave :
    (fun (s : State) (f : Frame) => s.running = true ∧ s.fhp.ignore = false ∧ s.fhp.out = f :: [] ∧ s.flp.out = f :: []
      ∧ s.gwp.out = f :: [] ∧ f.wire.length ≤ 10 ∧ 2 ≤ 10 ∧ 2 ≤ 9 ∧ 9 < f.wire.length)
      { floor with
        flp := { floor.flp with out := [.answer 1 1 1 .taken 128 [5]] }
        fhp := { floor.fhp with out := [.answer 1 1 1 .taken 128 [5]] }
        gwp := { floor.gwp with out := [.answer 1 1 1 .taken 128 [5]] } } (.answer 1 1 1 .taken 128 [5]) := by
  show _ ∧ _
  decide +kernel

/-! ## Witnesses: acquirer, timers, power -/

/-- A check whose tender waits for a grant of its AUTH. -/
def queuedTable : State :=
  (fun s : State => { s with aqp := { s.aqp with queue := [{ tender := 0, kind := .auth }] } })
    (table1 settlingSix { cardTender (.authorizing .auth) with authAmount := some 12451 })

theorem witness_grantAndLinkEventsComplete_grant :
    queuedTable.running = true ∧ queuedTable.aqp.link = .up ∧ queuedTable.freeEntry = some 0
    ∧ queuedTable.aqp.queue = { tender := 0, kind := .auth } :: []
    ∧ queuedTable.tender? 0 = some { cardTender (.authorizing .auth) with authAmount := some 12451 } := by decide +kernel

/-- That AUTH queued while 8 messages wait to be sent. -/
def crowdedTable : State :=
  { queuedTable with gwp := { queuedTable.gwp with
      out := .message 1 0xC1 [5] :: List.replicate 7 (.message 2 0xC0 []) } }

theorem witness_grantAndLinkEventsComplete_crowded :
    crowdedTable.running = true ∧ crowdedTable.aqp.link = .up ∧ crowdedTable.freeEntry = some 0
    ∧ crowdedTable.aqp.queue = { tender := 0, kind := .auth } :: [] ∧ crowdedTable.gwp.out.length = 8
    ∧ crowdedTable.tender? 0 = some { cardTender (.authorizing .auth) with authAmount := some 12451 } := by decide +kernel

/-- The exchange of that AUTH, at tag 255. -/
def authExchange : Exchange := { tag := 255, tender := 0, kind := .auth, amount := 12451, deadline := 30 }

/-- A check whose AUTH has been sent, at the second of its deadline. -/
def sentTable : State :=
  (fun s : State => { s with
      aqp := { s.aqp with entries := some authExchange :: List.replicate 7 none }
      fck := { s.fck with timebase := 30 }
      due := { s.due with exchanges := [255] } })
    (table1 settlingSix { cardTender (.authorizing .auth) with authAmount := some 12451, sent := true })

/-- An APPROVED result body of an AUTH. -/
def approvedBody : List Byte := [0xC0, 0] ++ List.replicate 12 1 ++ List.replicate 6 2

theorem witness_resultsAndTimeouts_match :
    sentTable.running = true ∧ sentTable.gwp.assembler = .idle ∧ approvedBody.length = 20
    ∧ sentTable.entryIndex 255 = some 0 ∧ sentTable.exchange? 0 = some authExchange
    ∧ (approvedBody.getD 0 0).toNat = authExchange.kind.toNat := by decide +kernel

/-- A short body, a tag not in use, a kind that does not match. -/
theorem witness_resultsAndTimeouts_discarded :
    ([] : List Byte).length ≠ 20 ∧ sentTable.entryIndex 1 = none ∧ (0xC1 : Byte).toNat ≠ authExchange.kind.toNat := by
  decide +kernel

theorem witness_resultsAndTimeouts_timeout :
    sentTable.running = true ∧ 255 ∈ sentTable.due.exchanges ∧ sentTable.entryIndex 255 = some 0
    ∧ sentTable.exchange? 0 = some authExchange ∧ authExchange.deadline ≤ sentTable.fck.timebase
    ∧ sentTable.aqp.timeouts + 1 < sentTable.setting 18 ∧ sentTable.setting 18 ≤ 2 + 1 := by decide +kernel

theorem witness_grantAndLinkEventsComplete_link :
    (fun s : State => s.running = true ∧ s.aqp.link ≠ .up
      ∧ s.aqp.queue = [{ tender := 1, kind := .reverse }] ++ { tender := 0, kind := .auth } :: []
      ∧ (∀ m ∈ [({ tender := 1, kind := .reverse } : Need)], m.kind = .reverse ∨ m.kind = .capture)
      ∧ (s.aqp.queue.map Need.tender).Nodup)
      { queuedTable with aqp := { queuedTable.aqp with
        link := .failed, queue := [{ tender := 1, kind := .reverse }, { tender := 0, kind := .auth }] } } := by
  show _ ∧ _
  decide +kernel

/-- A state at a second of the timebase, with tests found due. -/
def later (s : State) (timebase : Nat) (due : Due) : State := { s with fck := { s.fck with timebase }, due }

/-- No test due. -/
def nothingDue : Due := { exchanges := [], leases := [], approvals := [], silences := [], ages := [] }

theorem witness_timerEventsComplete_lease :
    (fun s : State => s.running = true ∧ Named s 1 0 settlingSix ∧ NamedTender s settlingSix 1 0 waitingTender
      ∧ 0 ∈ s.due.leases ∧ waitingTender.lease = .running 90 ∧ 90 ≤ s.fck.timebase)
      (later (table1 settlingSix waitingTender) 90 { nothingDue with leases := [0] }) := by
  show _ ∧ _
  decide +kernel

theorem witness_timerEventsComplete_approval :
    (fun s : State => s.running = true ∧ s.approvalNumbered 255 = some (parkedBy1 .voidCheck) ∧ 255 ∈ s.due.approvals
      ∧ (parkedBy1 .voidCheck).deadline ≤ s.fck.timebase)
      (later (parkedTable six .voidCheck) 300 { nothingDue with approvals := [255] }) := by
  show _ ∧ _
  decide +kernel

theorem witness_timerEventsComplete_silence :
    (fun s : State => s.running = true ∧ 48 ∈ s.due.silences ∧ s.isPresent 48 = true)
      (later (floor.setPresent 48 true) 120 { nothingDue with silences := [48] }) := by
  show _ ∧ _
  decide +kernel

theorem witness_timerEventsComplete_age :
    (fun s : State => s.running = true ∧ Named s 1 0 six ∧ 1 ∈ s.due.ages ∧ six.aged = false)
      { later (seat six) 0 { nothingDue with ages := [1] } with fck := { floor.fck with minute := 180 } } := by
  show _ ∧ _
  decide +kernel

/-- The last second of the last day, at which both ticks pass the minute and the day. -/
theorem witness_timerEventsComplete_ticks :
    (fun s : State => s.running = true ∧ s.fck.second = 59 ∧ s.fck.second ≤ 59 ∧ s.fck.minute ≤ 1439
      ∧ s.fck.day ≤ 65535 ∧ floor.fck.second < 59 ∧ s.sst.save = .saving ∧ s.sst.saveCopy = some floorSettings)
      { floor.startSave with fck := { floor.fck with second := 59, minute := 1439, day := 65535 } } := by
  show _ ∧ _
  decide +kernel

/-- The floor with its power lost. -/
def dark (retention : Bool) : State := { paidTable with power := { resetLow := false, mainLow := true, retention } }

theorem witness_powerEventsComplete :
    (dark true).running = false ∧ (dark true).power.retention = true ∧ (dark true).fck.minute ≤ 1439
    ∧ (dark false).running = false ∧ (dark false).power.retention = false ∧ (dark true).power.mainLow = true := by
  decide +kernel

/-- A floor held in reset with main power present, at the last second of minute 178. -/
def heldInReset : State :=
  { seat six with
    power := { resetLow := true, mainLow := false, retention := true }
    fck := { floor.fck with minute := 178, second := 59 } }

theorem witness_powerEventsComplete_reset :
    heldInReset.running = false ∧ heldInReset.power.retention = true ∧ heldInReset.fck.second ≤ 59
    ∧ heldInReset.fck.minute ≤ 1439 ∧ heldInReset.power.mainLow = false ∧ 60 ≤ heldInReset.fck.second + 61
    ∧ heldInReset.fck.second + 0 < 60 ∧ (dark true).fck.second ≤ 59 := by decide +kernel

theorem witness_timerEventsComplete_reset :
    heldInReset.power.mainLow = false ∧ heldInReset.fck.second = 59 ∧ heldInReset.fck.day ≤ 65535
    ∧ (dark true).power.mainLow = true ∧ heldInReset.running = false
    ∧ Named { heldInReset with due := { nothingDue with ages := [1] } } 1 0 six ∧ six.aged = false := by decide +kernel

/-- A halted floor with a CLOSING check, with a check whose AUTH had been sent, and with one at rest. -/
theorem witness_warmStartRecovers :
    (dark true).running = false ∧ (dark true).power.retention = true
    ∧ (table1 (owing six .closing) (cardTender .capturing)).check? 0 = some (owing six .closing)
    ∧ (owing six .closing).state = .closing
    ∧ sentTable.check? 0 = some settlingSix ∧ settlingSix.state ≠ .closing
    ∧ (sentTable.tender? 0).map (fun x => (x.slot, x.state)) = some (0, .authorizing .auth)
    ∧ (dark true).check? 0 = some paidSix ∧ paidSix.state ≠ .closing
    ∧ ((dark true).tdu.pool.filterMap id).map Tender.state = [.authorized] := by decide +kernel

/-- Of halted floors, one with a lease that ran, one with a lease paused under a hold and an approval record, and one with a
sent AUTH whose tender has no status and a holder. -/
theorem witness_warmStartRecovers_kept :
    (fun halt : State → State =>
      (fun s : State => s.running = false ∧ s.power.retention = true ∧ s.tender? 0 = some waitingTender
        ∧ waitingTender.state = .tipWait ∧ (s.check? 0).map Check.held = some false)
        (halt (table1 settlingSix waitingTender))
      ∧ (fun s : State => s.running = false ∧ s.power.retention = true
        ∧ (s.tender? 0).map (fun x => (x.state, x.lease)) = some (.tipWait, .paused 60)
        ∧ (s.check? 0).map Check.held = some true ∧ s.apu.table = [parkedBy1 .voidCheck])
        (halt { table1 (awaiting settlingSix) { waitingTender with lease := .paused 60 } with
          apu := { table := [parkedBy1 .voidCheck], counter := 1 } })
      ∧ (fun s : State => s.running = false ∧ s.power.retention = true ∧ s.wnu.pendCounts.length = 48
        ∧ terminalExists 1 = true
        ∧ (s.tender? 0).map (fun x => (x.restarts, x.hasStatus, x.holder)) = some (true, false, some 1))
        (halt sentTable))
      (fun s => { s with power := { resetLow := true, mainLow := false, retention := true } }) := by
  show _ ∧ _
  decide +kernel

/-! ## Witnesses: the arithmetic and the layouts -/

theorem witness_apportionmentIsExact :
    0 < 3 ∧ (([1450, 1450, 1450] : List Nat).map (· / 3)).sum ≤ 1450
    ∧ 1450 ≤ (([1450, 1450, 1450] : List Nat).map (· / 3)).sum + ([1450, 1450, 1450] : List Nat).length
    ∧ (0 < 3 ∧ 1 < 3) ∧ (1450 % 3 = 1450 % 3 ∧ 0 < 1) ∧ (apportion 1450 3 [1450, 1450, 1450]).getD 0 0 = 1450 / 3 + 1 := by
  decide +kernel

theorem witness_evenSharesRule : 1 ≤ 20 ∧ (13 < 20 ∧ 13 ≤ 13 ∧ 13 < 20) ∧ 2 ≤ 20 ∧ (0 : Nat) < 1 := by decide

/-- A base and rates above 0, of 0, and covers on either side of a threshold of 6. -/
theorem witness_taxAndServiceRules :
    classBase sixLines 1 = 8635 ∧ classBase sixLines 8 = 0 ∧ floorSettings.value 1 = 7250 ∧ floorSettings.value 8 = 0
    ∧ (fun w : Settings => w.value 11 = 6 ∧ w.value 11 ≤ 6 ∧ 5 < w.value 11) (floorSettings.write 11 6)
    ∧ floorSettings.value 11 = 0 ∧ floorSettings.value 10 = 0
    ∧ recompute floorSettings { six with covers := 30 } = .ok (figured { six with covers := 30 }) := by
  refine ⟨?_, ?_, ?_, ?_, ?_, ?_, ?_, ?_⟩
  all_goals decide +kernel

/-- A running and a halted part; the sources that a status, an approval record and a start make pending. -/
theorem witness_noticeOutputFollowsSources :
    floor.running = true ∧ (dark true).running = false ∧ (1 ≤ 1 ∧ 8 ≤ 8)
    ∧ statusTable.sourcePending 1 = true ∧ statusTable.sourcePending 8 = false
    ∧ (parkedTable six .voidCheck).sourcePending 9 = true ∧ floor.sourcePending 13 = true ∧ floor.noteLow = true := by
  decide +kernel

theorem witness_seatSharesAddUp :
    (∀ l ∈ sixLines, l.void = false → l.seat ≤ 30 ∧ l.cls ∈ taxClasses) ∧ seatsPresent sixLines ≠ [] := by decide +kernel

theorem witness_layoutSizes_summary : six.totals.taxes.length = 8 := by decide +kernel

theorem witness_layoutSizes_tender :
    (∀ code, ({ approvedTender with approvalCode := some [1, 2, 3, 4, 5, 6] } : Tender).approvalCode = some code →
      code.length = 6)
    ∧ (∀ ref, ({ approvedTender with acqRef := some (List.replicate 12 9) } : Tender).acqRef = some ref → ref.length = 12)
    ∧ (∀ token, approvedTender.token = some token → token.length = 32) := by
  refine ⟨?_, ?_, ?_⟩ <;> rintro _ ⟨⟩ <;> rfl

theorem witness_layoutSizes_status : floor.aqp.entries.length = 8 := by decide +kernel

/-! ## Witnesses: the shared operations -/

theorem witness_framesUpdatePresence :
    1 ≤ 1 ∧ 48 ≤ 48 ∧ paidTable.fmp.present.length = 48 ∧ paidTable.fmp.lastHeard.length = 48
    ∧ paidTable.isPresent 1 = false ∧ (paidTable.setPresent 1 true).isPresent 1 = true := by decide +kernel

/-- 31 frames wait and two pushes are due: one is dropped. -/
theorem witness_pushesLeaveLast :
    (fun s : State => s.flp.out.length ≤ 32 ∧ s.flp.pushDrops ≤ 65535 ∧ s.wnu.pushes ≠ [])
      { floor with
        flp := { floor.flp with out := List.replicate 31 (.push 1 0xA0 []), pushDrops := 65535 }
        wnu := { floor.wnu with pushes := [.hitsReady 1, .statusReady 2] } } := by
  show _ ∧ _
  decide +kernel

theorem witness_eventsReachWatches :
    1 ≤ 1 ∧ 1 ≤ 48 ∧ watched.wnu.hits.length = 48 ∧ watched.isPresent 1 = false ∧ watched.hitSet 1 = [] := by decide +kernel

/-- Terminal 1 awaits the events of check 1. -/
theorem witness_eventsReachWatches_awaits : Awaits watched 1 1 .retired :=
  ⟨_, List.mem_singleton.mpr rfl, by decide⟩

theorem witness_firstFreeNumber :
    1 ≤ 255 ∧ 255 ≤ 255 ∧ ([255, 1] : List Nat).length < 255 ∧ firstFree [255, 1] 255 3 255 = 2 := by decide +kernel

theorem witness_retirementEffects :
    paidTable.check? 0 = some paidSix ∧ paidSix.tenders.Nodup ∧ terminalExists 1 = true ∧ terminalExists 48 = true := by
  decide +kernel

theorem witness_tenderEventCarriesTrain :
    paidTable.tender? 0 = some (cardTender .authorized) ∧ paidTable.check? (cardTender .authorized).slot = some paidSix := by
  decide +kernel

theorem witness_exchangeEndsChangeTender :
    paidTable.tender? 0 = some (cardTender .authorized)
    ∧ (cardTender .authorized).attempts + 1 < paidTable.setting 17
    ∧ paidTable.setting 17 ≤ ({ cardTender .reversing with attempts := 2 } : Tender).attempts + 1 := by decide +kernel

/-- A CLOSING check with one tender in CAPTURING. -/
def closingTable : State := table1 (owing six .closing) (cardTender .capturing)

/-- A CLOSING check with two tenders in CAPTURING. -/
def twoCaptures : State :=
  (fun s : State => { s with tdu := { s.tdu with
      pool := some (cardTender .capturing) :: some { cardTender .capturing with number := 2 } :: List.replicate 318 none } })
    (seat { owing six .closing with tenders := [0, 1] })

theorem witness_exchangeEndsChangeTender_capture :
    twoCaptures.tender? 0 = some (cardTender .capturing)
    ∧ twoCaptures.check? (cardTender .capturing).slot = some { owing six .closing with tenders := [0, 1] }
    ∧ 1 ∈ [0, 1] ∧ 1 ≠ 0 ∧ twoCaptures.tender? 1 = some { cardTender .capturing with number := 2 }
    ∧ ({ cardTender .capturing with number := 2 } : Tender).state = .capturing := by decide +kernel

theorem witness_exchangeEndsChangeTender_last :
    closingTable.tender? 0 = some (cardTender .capturing)
    ∧ closingTable.check? (cardTender .capturing).slot = some (owing six .closing)
    ∧ (owing six .closing).state = .closing ∧ 0 ∈ (owing six .closing).tenders
    ∧ (∀ j ∈ (owing six .closing).tenders, j = 0) := by decide +kernel

/-- The last of two captures ends while the other tender of the check is faulted. -/
theorem witness_exchangeEndsChangeTender_lastFaulted :
    (fun (c : Check) (y : Tender) => (fun s : State => s.tender? 0 = some (cardTender .capturing) ∧ s.check? 0 = some c
        ∧ c.state = .closing ∧ 0 ∈ c.tenders ∧ c.tenders = [0, 1] ∧ s.tender? 1 = some y ∧ y.state ≠ .capturing
        ∧ y.faulted = true)
      { twoCaptures with tdu := { twoCaptures.tdu with pool := twoCaptures.tdu.pool.set 1 (some y) } })
      { owing six .closing with tenders := [0, 1] } { faultedTender with number := 2 } := by
  show _ ∧ _
  decide +kernel

theorem witness_releasedTerminalHoldsNothing :
    1 ≤ 1 ∧ 1 ≤ 48 ∧ paidTable.fmp.present.length = 48 ∧ paidTable.wnu.hits.length = 48
    ∧ paidTable.wnu.pendCounts.length = 48 := by decide +kernel

/-- Of two reasons one is removed; of one reason, that one, with no withdraw deferred. -/
theorem witness_holdsPauseLeases :
    (seat six).check? 0 = some six
    ∧ ((({ manager := true, approval := true } : Holds).put .manager false).any = true)
    ∧ (heldSix.holds.put .manager false).any = false := by decide +kernel

/-- A held check whose tender waits, with its lease paused and no withdraw deferred. -/
theorem witness_holdsPauseLeases_released :
    (fun (c : Check) (x : Tender) => (table1 c x).check? 0 = some c ∧ (c.holds.put .manager false).any = false
      ∧ c.tenders = [0] ∧ (table1 c x).tender? 0 = some x ∧ x.deferredWithdraw = false)
      { settlingSix with holds := { manager := true, approval := false } } { waitingTender with lease := .paused 60 } := by
  show _ ∧ _
  decide +kernel

/-- A check held by a manager, whose tender of each state has a deferred withdraw. -/
def deferredTable (x : Tender) : State :=
  table1 { settlingSix with holds := { manager := true, approval := false } } { x with deferredWithdraw := true }

theorem witness_holdsPauseLeases_deferred (x : Tender) (hs : x.slot = 0) (hn : x.number = 1) :
    TendersListed (deferredTable x) :=
  table1_listed _ _ (by decide +kernel) hs hn

theorem witness_holdsPauseLeases_deferredStates :
    [waitingTender, cardTender (.authorizing .auth), { cardTender (.authorizing .increment) with sent := true },
        cardTender (.authorizing .increment), approvedTender, cardTender .reversing].all fun x =>
      decide (x.slot = 0 ∧ x.number = 1
        ∧ ((deferredTable x).tender? 0).map Tender.deferredWithdraw = some true
        ∧ ((deferredTable x).check? 0).map (fun c => (c.holds.put .manager false).any) = some false) := by
  decide +kernel

theorem witness_framesKept :
    touches .settings (.closeCheck (hdr 1) 1) = false ∧ ∃ t, exec (.closeCheck (hdr 1) 1) paidTable = .next t :=
  ⟨by decide, _, rfl⟩

theorem witness_decodeOfEncode :
    (fun e : Instr => e.wf = true
      ∧ requestParts e = some (hdr 1, 0x20, [0, 1] ++ ((List.replicate 8 entry).map encodeEntry).flatten)
      ∧ (encodeRequest e).isSome = true) (.addLines (hdr 1) 1 (List.replicate 8 entry)) := by
  show _ ∧ _
  decide +kernel

/-! ## Witnesses: a state that meets every invariant, with a command that waits -/

/-- The check of that state: a tender in flight, a change that awaits approval. -/
def demoCheck : Check := awaiting settlingSix

/-- Its tender: an AUTH has timed out and its REVERSE has been sent. -/
def demoTender : Tender :=
  { cardTender .reversing with primary := some .timeout, sent := true, authAmount := some 12451, authTag := some 254 }

/-- The exchange of that REVERSE. -/
def demoExchange : Exchange := { tag := 255, tender := 0, kind := .reverse, amount := 12451, deadline := 30 }

/-- The state: its REVERSE has just been found due. -/
def demo : State :=
  { table1 demoCheck demoTender with
    aqp := { floor.aqp with entries := some demoExchange :: List.replicate 7 none }
    apu := { table := [parkedBy1 .voidCheck], counter := 1 }
    wnu := { floor.wnu with
      watches := [{ terminal := 1, check := 1, mask := 255 }]
      hits := [{ check := 1, kinds := 16 }] :: List.replicate 47 []
      pendCounts := 1 :: List.replicate 47 0 }
    fck := { floor.fck with timebase := 30 }
    due := { nothingDue with exchanges := [255] }
    pending := [.exchangeTimeout 255] }

theorem demo_check? (slot : Nat) : demo.check? slot = if slot = 0 then some demoCheck else none :=
  table1_check? demoCheck demoTender slot

theorem demo_tender? (i : Nat) : demo.tender? i = if i = 0 then some demoTender else none :=
  table1_tender? demoCheck demoTender i

theorem demo_steps : ∃ t, step demo = .next t := ⟨_, rfl⟩

theorem witness_rangesKept_commands : CommandsFit demo := by
  intro i h
  obtain rfl : i = .exchangeTimeout 255 := List.mem_singleton.mp h
  decide

theorem witness_rangesKept_settings : SettingsInRange demo := by
  refine ⟨⟨⟨by decide +kernel, ?_⟩, by decide +kernel, by decide +kernel, by decide +kernel⟩, ?_, ?_, ?_⟩
  · intro n h1 h2
    have h : ∀ m < 24, 1 ≤ m →
        (settingBounds m).1 ≤ floorSettings.value m ∧ floorSettings.value m ≤ (settingBounds m).2 := by decide +kernel
    exact h n (by omega) h1
  · rintro w ⟨⟩
  · rintro a ⟨⟩
  · rintro a ⟨⟩
    refine ⟨?_, ?_, ?_, ?_⟩ <;> decide +kernel

theorem witness_rangesKept_counters : CountersInRange demo := by
  refine ⟨?_, by decide +kernel, by decide +kernel, by decide +kernel, by decide +kernel, by decide +kernel⟩
  have h : demo.liveChecks = [demoCheck] := by decide +kernel
  rw [h]
  decide +kernel

theorem witness_rangesKept_outputs : OutputsBounded demo := by
  refine ⟨?_, ?_, ?_, rfl⟩ <;> decide +kernel

theorem witness_linesConservedByEveryStep : LinesConserved demo := by
  show _ = _
  decide +kernel

theorem demo_tableList (table : Nat) : demo.tableList table = if table = 1 then [0] else [] := by
  show get1 ([0] :: List.replicate 399 []) table [] = _
  match table with
  | 0 => rfl
  | 1 => rfl
  | n + 2 =>
    rw [get1, if_neg (by omega), if_neg (by omega), List.getD_eq_getElem?_getD]
    show ((List.replicate 399 ([] : List Nat))[n]?).getD [] = []
    rw [List.getElem?_replicate]
    split <;> rfl

theorem witness_checksStaySeated : ChecksSeated demo := by
  have hl : demo.liveChecks = [demoCheck] := by decide +kernel
  refine ⟨by decide +kernel, ?_, by decide +kernel, ?_, ?_⟩
  · rw [hl]
    decide +kernel
  · intro table
    rw [demo_tableList]
    refine ⟨by split <;> decide, by split <;> decide, fun slot => ?_⟩
    rw [demo_check?]
    constructor
    · intro h
      split at h
      · obtain rfl : slot = 0 := List.mem_singleton.mp h
        exact ⟨demoCheck, rfl, by rename_i ht; rw [ht]; decide +kernel⟩
      · simp at h
    · rintro ⟨c, hc, ht⟩
      split at hc
      · obtain rfl : demoCheck = c := Option.some.inj hc
        rename_i hs
        have : demoCheck.table = 1 := by decide +kernel
        rw [if_pos (by rw [← ht, this]), hs]
        exact List.mem_singleton.mpr rfl
      · simp at hc
  · intro a ha table owner h
    obtain rfl : a = parkedBy1 .voidCheck := List.mem_singleton.mp ha
    cases h

theorem witness_tendersStayListed : TendersListed demo :=
  table1_listed demoCheck demoTender (by decide +kernel) rfl rfl

theorem witness_statusesStayCounted : StatusesCounted demo := by
  have hp : demo.tdu.pendingList = [0] := by decide +kernel
  refine ⟨by decide +kernel, by rw [hp]; decide, ?_, ?_, ?_, ?_⟩
  · intro i
    rw [hp, demo_tender?]
    constructor
    · intro h
      obtain rfl : i = 0 := List.mem_singleton.mp h
      exact ⟨demoTender, rfl, by decide +kernel⟩
    · rintro ⟨t, ht, -⟩
      split at ht
      · rename_i h
        rw [h]
        exact List.mem_singleton.mpr rfl
      · simp at ht
  · intro i t hi hl
    rw [demo_tender?] at hi
    split at hi
    · obtain rfl : demoTender = t := Option.some.inj hi
      decide +kernel
    · simp at hi
  · intro i t n hi hn
    rw [demo_tender?] at hi
    split at hi
    · obtain rfl : demoTender = t := Option.some.inj hi
      have : demoTender.holder = some 1 := by decide +kernel
      obtain rfl : 1 = n := Option.some.inj (this.symm.trans hn)
      decide
    · simp at hi
  · intro n hn
    have h : ∀ m < 49, terminalExists m = true →
        demo.pendCount m = demo.tdu.pendingList.countP fun i => (demo.tender? i).any fun t => decide (t.holder = some m) := by
      decide +kernel
    have h48 : n ≤ 48 := by
      have := (Bool.and_eq_true_iff.mp hn).2
      exact of_decide_eq_true this
    exact h n (by omega) hn

theorem witness_exchangesStayTagged : ExchangesTagged demo := by
  have h : demo.aqp.entries.filterMap id = [demoExchange] := by decide +kernel
  refine ⟨by decide +kernel, by rw [h]; decide, by rw [h]; decide, by decide +kernel, by decide +kernel⟩

theorem witness_approvalsStayHeld : ApprovalsHeld demo := by
  refine ⟨by decide +kernel, by decide +kernel, by decide +kernel, fun slot => ?_⟩
  have h : demo.apu.table.map Approval.slot = [0] := by decide +kernel
  rw [h, demo_check?]
  constructor
  · intro h0
    obtain rfl : slot = 0 := List.mem_singleton.mp h0
    exact ⟨demoCheck, rfl, by decide +kernel⟩
  · rintro ⟨c, hc, -⟩
    split at hc
    · rename_i hs
      rw [hs]
      exact List.mem_singleton.mpr rfl
    · simp at hc

theorem witness_watchLimitKept : WatchesLimited demo := by
  refine ⟨by decide +kernel, by decide +kernel, fun t => ?_⟩
  by_cases ht : t < 49
  · have h : ∀ m < 49, ((demo.hitSet m).map Hit.check).Nodup
        ∧ (demo.watchesOf m).length + demo.unwatchedHits m ≤ Config.watchLimit := by decide +kernel
    exact h t ht
  · have h1 : demo.hitSet t = [] := by
      have hl : demo.wnu.hits.length = 48 := by decide +kernel
      have h0 : t ≠ 0 := by omega
      simp only [State.hitSet, get1, if_neg h0, List.getD_eq_getElem?_getD]
      rw [List.getElem?_eq_none (by omega)]
      rfl
    have h2 : (demo.watchesOf t).length ≤ 1 := List.length_filter_le _ _
    simp only [State.unwatchedHits, h1, List.map_nil, List.nodup_nil, List.countP_nil, true_and]
    exact h2.trans (by decide)

theorem witness_talliesHoldAlways : TalliesHold demo := by
  have hl : demo.liveChecks = [demoCheck] := by decide +kernel
  intro c hc
  rw [hl] at hc
  obtain rfl : c = demoCheck := List.mem_singleton.mp hc
  refine ⟨?_, ?_, ?_, ?_, ?_⟩ <;> decide +kernel

theorem demo_tendersOf : demo.tendersOf demoCheck = [demoTender] := by decide +kernel

theorem witness_tendersStayFitting : TendersFitChecks demo := by
  refine ⟨fun slot c hc => ?_, fun a ha => ?_⟩
  · rw [demo_check?] at hc
    split at hc
    · obtain rfl : demoCheck = c := Option.some.inj hc
      rw [demo_tendersOf]
      exact ⟨by decide +kernel, fun _ => by decide +kernel⟩
    · simp at hc
  · obtain rfl : a = parkedBy1 .voidCheck := List.mem_singleton.mp ha
    rintro ⟨line, h | ⟨d, h⟩⟩ <;> cases h

theorem witness_portionsStayCounted : PortionsCounted demo := by
  intro slot c hc
  rw [demo_check?] at hc
  split at hc
  · obtain rfl : demoCheck = c := Option.some.inj hc
    rw [demo_tendersOf]
    refine ⟨by decide +kernel, by decide +kernel, fun p hp => ⟨?_, ?_, fun i => ?_⟩⟩
    · exact (by decide +kernel : ∀ q ∈ demoCheck.plan.portions, q.counted = demo.countedSum demoCheck q.number) p hp
    · exact (by decide +kernel : ∀ q ∈ demoCheck.plan.portions, q.counted ≤ q.share) p hp
    · have hn : p.claim = none :=
        (by decide +kernel : ∀ q ∈ demoCheck.plan.portions, q.claim = none) p hp
      rw [hn]
      refine ⟨fun h => (Option.some_ne_none i h.symm).elim, fun ⟨_, x, hx, _, hs⟩ => ?_⟩
      rw [demo_tender?] at hx
      split at hx
      · obtain rfl : demoTender = x := Option.some.inj hx
        exact absurd hs (by decide +kernel)
      · simp at hx
  · simp at hc

theorem witness_needsStayMatched : NeedsMatched demo := by
  have hq : demo.aqp.queue = [] := by decide +kernel
  have he : demo.aqp.entries.filterMap id = [demoExchange] := by decide +kernel
  refine ⟨by decide +kernel, by rw [hq]; simp, ?_, fun i x hx _ => ?_⟩
  · intro e h
    rw [he] at h
    obtain rfl : e = demoExchange := List.mem_singleton.mp h
    exact ⟨demoTender, demo_tender? 0, by decide +kernel⟩
  · rw [demo_tender?] at hx
    split at hx
    · rename_i h0
      rw [h0]
      decide +kernel
    · simp at hx

theorem witness_ceilingsStayKept : CeilingsHold demo := by
  intro i x hx
  rw [demo_tender?] at hx
  split at hx
  · obtain rfl : demoTender = x := Option.some.inj hx
    have : demoTender.state = .reversing := by decide +kernel
    rw [this]
    simp
  · simp at hx

/-- An AUTHORIZED tender keeps its authorized total. -/
theorem witness_ceilingsStayKept_total : approvedTender.authTotal = some 12451 := by decide +kernel

/-- The state of the worked cases meets the hypothesis of the statement on statuses. -/
theorem witness_statusesSetAndCollected : StatusesCounted demo ∧ demo.tender? 0 = some demoTender :=
  ⟨witness_statusesStayCounted, by decide +kernel⟩

/-- A tender with no status, held by a PRESENT terminal whose pending count is 0. -/
def quiet : State := (table1 paidSix (cardTender .authorized)).setPresent 1 true

theorem quiet_tender {i : Nat} {t : Tender} (h : quiet.tender? i = some t) : t = cardTender .authorized := by
  rw [show quiet.tender? i = (table1 paidSix (cardTender .authorized)).tender? i from rfl, table1_tender?] at h
  split at h
  · exact (Option.some.inj h).symm
  · simp at h

theorem witness_statusesSetAndCollected_push :
    StatusesCounted quiet ∧ quiet.tender? 0 = some (cardTender .authorized)
    ∧ (cardTender .authorized).hasStatus = false ∧ (cardTender .authorized).holder = some 1
    ∧ quiet.pendCount 1 = 0 ∧ quiet.isPresent 1 = true := by
  refine ⟨⟨by decide +kernel, by decide +kernel, fun i => ?_, fun i t hi hl => ?_, fun i t n hi hn => ?_, fun n hn => ?_⟩,
    by decide +kernel⟩
  · refine ⟨fun h => absurd h (by rw [show quiet.tdu.pendingList = [] by decide +kernel]; simp), ?_⟩
    rintro ⟨t, ht, hst⟩
    obtain rfl := quiet_tender ht
    exact absurd hst (by decide +kernel)
  · obtain rfl := quiet_tender hi
    exact absurd hl (by decide +kernel)
  · obtain rfl := quiet_tender hi
    obtain rfl : 1 = n := Option.some.inj hn
    decide
  · have h : ∀ m < 49, terminalExists m = true →
        quiet.pendCount m = quiet.tdu.pendingList.countP fun i => (quiet.tender? i).any fun t => decide (t.holder = some m) := by
      decide +kernel
    have h48 : n ≤ 48 := of_decide_eq_true (Bool.and_eq_true_iff.mp hn).2
    exact h n (by omega) hn

/-! ## Single steps of the worked sequences -/

/-- The entries of the worked case 4.10. -/
def sixEntries : List LineEntry :=
  sixLines.map fun l => { item := l.item, seat := l.seat, quantity := l.quantity, price := l.price, cls := l.cls }

/-- State and version of the check in slot 0. -/
def stateOf (s : State) : Option (CheckState × Nat) := (s.check? 0).map fun c => (c.state, c.version)

/-- The total of the check in slot 0. -/
def totalOf (s : State) : Option Nat := (s.check? 0).map fun c => c.totals.total

/-- The state and the primary status of the tender at pool index 0. -/
def tenderOf (s : State) : Option (TenderState × Option Status) := (s.tender? 0).map fun t => (t.state, t.primary)

/-- The balances of the check in slot 0. -/
def balancesOf (s : State) : List Nat := ((s.check? 0).map fun c => c.plan.portions.map Portion.balance).getD []

/-- 01 1.9: OPEN CHECK. -/
theorem test_openCheck :
    (fun s : State => (s.check? 0, s.tableList 1, s.ckt.nextNumber, codes s.flp.out))
      (after (.openCheck (hdr 1) 1 3 255) floor) = (some empty, [0], 2, [.taken]) := by decide +kernel

/-- 01 1.9: ADD LINES of the worked case, on a check with no line. -/
theorem test_addLines :
    (fun s : State => (totalOf s, stateOf s, s.freeLines, codes s.flp.out))
      (after (.addLines (hdr 1) 1 sixEntries) (seat empty)) = (some 12451, some (.opened, 1), 3066, [.taken]) := by
  decide +kernel

/-- 03 R47: a batch reopens a PRESENTED check and hands on REOPENED. -/
theorem test_addLines_reopens :
    (fun s : State => (stateOf s, s.hitKinds 1 1))
      (after (.addLines (hdr 1) 1 [entry])
        { seat shown with wnu := { floor.wnu with watches := [{ terminal := 1, check := 1, mask := 255 }] } })
      = (some (.opened, 1), 8) := by decide +kernel

/-- 01 1.9: PRESENT CHECK. -/
theorem test_presentCheck :
    (stateOf (after (.presentCheck (hdr 1) 1) (seat six)) = some (.presented, 1))
    ∧ codes (after (.presentCheck (hdr 1) 1) (seat shown)).flp.out = [.busy] := by decide +kernel

/-- 03 3.10: a SERVER's discount of 479 on line 2 is taken; of 3,000 on line 3 it is parked. -/
theorem test_discountLine :
    (fun s : State => (totalOf s, codes s.flp.out)) (after (.discountLine (hdr 1) 1 2 479) (seat shown))
      = (some 11937, [.taken])
    ∧ (fun s : State => (totalOf s, s.apu.table.map Approval.change, codes s.flp.out))
        (after (.discountLine (hdr 1) 1 3 3000) (seat shown))
      = (some 12451, [.discountLine 3 2795], [.parked]) := by decide +kernel

/-- 03 R48 to R50: a manager voids line 4 of a PRESENTED check; a SERVER's void of it is parked. -/
theorem test_voidLine :
    totalOf (after (.voidLine (hdr 2) 1 4) (seat shown)) = some 10311
    ∧ codes (after (.voidLine (hdr 1) 1 4) (seat shown)).flp.out = [.parked] := by decide +kernel

/-- 05 5.7: SET SPLIT EVEN 3 and BY_SEAT. -/
theorem test_setSplit :
    balancesOf (after (.setSplit (hdr 1) 1 1 3) (seat shown)) = [4151, 4150, 4150]
    ∧ balancesOf (after (.setSplit (hdr 1) 1 2 0) (seat shown)) = [4958, 3516, 3977] := by decide +kernel

/-- 04 4.14: a portion above k, an amount above the total. -/
theorem test_setPortion :
    balancesOf (after (.setPortion (hdr 1) 1 1 5000) (seat custom)) = [5000, 0, 0]
    ∧ codes (after (.setPortion (hdr 1) 1 4 1000) (seat custom)).flp.out = [.range]
    ∧ codes (after (.setPortion (hdr 1) 1 3 13000) (seat custom)).flp.out = [.range] := by decide +kernel

/-- 05 5.7: a LOCK SPLIT with nothing entered writes its record; 04 R70. -/
theorem test_lockSplit :
    (after (.lockSplit (hdr 1) 1) (seat custom)).check? 0
      = some { custom with splitFault := some { sum := 0, total := 12451, isOver := false, difference := 12451 } }
    ∧ stateOf (after (.lockSplit (hdr 1) 1) (seat customReady)) = some (.opened, 1) := by decide +kernel

/-- 01 1.9: START TENDER of a card for the whole balance; cash of 13,000 gives a change of 549. -/
theorem test_startTender :
    (fun s : State => (stateOf s, tenderOf s, balancesOf s, s.aqp.queue))
      (after (.startTender (hdr 1) 1 1 2 0 (List.replicate 32 7)) (seat shown))
      = (some (.settling, 1), some (.authorizing .auth, none), [0], [{ tender := 0, kind := .auth }])
    ∧ (fun s : State => (stateOf s, (s.tender? 0).map Tender.change))
        (after (.startTender (hdr 1) 1 1 0 13000 (List.replicate 32 7)) (seat shown))
      = (some (.paid, 1), some (some 549)) := by decide +kernel

/-- 04 4.15: a tip of 2,490 is within the ceiling of 14,941, one of 2,491 needs an INCREMENT. -/
theorem test_submitTip :
    (fun s : State => (stateOf s, (s.tender? 0).map Tender.tip))
      (after (.submitTip (hdr 1) 1 1 0 2490) (table1 paidSix approvedTender)) = (some (.paid, 1), some 2490)
    ∧ (fun s : State => (stateOf s, (s.tender? 0).map Tender.heldTip, s.aqp.queue))
        (after (.submitTip (hdr 1) 1 1 0 2491) (table1 paidSix approvedTender))
      = (some (.settling, 1), some (some 2491), [{ tender := 0, kind := .increment }]) := by decide +kernel

/-- 01 1.10, 06 R113: a withdraw of an AUTHORIZED tender; one on a held check is deferred. -/
theorem test_withdrawTender :
    (fun s : State => (stateOf s, tenderOf s, s.aqp.queue))
      (after (.withdrawTender (hdr 1) 1 1) (table1 paidSix approvedTender))
      = (some (.settling, 1), some (.reversing, none), [{ tender := 0, kind := .reverse }])
    ∧ (fun s : State => (stateOf s, (s.tender? 0).map Tender.deferredWithdraw, codes s.flp.out))
        (after (.withdrawTender (hdr 1) 1 1)
          (table1 { paidSix with holds := { manager := true, approval := false } } approvedTender))
      = (some (.paid, 0), some true, [.deferred]) := by decide +kernel

/-- 06 R121: FETCH STATUS clears the status, takes the tender off the list and lowers its holder's count. -/
theorem test_fetchStatus :
    (fun s : State => (tenderOf s, s.tdu.pendingList, s.pendCount 1)) (after (.fetchStatus (hdr 1) 1 1) demo)
      = (some (.reversing, none), [], 0) := by decide +kernel

/-- 01 1.9: ABANDON TENDER, then CLOSE CHECK retires. -/
theorem test_abandonTender :
    (fun s : State => (tenderOf s, (s.check? 0).map Check.closeFault))
      (after (.abandonTender (hdr 0) 1 1) (table1 faultedSix faultedTender))
      = (some (.done .writtenOff, none), some (some 0)) := by decide +kernel

/-- 01 1.9: CLOSE CHECK of a PAID check captures; of a check with total 0 retires. -/
theorem test_closeCheck :
    (fun s : State => (stateOf s, tenderOf s, s.aqp.queue)) (after (.closeCheck (hdr 1) 1) paidTable)
      = (some (.closing, 1), some (.capturing, none), [{ tender := 0, kind := .capture }])
    ∧ (fun s : State => (s.check? 0, s.tableList 1)) (after (.closeCheck (hdr 1) 1) (seat empty)) = (none, []) := by
  decide +kernel

/-- 02 R38, 08 R144: READ TABLE reports MANAGER and APPROVAL as bits 0 and 1. -/
theorem test_readTable_holds :
    ((after (.readTable (hdr 0) 1) (seat heldSix)).fhp.out = [.answer 0 1 0x73 .taken 128 [1, 0, 1, 0, 1, 0, 0, 1]])
    ∧ (after (.readTable (hdr 0) 1) (seat (awaiting six))).fhp.out
      = [.answer 0 1 0x73 .taken 128 [1, 0, 1, 0, 1, 0, 0, 2]] := by decide +kernel

/-- 08 R150, R151: the answer PARKED carries the parked change whole. -/
theorem test_parked_body :
    ((after (.transferCheck (hdr 1) 1 2 2) (seat six)).flp.out.map fun f => (f.content.drop 5).take 10)
      = [[1, 3, 255, 255, 255, 255, 255, 0, 2, 2]] := by decide +kernel

/-- 10 R187: while the transaction in progress is ignored, no frame of it is taken or counted. -/
theorem test_ignored_transaction :
    (fun s : State => after (.readTable (hdr 0) 1) s = s ∧ after (.crcErrorFrame .fhp) s = s
      ∧ after (.tagZeroFrame .fhp) s = s) { floor with fhp := { floor.fhp with ignore := true } } := by
  show _ ∧ _
  decide +kernel

/-- 01 R16: a manager's void retires, a SERVER's is parked. -/
theorem test_voidCheck :
    (after (.voidCheck (hdr 2) 1) (seat six)).check? 0 = none
    ∧ codes (after (.voidCheck (hdr 1) 1) (seat six)).flp.out = [.parked] := by decide +kernel

/-- 08 8.9: a SERVER's transfer to another owner is parked; a manager's is made. -/
theorem test_transferCheck :
    (fun s : State => (codes s.flp.out, s.apu.table.map Approval.deadline))
      (after (.transferCheck (hdr 1) 1 0 2) (seat six)) = ([.parked], [300])
    ∧ ((after (.transferCheck (hdr 2) 1 2 2) (seat six)).check? 0).map (fun c => (c.table, c.owner, c.version))
      = some (2, 2, 1) := by decide +kernel

/-- 05 5.8: a hold pauses the lease with the time left, and the release resumes it. -/
theorem test_hold_pauses_lease :
    ((after (.holdCheck (hdr 2) 1) (later (table1 settlingSix waitingTender) 20 nothingDue)).tender? 0).map Tender.lease
      = some (.paused 70) := by decide +kernel

/-- 08 8.9: APPROVE of a transfer writes the owner with one version step for it and the hold. -/
theorem test_approve :
    (fun s : State => ((s.check? 0).map fun c => (c.owner, c.version, c.holds.any), s.apu.table))
      (after (.approve (hdr 2) 1 255) (parkedTable six (.transferCheck 0 2))) = (some (2, 1, false), []) := by
  decide +kernel

/-- 08 R153: a MANAGER cannot approve its own record; R154: a refused change leaves the check. -/
theorem test_approve_refusals :
    codes (after (.approve (hdr 2) 1 255)
        { parkedTable six .voidCheck with apu :=
            { table := [{ parkedBy1 .voidCheck with requester := some 2 }], counter := 1 } }).flp.out = [.denied]
    ∧ stateOf (after (.approve (hdr 2) 1 255) (parkedTable settlingSix .voidCheck)) = some (.settling, 1) := by
  decide +kernel

/-- 08 R156: REJECT ends the record and the hold. -/
theorem test_reject :
    (fun s : State => ((s.check? 0).map fun c => c.holds.any, s.apu.table))
      (after (.reject (hdr 0) 1 0) (parkedTable six .voidCheck)) = (some false, []) := by decide +kernel

/-- 09 9.7: a watch, its hits and their fetch. -/
theorem test_watches :
    ((after (.setWatch (hdr 1) 1 0xC4) (seat six)).wnu.watches = [{ terminal := 1, check := 1, mask := 0xC4 }])
    ∧ (after (.fetchHits (hdr 1)) demo).hitSet 1 = [] ∧ (after (.dropWatch (hdr 1) 1) demo).wnu.watches = [] := by
  decide +kernel

/-- 09 9.8: ACK NOTICE STARTUP; a source without a latch is out of range. -/
theorem test_ackNotice :
    (after (.ackNoticeStartup (hdr 0) 13) floor).wnu.startup = false
    ∧ codes (after (.ackNoticeStartup (hdr 0) 11) floor).fhp.out = [.range]
    ∧ ((after (.ackNoticeAged (hdr 0)) (seat { six with aged := true })).check? 0).map Check.agedAck = some true := by
  decide +kernel

/-- 09 R173: FETCH NEXT PENDING collects the oldest status, and is ABSENT on an empty list. -/
theorem test_fetchNextPending :
    (fun s : State => (s.tdu.pendingList, codes s.fhp.out)) (after (.fetchNextPending (hdr 0)) demo) = ([], [.taken])
    ∧ codes (after (.fetchNextPending (hdr 0)) floor).fhp.out = [.absent] := by decide +kernel

/-- 02 R34, R37, R36: SET TABLE, SET TERMINAL and FORGET TERMINAL. -/
theorem test_floorMap :
    ((after (.setTable (hdr 0) 2 3 8) floor).sst.work.sections.take 4 = [1, 8, 8, 0])
    ∧ codes (after (.setTable (hdr 0) 1 3 0) (seat six)).fhp.out = [.busy]
    ∧ (after (.setTerminal (hdr 0) 1 2 255) floor).role 1 = .manager
    ∧ ((after (.forgetTerminal (hdr 0) 1) (table1 settlingSix waitingTender)).tender? 0).map
        (fun t => (t.state, t.primary, t.holder)) = some (.done .withdrawn, some .leaseExpired, none) := by decide +kernel

/-- 11 11.8: a value below its range is raised to it; a tax rate is refused while a check is live. -/
theorem test_setSetting :
    (after (.setSetting (hdr 0) 20 5) (seat six)).setting 20 = 10
    ∧ codes (after (.setSetting (hdr 0) 1 7250) (seat six)).fhp.out = [.busy] := by decide +kernel

/-- 11 11.8: a save in progress, its failure, and the areas of LOAD SETTINGS. -/
theorem test_saveSettings :
    (fun s : State => (s.sst.save, s.sst.site, codes (after (.setTable (hdr 0) 1 2 2) s).fhp.out))
      (after (.saveSettings (hdr 0)) floor) = (.saving, none, [.taken, .busy])
    ∧ (after (.saveEnd false) (after (.saveSettings (hdr 0)) floor)).sst.save = .failed
    ∧ codes (after (.loadSettings (hdr 0) 0) floor).fhp.out = [.absent]
    ∧ codes (after (.loadSettings (hdr 0) 2) floor).fhp.out = [.range] := by decide +kernel

/-- 10 R178, R182: the MALFORMED reasons. -/
theorem test_malformed :
    [Instr.malformedRequest { hdr 1 with term := 49 } 1 0, .malformedRequest (hdr 1) 2 0,
      .malformedRequest (hdr 1) 0x11 3].map (fun i => (after i floor).flp.out)
      = [[.answer 49 1 1 .malformed 128 [1]], [.answer 1 1 2 .malformed 128 [2]],
          [.answer 1 1 0x11 .malformed 128 [3]]] := by decide +kernel

/-- 10 10.9: a transaction of too few bytes leaves the frame, one of enough shifts it out with its CRC and removes it. -/
theorem test_fhpTransaction :
    (fun s : State => ((after (.fhpTransaction (List.replicate 10 0)) s).fhp.out.length,
        (after (.fhpTransaction (List.replicate 11 0)) s).fhp.out.length,
        ((after (.fhpTransaction (List.replicate 11 0)) s).fhp.sdo.take 8)))
      { floor with fhp := { floor.fhp with out := [.answer 0 1 0x90 .taken 128 [0, 0]] } }
      = (1, 0, [0, 7, 0, 1, 0x90, 0, 128, 0]) := by decide +kernel

/-- 10 R177: a request carried in a transaction is taken; a frame with a bad CRC is counted. -/
theorem test_fhpTransaction_request :
    (after (.fhpTransaction ((requestWire (.setClock (hdr 0) 9 1439)).getD [])) floor).fck.minute = 1439
    ∧ (after (.fhpTransaction ([0, 5, 0, 1, 0x85, 0, 0, 0, 0])) floor).fhp.crcErrors = 1
    ∧ (after (.fhpTransaction [0, 4, 0, 1]) floor).fhp.framingErrors = 1 := by decide +kernel

/-- 07 R133: a grant while eight frames wait takes place; 10 R184: no more than eight wait, in the order of the grants. -/
theorem test_grant_crowded :
    (fun s : State => ((s.aqp.entries.filterMap id).map Exchange.tag, s.aqp.queue, s.gwp.out.length,
        s.gwp.out.dropLast = List.replicate 7 (.message 2 0xC0 [])))
      (after .grant crowdedTable) = ([1], [], 8, True) := by
  simp only [Prod.mk.injEq, eq_iff_iff, iff_true]
  decide +kernel

/-- 07 7.8: GRANT sends the head of the queue with the tag of the counter. -/
theorem test_grant :
    (fun s : State => ((s.aqp.entries.filterMap id).map fun e => (e.tag, e.amount, e.deadline), s.aqp.tagCounter, s.aqp.queue,
        (s.tender? 0).map Tender.sent))
      (after .grant queuedTable) = ([(1, 12451, 30)], 2, [], some true) := by decide +kernel

/-- 06 R107: an APPROVED and a DECLINED result of an AUTH; 07 R136: one of another kind is discarded. -/
theorem test_result :
    (fun s : State => (stateOf s, tenderOf s, (s.tender? 0).map Tender.ceiling)) (after (.result 255 approvedBody) sentTable)
      = (some (.paid, 1), some (.authorized, none), some (some 14941))
    ∧ (fun s : State => (stateOf s, tenderOf s, balancesOf s))
        (after (.result 255 (0xC0 :: 1 :: List.replicate 18 0)) sentTable)
      = (some (.presented, 1), some (.done .declined, some .declined), [12451])
    ∧ (after (.result 255 (0xC1 :: List.replicate 19 0)) sentTable).aqp.discarded = 1 := by decide +kernel

/-- 06 6.9: the timeout of an AUTH sends the tender to a safety reversal. -/
theorem test_exchangeTimeout :
    (fun s : State => (tenderOf s, s.aqp.queue, s.aqp.timeouts, s.pendCount 1)) (after (.exchangeTimeout 255) sentTable)
      = (some (.reversing, some .timeout), [{ tender := 0, kind := .reverse }], 1, 1) := by decide +kernel

/-- 07 7.8, 7.9: LINK_OK falls and rises; a NO_LINK completion. -/
theorem test_link :
    (fun s : State => (s.aqp.link, tenderOf s, s.aqp.queue)) (after .linkOkFall queuedTable)
      = (.down, some (.done .noLink, some .noLink), [])
    ∧ (after .linkOkRise (after .linkOkFall floor)).aqp.link = .up
    ∧ tenderOf (after .noLinkCompletion { queuedTable with aqp := { queuedTable.aqp with link := .failed } })
      = some (.done .noLink, some .noLink) := by decide +kernel

/-- 05 5.8: a lease that has come to its deadline expires. -/
theorem test_leaseExpiry :
    (fun s : State => (stateOf s, tenderOf s, balancesOf s))
      (after (.leaseExpiry 1 1) (later (table1 settlingSix waitingTender) 90 { nothingDue with leases := [0] }))
      = (some (.presented, 1), some (.done .withdrawn, some .leaseExpired), [12451]) := by decide +kernel

/-- 11 R194: the ticks; a second tick finds the lease of 90 due at 90. -/
theorem test_ticks :
    (after .secondTick (later (table1 settlingSix waitingTender) 89 nothingDue)).due.leases = [0]
    ∧ (after .secondTick (later (table1 settlingSix waitingTender) 88 nothingDue)).due.leases = []
    ∧ (fun c : FloorClock => (c.day, c.minute))
        (after .minuteTick { floor with fck := { floor.fck with day := 65535, minute := 1439, second := 59 } }).fck
      = (0, 0) := by
  decide +kernel

/-- 11 R194: a second that passes 59 returns to 0 and advances the minute, whose age tests it makes. -/
theorem test_secondTick_passes_minute :
    (fun s : State => (s.fck, s.due.ages))
      (after .secondTick { seat six with fck := { floor.fck with minute := 179, second := 59 } })
      = ({ floor.fck with minute := 180, timebase := 1 }, [1]) := by decide +kernel

/-- 02 R29, 11 R189: a silence found at a tick takes place though the limit has been raised since; a frame ends it. -/
theorem test_terminalSilence :
    (fun s : State => ((after (.terminalSilence 1) (after (.setSetting (hdr 0) 20 600) s)).isPresent 1,
        (after (.hello (hdr 1)) s).due.silences))
      (later (floor.setPresent 1 true) 120 { nothingDue with silences := [1] }) = (false, []) := by decide +kernel

/-- 11 R196, R197: a warm start keeps the checks and a cold start does not. -/
theorem test_starts :
    ((after (.warmStart false) (dark true)).check? 0 = some paidSix)
    ∧ (after (.coldStart false) (dark false)).check? 0 = none
    ∧ (after (.coldStart false) (dark true)) = dark true := by decide +kernel

/-- 06 6.10: a sent AUTH comes back REVERSING with RESTART, its need in the rebuilt queue. -/
theorem test_warmStart_recovers :
    (fun s : State => (tenderOf s, stateOf s, s.aqp.queue))
      (after (.warmStart false) { sentTable with power := { resetLow := true, mainLow := false, retention := true } })
      = (some (.reversing, some .restart), some (.settling, 1), [{ tender := 0, kind := .reverse }]) := by decide +kernel

/-- 05 R95, 08 R150: a lease that ran restarts in full, and so does the deadline of an approval record. -/
theorem test_warmStart_restarts :
    (fun s : State => ((s.tender? 0).map Tender.lease, s.apu.table.map Approval.deadline))
      (after (.warmStart false) { table1 settlingSix waitingTender with
        apu := { table := [{ parkedBy1 .voidCheck with deadline := 7 }], counter := 1 }
        power := { resetLow := true, mainLow := false, retention := true } })
      = (some (.running 90), [300]) := by decide +kernel

/-- 11 R194, 01 R22: minutes that pass under RESET_N with main power present give their ticks, so that a check of the age
of the alarm becomes aged; without main power they give none. -/
theorem test_clock_in_reset :
    (after (.clockAdvanceWithoutPower 61) heldInReset).due.ages = [1]
    ∧ (after (.clockAdvanceWithoutPower 60) heldInReset).due.ages = []
    ∧ (after (.clockAdvanceWithoutPower 61)
        { heldInReset with power := { resetLow := true, mainLow := true, retention := true } }).due.ages = []
    ∧ ((after (.checkAged 1) (after (.warmStart false) (after (.clockAdvanceWithoutPower 61) heldInReset))).check? 0).map
        Check.aged = some true := by decide +kernel

/-- 01 R8: a request on a check in a state outside its row answers BUSY. -/
theorem test_admission :
    codes (after (.presentCheck (hdr 1) 1) (seat { six with state := .presented })).flp.out = [.busy]
    ∧ codes (after (.holdCheck (hdr 2) 1) (seat (owing six .closing))).flp.out = [.busy] := by decide +kernel

/-- 06 R115, 08 R149: the release of a check carries out the deferred withdraw of its AUTHORIZED tender. -/
theorem test_release_acts_deferred :
    (fun s : State => (tenderOf s, stateOf s, s.aqp.queue))
      (after (.releaseCheck (hdr 2) 1) (deferredTable approvedTender))
      = (some (.reversing, none), some (.settling, settlingSix.version + 2), [{ tender := 0, kind := .reverse }]) := by
  decide +kernel

end Sys2Proof.Tests
end

section
/-! Laws of the Tally Engine: an apportionment sums to its target, and the shares of every plan sum to the total. -/
namespace Sys2Proof.Machine

/-! ## Apportionment (04 R63) -/

/-- A list with its places, as a map over the places. -/
theorem zipIdx_eq_map_range {α : Type} (l : List α) (d : α) :
    l.zipIdx = (List.range l.length).map fun p => (l.getD p d, p) := by
  apply List.ext_getElem
  · simp
  · intro i h1 h2
    simp only [List.length_zipIdx] at h1
    simp [h1]

/-- The number of places below n that satisfy a test, as a count and as a size. -/
theorem countP_range_eq_card (n : Nat) (p : Nat → Bool) :
    (List.range n).countP p = ((Finset.range n).filter fun q => p q = true).card := by
  rw [List.countP_eq_length_filter, ← List.toFinset_card_of_nodup (List.nodup_range.filter _), List.toFinset_filter,
    List.toFinset_range]

/-- Place q is served before place p: a larger remainder, or an equal one at a lower place (04 R63). -/
def ServedBefore (rems : List Nat) (q p : Nat) : Prop :=
  rems.getD p 0 < rems.getD q 0 ∨ rems.getD q 0 = rems.getD p 0 ∧ q < p

theorem ServedBefore.trans {rems : List Nat} {a b c : Nat} (hab : ServedBefore rems a b) (hbc : ServedBefore rems b c) :
    ServedBefore rems a c := by
  unfold ServedBefore at *; omega

theorem ServedBefore.irrefl (rems : List Nat) (a : Nat) : ¬ ServedBefore rems a a := by
  unfold ServedBefore; omega

theorem ServedBefore.total (rems : List Nat) {a b : Nat} (h : a ≠ b) :
    ServedBefore rems a b ∨ ServedBefore rems b a := by
  unfold ServedBefore; omega

open Classical in
/-- The rank of a place is the number of places served before it. -/
theorem serveRank_eq_card (rems : List Nat) (p : Nat) :
    serveRank rems p = ((Finset.range rems.length).filter fun q => ServedBefore rems q p).card := by
  unfold serveRank
  rw [zipIdx_eq_map_range rems 0, List.countP_map, countP_range_eq_card]
  congr 1
  ext q
  simp [ServedBefore]

/-- A place served before another has the lower rank. -/
theorem serveRank_lt {rems : List Nat} {q p : Nat} (hq : q < rems.length) (h : ServedBefore rems q p) :
    serveRank rems q < serveRank rems p := by
  classical
  rw [serveRank_eq_card, serveRank_eq_card]
  refine Finset.card_lt_card (Finset.ssubset_iff_of_subset ?_ |>.mpr ⟨q, ?_, ?_⟩)
  · exact Finset.monotone_filter_right _ fun a _ ha => ha.trans h
  · simp [hq, h]
  · simp [ServedBefore.irrefl]

/-- Two places have different ranks. -/
theorem serveRank_injOn (rems : List Nat) : Set.InjOn (serveRank rems) (Finset.range rems.length) := by
  intro a ha b hb h
  simp only [Finset.coe_range, Set.mem_Iio] at ha hb
  by_contra hne
  rcases ServedBefore.total rems hne with hab | hba
  · exact absurd h (serveRank_lt ha hab).ne
  · exact absurd h (serveRank_lt hb hba).ne'

theorem serveRank_lt_length {rems : List Nat} {p : Nat} (hp : p < rems.length) : serveRank rems p < rems.length := by
  classical
  rw [serveRank_eq_card]
  calc _ < (Finset.range rems.length).card :=
        Finset.card_lt_card
          (Finset.filter_ssubset.mpr ⟨p, by simpa using hp, ServedBefore.irrefl rems p⟩ :
            ((Finset.range rems.length).filter fun q => ServedBefore rems q p) ⊂ _)
    _ = rems.length := Finset.card_range _

/-- The ranks are the numbers below the number of places, so a leftover of k cents serves k places. -/
theorem countP_serveRank_lt (rems : List Nat) {k : Nat} (hk : k ≤ rems.length) :
    ((List.range rems.length).countP fun p => decide (serveRank rems p < k)) = k := by
  have himage : (Finset.range rems.length).image (serveRank rems) = Finset.range rems.length := by
    apply Finset.eq_of_subset_of_card_le
    · intro r hr
      obtain ⟨p, hp, rfl⟩ := Finset.mem_image.mp hr
      exact Finset.mem_range.mpr (serveRank_lt_length (Finset.mem_range.mp hp))
    · rw [Finset.card_image_of_injOn (serveRank_injOn rems)]
  have hserved : ((Finset.range rems.length).filter fun p => serveRank rems p < k).image (serveRank rems)
      = Finset.range k := by
    rw [← Finset.filter_image (p := fun r => r < k), himage]
    ext r; simp; omega
  rw [countP_range_eq_card]
  simp only [decide_eq_true_eq]
  rw [← Finset.card_image_of_injOn ((serveRank_injOn rems).mono (Finset.coe_subset.mpr (Finset.filter_subset _ _))),
    hserved, Finset.card_range]

/-- The sum of a list with one added at the places, counted from k, that satisfy a test. -/
theorem sum_zipIdx_add_ite (l : List Nat) (p : Nat → Bool) (k : Nat) :
    ((l.zipIdx k).map fun x => if p x.2 then x.1 + 1 else x.1).sum
      = l.sum + (List.range' k l.length).countP p := by
  induction l generalizing k with
  | nil => simp
  | cons a l ih =>
    simp only [List.zipIdx_cons, List.map_cons, List.sum_cons, List.length_cons, List.range'_succ, List.countP_cons, ih]
    split <;> omega

@[simp] theorem apportion_length (target d : Nat) (ns : List Nat) : (apportion target d ns).length = ns.length := by
  simp [apportion]

/-- An apportionment sums to its target, where the leftover is between 0 and the number of places (04 R63). -/
theorem apportion_sum {target d : Nat} {ns : List Nat} (hlow : (ns.map (· / d)).sum ≤ target)
    (hhigh : target ≤ (ns.map (· / d)).sum + ns.length) : (apportion target d ns).sum = target := by
  have hcount := countP_serveRank_lt (ns.map (· % d)) (k := target - (ns.map (· / d)).sum) (by simp; omega)
  have hsum := sum_zipIdx_add_ite (ns.map (· / d))
    (fun p => decide (serveRank (ns.map (· % d)) p < target - (ns.map (· / d)).sum)) 0
  simp only [List.length_map, ← List.range_eq_range', decide_eq_true_eq] at hcount hsum
  rw [hcount] at hsum
  exact hsum.trans (by omega)

/-- Floors and remainders of a list of numerators. -/
theorem sum_div_mod (d : Nat) (ns : List Nat) : d * (ns.map (· / d)).sum + (ns.map (· % d)).sum = ns.sum := by
  induction ns with
  | nil => simp
  | cons a l ih =>
    have := Nat.div_add_mod a d
    simp only [List.map_cons, List.sum_cons, Nat.mul_add]
    omega

theorem sum_mod_le {d : Nat} (hd : 0 < d) (ns : List Nat) : (ns.map (· % d)).sum + ns.length ≤ d * ns.length := by
  induction ns with
  | nil => simp
  | cons a l ih =>
    have := Nat.mod_lt a hd
    simp only [List.map_cons, List.sum_cons, List.length_cons, Nat.mul_add]
    omega

/-- An apportionment sums to its target, where the target is the exact sum of the numerators over d, or that sum rounded
to a cent on either side. -/
theorem apportion_sum_of_near {target d : Nat} {ns : List Nat} (hd : 0 < d) (hlow : ns.sum < d * (target + 1))
    (hhigh : d * target < ns.sum + d) : (apportion target d ns).sum = target := by
  have hsplit := sum_div_mod d ns
  have hrem := sum_mod_le hd ns
  apply apportion_sum
  · exact Nat.lt_add_one_iff.mp (Nat.lt_of_mul_lt_mul_left (a := d) (by omega))
  · refine Nat.lt_add_one_iff.mp (Nat.lt_of_mul_lt_mul_left (a := d) ?_)
    simp only [Nat.mul_add]
    omega

/-! ## Net amounts (04 R58, R59, R67) -/

@[simp] theorem netWhere_nil (p : Line → Bool) : netWhere [] p = 0 := rfl

theorem netWhere_cons (l : Line) (ls : List Line) (p : Line → Bool) :
    netWhere (l :: ls) p = (if !l.void && p l then l.net else 0) + netWhere ls p := by
  unfold netWhere
  rw [List.filter_cons]
  split <;> simp

/-- The net of the lines depends on the test at the ACTIVE lines alone. -/
theorem netWhere_congr {lines : List Line} {p q : Line → Bool} (h : ∀ l ∈ lines, l.void = false → p l = q l) :
    netWhere lines p = netWhere lines q := by
  unfold netWhere
  congr 2
  refine List.filter_congr fun l hl => ?_
  cases hv : l.void
  · simp [h l hl hv]
  · simp

/-- Tests that exclude each other add up. -/
theorem netWhere_or (lines : List Line) {p q : Line → Bool} (h : ∀ l, p l = true → q l = false) :
    (netWhere lines fun l => p l || q l) = netWhere lines p + netWhere lines q := by
  induction lines with
  | nil => simp
  | cons l ls ih =>
    rw [netWhere_cons, netWhere_cons, netWhere_cons, ih]
    cases hp : p l
    · simp; omega
    · simp [h l hp]; omega

/-- The nets of a class at several seats add up to its net at any of them. -/
theorem sum_seatBase (lines : List Line) (cls : Nat) {seats : List Nat} (h : seats.Nodup) :
    (seats.map (seatBase lines cls)).sum = netWhere lines fun l => l.cls == cls && seats.contains l.seat := by
  induction seats with
  | nil => simp [netWhere]
  | cons s ss ih =>
    obtain ⟨hs, hss⟩ := List.nodup_cons.mp h
    rw [List.map_cons, List.sum_cons, ih hss, seatBase, ← netWhere_or]
    · refine netWhere_congr fun l _ _ => ?_
      cases hc : l.cls == cls <;> simp [beq_eq_decide]
    · intro l hl
      simp only [Bool.and_eq_true, beq_iff_eq] at hl
      simp [hl.2, hs]

theorem mem_seatsPresent {lines : List Line} {seat : Nat} :
    seat ∈ seatsPresent lines ↔ 1 ≤ seat ∧ seat ≤ 30 ∧ ∃ l ∈ lines, l.void = false ∧ l.seat = seat := by
  simp [seatsPresent, List.mem_range']
  constructor
  · rintro ⟨⟨i, hi, rfl⟩, hl⟩; exact ⟨by omega, by omega, hl⟩
  · rintro ⟨h1, h2, hl⟩; exact ⟨⟨seat - 1, by omega, by omega⟩, hl⟩

theorem seatsPresent_nodup (lines : List Line) : (seatsPresent lines).Nodup := (List.nodup_range' (step := 1)).filter _

/-- A class base is its shared base and its nets at the seats present (04 R67). -/
theorem classBase_eq_shared_add (lines : List Line) (cls : Nat) (hseat : ∀ l ∈ lines, l.void = false → l.seat ≤ 30) :
    classBase lines cls = sharedBase lines cls + ((seatsPresent lines).map (seatBase lines cls)).sum := by
  rw [sum_seatBase lines cls (seatsPresent_nodup lines), sharedBase, ← netWhere_or, classBase]
  · refine netWhere_congr fun l hl hv => ?_
    rcases Nat.eq_zero_or_pos l.seat with h0 | hpos
    · cases hc : l.cls == cls <;> simp [h0]
    · have : l.seat ∈ seatsPresent lines := mem_seatsPresent.mpr ⟨hpos, hseat l hl hv, l, hl, hv, rfl⟩
      cases hc : l.cls == cls <;> simp [this]
  · intro l hl
    simp only [Bool.and_eq_true, beq_iff_eq] at hl
    simp [hl.2, mem_seatsPresent]

/-! ## Figures added place by place -/

theorem sum_zipWith_add {l₁ l₂ : List Nat} (h : l₁.length = l₂.length) :
    (List.zipWith (· + ·) l₁ l₂).sum = l₁.sum + l₂.sum := by
  induction l₁ generalizing l₂ with
  | nil => simp [List.eq_nil_of_length_eq_zero h.symm]
  | cons a l ih =>
    cases l₂ with
    | nil => simp at h
    | cons b m =>
      simp only [List.zipWith_cons_cons, List.sum_cons, ih (Nat.succ.inj h)]
      omega

theorem addColumns_length {m : Nat} {cols : List (List Nat)} (h : ∀ col ∈ cols, col.length = m) :
    (addColumns m cols).length = m := by
  induction cols with
  | nil => simp [addColumns]
  | cons col cols ih =>
    obtain ⟨hcol, hcols⟩ := List.forall_mem_cons.mp h
    simpa [addColumns, hcol] using (ih hcols).ge

theorem addColumns_sum {m : Nat} {cols : List (List Nat)} (h : ∀ col ∈ cols, col.length = m) :
    (addColumns m cols).sum = (cols.map List.sum).sum := by
  induction cols with
  | nil => simp [addColumns]
  | cons col cols ih =>
    obtain ⟨hcol, hcols⟩ := List.forall_mem_cons.mp h
    have hlen := addColumns_length hcols
    rw [List.map_cons, List.sum_cons, ← ih hcols]
    exact sum_zipWith_add (hcol.trans hlen.symm)

/-! ## Shares of a BY_SEAT plan (04 R66 to R69) -/

/-- A rounded quotient stands less than one cent from the exact one (04 R57). -/
theorem roundCent_near (mode q : Nat) :
    q < Config.rateUnit * (roundCent mode q + 1) ∧ Config.rateUnit * roundCent mode q < q + Config.rateUnit := by
  have hunit : Config.rateUnit = 100000 := rfl
  simp only [roundCent]
  split
  · rw [hunit]; omega
  · split
    · rw [hunit] at *; omega
    · rw [hunit] at *; omega

/-- Nothing rounds to nothing (04 R57). -/
@[simp] theorem roundCent_zero (mode : Nat) : roundCent mode 0 = 0 := by
  simp [roundCent, Config.rateUnit]

@[simp] theorem portionBases_length (lines : List Line) (seats : List Nat) (cls : Nat) :
    (portionBases lines seats cls).length = seats.length := by
  simp [portionBases]

@[simp] theorem portionTaxes_length (w : Settings) (lines : List Line) (seats : List Nat) (cls : Nat) :
    (portionTaxes w lines seats cls).length = seats.length := by
  simp [portionTaxes]

theorem portionSubtotals_length (lines : List Line) (seats : List Nat) :
    (portionSubtotals lines seats).length = seats.length :=
  addColumns_length fun col hcol => by obtain ⟨c, -, rfl⟩ := List.mem_map.mp hcol; simp

theorem serviceParts_length (w : Settings) (covers : Nat) (lines : List Line) (seats : List Nat) :
    (serviceParts w covers lines seats).length = seats.length := by
  unfold serviceParts
  simp only
  split
  · simp
  · simp [portionSubtotals_length]

theorem seatShares_length (w : Settings) (covers : Nat) (lines : List Line) (seats : List Nat) :
    (seatShares w covers lines seats).length = seats.length := by
  refine addColumns_length fun col hcol => ?_
  simp only [List.mem_cons, List.not_mem_nil, or_false] at hcol
  rcases hcol with rfl | rfl | rfl
  · exact portionSubtotals_length lines seats
  · exact addColumns_length fun col hcol => by obtain ⟨c, -, rfl⟩ := List.mem_map.mp hcol; simp
  · exact serviceParts_length w covers lines seats

section
variable {w : Settings} {covers : Nat} {lines : List Line}

/-- The portion bases of a class sum to its base (04 R67). -/
theorem portionBases_sum (hseat : ∀ l ∈ lines, l.void = false → l.seat ≤ 30) (hne : seatsPresent lines ≠ [])
    (cls : Nat) : (portionBases lines (seatsPresent lines) cls).sum = classBase lines cls := by
  have hpos : 0 < (seatsPresent lines).length := List.length_pos_iff.mpr hne
  have hshared : (apportion (sharedBase lines cls) (seatsPresent lines).length
      (List.replicate (seatsPresent lines).length (sharedBase lines cls))).sum = sharedBase lines cls :=
    apportion_sum_of_near hpos (by simp [Nat.mul_add, hpos]) (by simp [hpos])
  rw [portionBases, sum_zipWith_add (by simp), hshared, classBase_eq_shared_add lines cls hseat, Nat.add_comm]

/-- The portion taxes of a class sum to the check's tax of the class (04 R68). -/
theorem portionTaxes_sum (hseat : ∀ l ∈ lines, l.void = false → l.seat ≤ 30) (hne : seatsPresent lines ≠ [])
    (cls : Nat) : (portionTaxes w lines (seatsPresent lines) cls).sum = classTax w lines cls := by
  have hnum : ((portionBases lines (seatsPresent lines) cls).map (· * w.value cls)).sum
      = classBase lines cls * w.value cls := by
    rw [List.sum_map_mul_right, List.map_id', portionBases_sum hseat hne]
  obtain ⟨hlow, hhigh⟩ := roundCent_near (w.value 9) (classBase lines cls * w.value cls)
  exact apportion_sum_of_near (by decide) (by rw [hnum]; exact hlow) (by rw [hnum]; exact hhigh)

/-- The portion subtotals sum to the subtotal (04 R67). -/
theorem portionSubtotals_sum (hseat : ∀ l ∈ lines, l.void = false → l.seat ≤ 30) (hne : seatsPresent lines ≠ []) :
    (portionSubtotals lines (seatsPresent lines)).sum = subtotalOf lines := by
  rw [portionSubtotals, addColumns_sum fun col hcol => by obtain ⟨c, -, rfl⟩ := List.mem_map.mp hcol; simp,
    List.map_map, subtotalOf]
  exact congrArg List.sum (List.map_congr_left fun cls _ => portionBases_sum hseat hne cls)

/-- The service parts sum to the service charge (04 R69). -/
theorem serviceParts_sum (hseat : ∀ l ∈ lines, l.void = false → l.seat ≤ 30) (hne : seatsPresent lines ≠ []) :
    (serviceParts w covers lines (seatsPresent lines)).sum = serviceOf w covers lines := by
  unfold serviceParts
  simp only
  split
  next h0 => simp [serviceOf, h0]
  next h0 =>
    have hnum : ((portionSubtotals lines (seatsPresent lines)).map (serviceOf w covers lines * ·)).sum
        = subtotalOf lines * serviceOf w covers lines := by
      rw [List.sum_map_mul_left, List.map_id', portionSubtotals_sum hseat hne, Nat.mul_comm]
    have hpos := Nat.pos_of_ne_zero h0
    exact apportion_sum_of_near hpos (by rw [hnum, Nat.mul_add]; omega) (by rw [hnum]; omega)

/-- The shares of a BY_SEAT plan sum to the total (04 R64, R69). -/
theorem seatShares_sum (hseat : ∀ l ∈ lines, l.void = false → l.seat ≤ 30) (hne : seatsPresent lines ≠ []) :
    (seatShares w covers lines (seatsPresent lines)).sum = (totalsOf w covers lines).total := by
  have htaxes : ∀ col ∈ taxClasses.map (portionTaxes w lines (seatsPresent lines)),
      col.length = (seatsPresent lines).length := by
    intro col hcol; obtain ⟨c, -, rfl⟩ := List.mem_map.mp hcol; simp
  have htaxsum : (taxClasses.map (List.sum ∘ portionTaxes w lines (seatsPresent lines))).sum
      = (taxClasses.map (classTax w lines)).sum :=
    congrArg List.sum (List.map_congr_left fun cls _ => portionTaxes_sum hseat hne cls)
  rw [seatShares, addColumns_sum]
  · simp only [List.map_cons, List.map_nil, List.sum_cons, List.sum_nil, addColumns_sum htaxes, List.map_map, htaxsum,
      portionSubtotals_sum hseat hne, serviceParts_sum hseat hne, totalsOf]
    omega
  · intro col hcol
    simp only [List.mem_cons, List.not_mem_nil, or_false] at hcol
    rcases hcol with rfl | rfl | rfl
    · exact portionSubtotals_length lines _
    · exact addColumns_length htaxes
    · exact serviceParts_length w covers lines _

end

/-! ## Plans (04 R64, R65; 05 R83) -/

/-- The shares of an EVEN plan sum to the total (04 R64, R65). -/
theorem evenShares_sum (total : Nat) {n : Nat} (hn : 1 ≤ n) : (evenShares total n).sum = total :=
  apportion_sum_of_near hn (by simp [Nat.mul_add]; omega) (by simp; omega)

/-- Fresh portions have the shares they were made of. -/
theorem freshPortions_shares {shares : List Nat} {seats : List (Option Nat)} (h : shares.length = seats.length) :
    (freshPortions shares seats).map Portion.share = shares := by
  apply List.ext_getElem
  · simp [freshPortions, h]
  · intro i h1 h2
    simp [freshPortions]

/-- A plan that is built LOCKED has shares that sum to the total (04 R64 to R69). -/
theorem buildPlan_shareSum (w : Settings) (covers : Nat) {lines : List Line} {kind : PlanKind} {n : Nat}
    (hseat : ∀ l ∈ lines, l.void = false → l.seat ≤ 30) (heven : kind = .even → 1 ≤ n)
    (hbySeat : kind = .bySeat → seatsPresent lines ≠ []) (hcustom : kind ≠ .custom) :
    (buildPlan w covers lines kind n).shareSum = (totalsOf w covers lines).total := by
  unfold Plan.shareSum
  cases kind with
  | unsplit => simp [buildPlan, freshPortions]
  | even => rw [buildPlan, freshPortions_shares (by simp [evenShares]), evenShares_sum _ (heven rfl)]
  | bySeat => rw [buildPlan, freshPortions_shares (by simp [seatShares_length]), seatShares_sum hseat (hbySeat rfl)]
  | custom => exact absurd rfl hcustom

theorem buildPlan_kind (w : Settings) (covers : Nat) (lines : List Line) (kind : PlanKind) (n : Nat) :
    (buildPlan w covers lines kind n).kind = kind := by
  cases kind <;> rfl

theorem buildPlan_state_custom (w : Settings) (covers : Nat) (lines : List Line) (n : Nat) :
    (buildPlan w covers lines .custom n).state = .draft := rfl

/-- The plan of every kind but BY_SEAT has the count asked for, NONE one portion. -/
theorem buildPlan_count_even (w : Settings) (covers : Nat) (lines : List Line) (n : Nat) :
    (buildPlan w covers lines .even n).count = n := rfl

end Sys2Proof.Machine
end

section
/-! Free numbers, the events handed to watches, and retirement. -/
namespace Sys2Proof.Machine

/-! ## Numbers that run in a cycle (01 R2, 07 R134, 08 R150) -/

theorem cycleSucc_mod {top : Nat} (h : 0 < top) (m : Nat) : cycleSucc top (m % top + 1) = (m + 1) % top + 1 := by
  have hlt := Nat.mod_lt m h
  rw [Nat.add_mod m 1 top]
  unfold cycleSucc
  by_cases hm : m % top + 1 < top
  · rw [if_pos hm, Nat.mod_eq_of_lt (a := 1) (by omega), Nat.mod_eq_of_lt hm]
  · obtain rfl | h1 : top = 1 ∨ 1 < top := by omega
    · simp [Nat.mod_one]
    · rw [if_neg hm, Nat.mod_eq_of_lt h1, show m % top + 1 = top by omega, Nat.mod_self]

/-- The numbers that follow n in the cycle, in closed form. -/
theorem cycleSucc_iterate {top n : Nat} (h1 : 1 ≤ n) (h2 : n ≤ top) (k : Nat) :
    (cycleSucc top)^[k] n = (n - 1 + k) % top + 1 := by
  induction k with
  | zero => rw [Function.iterate_zero_apply, Nat.add_zero, Nat.mod_eq_of_lt (by omega)]; omega
  | succ k ih => rw [Function.iterate_succ_apply', ih, cycleSucc_mod (by omega)]; rfl

theorem cycleSucc_iterate_range {top n : Nat} (h1 : 1 ≤ n) (h2 : n ≤ top) (k : Nat) :
    1 ≤ (cycleSucc top)^[k] n ∧ (cycleSucc top)^[k] n ≤ top := by
  rw [cycleSucc_iterate h1 h2]
  have := Nat.mod_lt (n - 1 + k) (show 0 < top by omega)
  omega

theorem cycleSucc_range {top n : Nat} (h : 1 ≤ top) : 1 ≤ cycleSucc top n ∧ cycleSucc top n ≤ top := by
  unfold cycleSucc; split <;> omega

/-- The first top numbers of the cycle are distinct. -/
theorem cycleSucc_iterate_inj {top n i j : Nat} (h1 : 1 ≤ n) (h2 : n ≤ top) (hi : i < top) (hj : j < top)
    (h : (cycleSucc top)^[i] n = (cycleSucc top)^[j] n) : i = j := by
  rw [cycleSucc_iterate h1 h2, cycleSucc_iterate h1 h2] at h
  have hmod : n - 1 + i ≡ n - 1 + j [MOD top] := Nat.succ.inj h
  exact (Nat.ModEq.add_left_cancel' _ hmod).eq_of_lt_of_lt hi hj

/-- What the search for a free number finds, looking at fuel numbers beyond those in use that it meets. -/
theorem firstFree_eq_iterate (used : List Nat) (top fuel n : Nat) :
    ∃ k ≤ fuel, firstFree used top fuel n = (cycleSucc top)^[k] n
      ∧ (∀ j < k, (cycleSucc top)^[j] n ∈ used) ∧ (k < fuel → (cycleSucc top)^[k] n ∉ used) := by
  induction fuel generalizing n with
  | zero => exact ⟨0, le_rfl, rfl, by simp, by simp⟩
  | succ fuel ih =>
    by_cases hn : n ∈ used
    · obtain ⟨k, hk, heq, hused, hfree⟩ := ih (cycleSucc top n)
      refine ⟨k + 1, by omega, by simp [firstFree, hn, heq], fun j hj => ?_, fun hlt => hfree (by omega)⟩
      cases j with
      | zero => exact hn
      | succ j => exact hused j (by omega)
    · exact ⟨0, by omega, by simp [firstFree, hn], by simp, fun _ => hn⟩

/-- Settles O38: the numbers met are distinct, so that after all those in use have been passed one is free. -/
theorem firstFreeNumber : Obligations.FirstFreeNumber := by
  intro used top n h1 h2 hlen
  obtain ⟨k, hk, heq, hused, hfree⟩ := firstFree_eq_iterate used top (used.length + 1) n
  refine ⟨k, heq, hfree ?_, hused, cycleSucc_iterate_range h1 h2 k⟩
  by_contra hlt
  have hnodup : ((List.range (used.length + 1)).map fun j => (cycleSucc top)^[j] n).Nodup := by
    refine List.Nodup.map_on (fun i hi j hj h => ?_) List.nodup_range
    rw [List.mem_range] at hi hj
    exact cycleSucc_iterate_inj h1 h2 (by omega) (by omega) h
  have hsub : ((List.range (used.length + 1)).map fun j => (cycleSucc top)^[j] n) ⊆ used := by
    intro x hx
    obtain ⟨j, hj, rfl⟩ := List.mem_map.mp hx
    exact hused j (by have := List.mem_range.mp hj; omega)
  have := (hnodup.subperm hsub).length_le
  simp at this

/-! ## Events at the watches (09 R162) -/

theorem State.recordHit_hits (s : State) (t n : Nat) (k : EventKind) :
    (s.recordHit t n k).wnu.hits = set1 s.wnu.hits t (joinHit n k (get1 s.wnu.hits t [])) := by
  show (s.recordHit t n k).wnu.hits = set1 s.wnu.hits t (joinHit n k (s.hitSet t))
  cases he : (s.hitSet t).isEmpty <;> simp [State.recordHit, he, State.setHits]

theorem State.recordHit_pushes (s : State) (t n : Nat) (k : EventKind) :
    (s.recordHit t n k).wnu.pushes
      = s.wnu.pushes ++ if (s.hitSet t).isEmpty && s.isPresent t then [.hitsReady t] else [] := by
  cases he : (s.hitSet t).isEmpty
  · simp [State.recordHit, he]
  · cases hp : s.isPresent t
    · have hq : (s.setHits t (joinHit n k (s.hitSet t))).isPresent t = false := hp
      simp [State.recordHit, he, State.raise, Push.terminal, hq]
    · have hq : (s.setHits t (joinHit n k (s.hitSet t))).isPresent t = true := hp
      simp [State.recordHit, he, State.raise, Push.terminal, hq]

/-- The hits that an event leaves depend on the watches and the hits before it alone. -/
theorem State.handEvent_hits_congr {s t : State} (hw : s.wnu.watches = t.wnu.watches) (hh : s.wnu.hits = t.wnu.hits)
    (n : Nat) (k : EventKind) : (s.handEvent n k).wnu.hits = (t.handEvent n k).wnu.hits := by
  unfold State.handEvent
  rw [hw]
  clear hw
  induction t.wnu.watches generalizing s t with
  | nil => exact hh
  | cons w ws ih =>
    simp only [List.foldl_cons]
    split
    · exact ih (by rw [recordHit_hits, recordHit_hits, hh])
    · exact ih hh

theorem State.hitSet_congr {s t : State} (h : s.wnu.hits = t.wnu.hits) (n : Nat) : s.hitSet n = t.hitSet n := by
  rw [State.hitSet, State.hitSet, h]

theorem State.isPresent_congr {s t : State} (h : s.fmp.present = t.fmp.present) (n : Nat) :
    s.isPresent n = t.isPresent n := by
  rw [State.isPresent, State.isPresent, h]

/-- The pushes that an event raises depend on the watches, the hits and the presence alone. -/
theorem State.handEvent_pushes_congr {s t : State} (hw : s.wnu.watches = t.wnu.watches) (hh : s.wnu.hits = t.wnu.hits)
    (hp : s.fmp.present = t.fmp.present) (hq : s.wnu.pushes = t.wnu.pushes) (n : Nat) (k : EventKind) :
    (s.handEvent n k).wnu.pushes = (t.handEvent n k).wnu.pushes := by
  unfold State.handEvent
  rw [hw]
  clear hw
  induction t.wnu.watches generalizing s t with
  | nil => exact hq
  | cons w ws ih =>
    simp only [List.foldl_cons]
    split
    · exact ih (by rw [recordHit_hits, recordHit_hits, hh]) (by simp [hp])
        (by rw [recordHit_pushes, recordHit_pushes, hitSet_congr hh, isPresent_congr hp, hq])
    · exact ih hh hp hq

/-! ## The tenders of a retiring check (01 R21 step 2) -/

theorem State.freeTender_tender? (s : State) (i j : Nat) :
    (s.freeTender i).tender? j = if j = i then none else s.tender? j := by
  have hpool : (s.freeTender i).tdu.pool = s.tdu.pool.set i none := by
    unfold State.freeTender; simp only; split <;> [split; skip] <;> simp
  simp only [State.tender?, hpool, List.getElem?_set]
  by_cases hij : j = i
  · subst hij; by_cases hj : j < s.tdu.pool.length <;> simp [hj]
  · simp [hij, Ne.symm hij]

theorem State.freeTender_pendingList (s : State) (i : Nat) :
    (s.freeTender i).tdu.pendingList
      = s.tdu.pendingList.filter fun j => !(decide (j = i) && (s.tender? j).any Tender.hasStatus) := by
  have hkeep : ∀ t : Nat → Bool, t i = false →
      s.tdu.pendingList = s.tdu.pendingList.filter fun j => !(decide (j = i) && t j) := by
    intro t ht
    refine (List.filter_eq_self.mpr fun j _ => ?_).symm
    by_cases hj : j = i <;> simp [hj, ht]
  unfold State.freeTender
  cases hx : s.tender? i with
  | none => exact hkeep _ (by simp [hx])
  | some x =>
    cases hs : x.hasStatus
    · simpa [hs] using hkeep (fun j => (s.tender? j).any Tender.hasStatus) (by simp [hx, hs])
    · simp only [hs, if_true, State.unlist, State.lowerCount_tdu]
      refine List.filter_congr fun j _ => ?_
      by_cases hj : j = i <;> simp [hj, hx, hs]

/-- A pending count after one that may fall (06 R120). -/
theorem State.lowerCount_pendCount (s : State) (o : Option Nat) (n : Nat) :
    (s.lowerCount o).pendCount n = s.pendCount n - if o = some n then 1 else 0 := by
  cases o with
  | none => simp [State.lowerCount]
  | some t =>
    simp only [State.lowerCount, State.pendCount, State.setPendCount, get1_set1, Option.some.injEq]
    by_cases ht : t = n
    · subst ht
      simp only [true_and, if_true]
      split
      · rfl
      next hr =>
        have : get1 s.wnu.pendCounts t 0 = 0 := by
          unfold get1
          split
          · rfl
          · rw [List.getD_eq_default _ _ (by omega)]
        omega
    · simp [ht, Ne.symm ht]

theorem State.freeTender_pendCount (s : State) (i n : Nat) :
    (s.freeTender i).pendCount n
      = s.pendCount n - if (s.tender? i).any fun x => x.hasStatus && decide (x.holder = some n) then 1 else 0 := by
  unfold State.freeTender
  cases hx : s.tender? i with
  | none => simp [State.pendCount]
  | some x =>
    cases hs : x.hasStatus
    · simp [hs, State.pendCount]
    · simp only [hs, if_true, Option.any_some, Bool.true_and, decide_eq_true_eq]
      exact State.lowerCount_pendCount { s with tdu := { s.tdu with pendingList := s.tdu.pendingList.filter (· != i) } }
        x.holder n

theorem State.freeTenders_tender? (s : State) (l : List Nat) (j : Nat) :
    (l.foldl State.freeTender s).tender? j = if j ∈ l then none else s.tender? j := by
  induction l generalizing s with
  | nil => simp
  | cons i l ih =>
    rw [List.foldl_cons, ih, freeTender_tender?]
    by_cases hj : j = i <;> simp [hj]

theorem State.freeTenders_pendingList (s : State) (l : List Nat) :
    (l.foldl State.freeTender s).tdu.pendingList
      = s.tdu.pendingList.filter fun j => !(decide (j ∈ l) && (s.tender? j).any Tender.hasStatus) := by
  induction l generalizing s with
  | nil => simp
  | cons i l ih =>
    rw [List.foldl_cons, ih, freeTender_pendingList, List.filter_filter]
    refine List.filter_congr fun j _ => ?_
    rw [freeTender_tender?]
    by_cases hj : j = i <;> simp [hj]

theorem State.freeTenders_pendCount (s : State) {l : List Nat} (hl : l.Nodup) (n : Nat) :
    (l.foldl State.freeTender s).pendCount n
      = s.pendCount n - l.countP fun i => (s.tender? i).any fun x => x.hasStatus && decide (x.holder = some n) := by
  induction l generalizing s with
  | nil => simp
  | cons i l ih =>
    obtain ⟨hi, hl'⟩ := List.nodup_cons.mp hl
    have hcongr : l.countP (fun j => ((s.freeTender i).tender? j).any fun x => x.hasStatus && decide (x.holder = some n))
        = l.countP fun j => (s.tender? j).any fun x => x.hasStatus && decide (x.holder = some n) := by
      refine List.countP_congr fun j hj => ?_
      rw [freeTender_tender?, if_neg (fun h : j = i => hi (h ▸ hj))]
    rw [List.foldl_cons, ih _ hl', hcongr, freeTender_pendCount, List.countP_cons]
    omega

/-- Freeing tenders keeps what freeing one keeps. -/
theorem State.freeTenders_keeps {γ : Type} (P : State → γ) (hP : ∀ s i, P (State.freeTender s i) = P s) (s : State)
    (l : List Nat) : P (l.foldl State.freeTender s) = P s :=
  foldl_keeps P State.freeTender hP l s

/-! ## Retirement (01 R21) -/

section
variable {s : State} {slot : Nat} {c : Check}

/-- The state in which a retiring check hands on RETIRED: its lines and tenders are returned and its slot has left the
list of its table (01 R21 steps 1 to 3). -/
def State.cleared (s : State) (slot : Nat) (c : Check) : State :=
  (c.tenders.foldl State.freeTender { s with freeLines := s.freeLines + c.lines.length }).unseat c.table slot

theorem State.retire_of_live (hc : s.check? slot = some c) :
    s.retire slot
      = let u := ((((s.cleared slot c).handEvent c.number .retired).dropWatchesOn c.number).discardApproval slot
          c.number).doneAge c.number
        { u with ckt := { u.ckt with slots := u.ckt.slots.set slot none } } := by
  simp [State.retire, hc, State.cleared]

theorem State.retire_of_free (hc : s.check? slot = none) : s.retire slot = s := by
  simp [State.retire, hc]

/-- What clearing leaves alone. -/
theorem State.cleared_keeps {γ : Type} (P : State → γ) (hlines : ∀ (s : State) n, P { s with freeLines := n } = P s)
    (hfree : ∀ s i, P (State.freeTender s i) = P s) (hseat : ∀ (s : State) n i, P (s.unseat n i) = P s) :
    P (s.cleared slot c) = P s := by
  rw [State.cleared, hseat, State.freeTenders_keeps P hfree, hlines]

theorem State.cleared_ckt : (s.cleared slot c).ckt = s.ckt :=
  State.cleared_keeps (fun s => s.ckt) (by simp) (by simp) (by simp)

theorem State.cleared_apu : (s.cleared slot c).apu = s.apu :=
  State.cleared_keeps (fun s => s.apu) (by simp) (by simp) (by simp)

theorem State.cleared_watches : (s.cleared slot c).wnu.watches = s.wnu.watches :=
  State.cleared_keeps (fun s => s.wnu.watches) (by simp) (by simp) (by simp)

theorem State.cleared_hits : (s.cleared slot c).wnu.hits = s.wnu.hits :=
  State.cleared_keeps (fun s => s.wnu.hits) (by simp) (by simp) (by simp)

theorem State.cleared_pushes : (s.cleared slot c).wnu.pushes = s.wnu.pushes :=
  State.cleared_keeps (fun s => s.wnu.pushes) (by simp) (by simp) (by simp)

theorem State.cleared_present : (s.cleared slot c).fmp.present = s.fmp.present :=
  State.cleared_keeps (fun s => s.fmp.present) (by simp) (by simp) (by simp)

theorem State.cleared_due : (s.cleared slot c).due = s.due :=
  State.cleared_keeps (fun s => s.due) (by simp) (by simp) (by simp)

theorem State.cleared_freeLines : (s.cleared slot c).freeLines = s.freeLines + c.lines.length := by
  rw [State.cleared, State.unseat_freeLines, State.freeTenders_keeps (fun s => s.freeLines) (by simp)]

theorem State.cleared_fmp :
    (s.cleared slot c).fmp = { s.fmp with lists := mod1 s.fmp.lists c.table (List.filter (· != slot)) } := by
  simp only [State.cleared, State.unseat, State.freeTenders_keeps (fun s => s.fmp) (by simp)]

theorem State.cleared_tender? (i : Nat) :
    (s.cleared slot c).tender? i = if i ∈ c.tenders then none else s.tender? i := by
  rw [State.cleared, State.unseat_tender?, State.freeTenders_tender?]
  rfl

theorem State.cleared_pendingList :
    (s.cleared slot c).tdu.pendingList
      = s.tdu.pendingList.filter fun i => !(decide (i ∈ c.tenders) && (s.tender? i).any Tender.hasStatus) := by
  rw [State.cleared, State.unseat_tdu, State.freeTenders_pendingList]
  rfl

theorem State.cleared_pendCount (hl : c.tenders.Nodup) (n : Nat) :
    (s.cleared slot c).pendCount n = s.pendCount n
      - c.tenders.countP fun i => (s.tender? i).any fun x => x.hasStatus && decide (x.holder = some n) :=
  State.freeTenders_pendCount { s with freeLines := s.freeLines + c.lines.length } hl n

/-- The events of a retirement go to the watches as they stand before it. -/
theorem State.cleared_handEvent_hits (n : Nat) (k : EventKind) :
    ((s.cleared slot c).handEvent n k).wnu.hits = (s.handEvent n k).wnu.hits :=
  State.handEvent_hits_congr State.cleared_watches State.cleared_hits n k

theorem State.cleared_handEvent_pushes (n : Nat) (k : EventKind) :
    ((s.cleared slot c).handEvent n k).wnu.pushes = (s.handEvent n k).wnu.pushes :=
  State.handEvent_pushes_congr State.cleared_watches State.cleared_hits State.cleared_present State.cleared_pushes n k

theorem State.discardApproval_table (s : State) (slot n : Nat) :
    (s.discardApproval slot n).apu.table = match s.approvalOf slot with
      | none => s.apu.table
      | some a => s.apu.table.filter fun b => b.number != a.number := by
  unfold State.discardApproval
  cases s.approvalOf slot <;> simp [State.dropApproval]

/-- APPROVAL_DONE of a discarded record goes to its requester, when that is PRESENT (08 R155, 09 R165). -/
theorem State.discardApproval_pushes (s : State) (slot n : Nat) :
    (s.discardApproval slot n).wnu.pushes = s.wnu.pushes ++ match s.approvalOf slot with
      | none => []
      | some a => match a.requester with
        | none => []
        | some t => if s.isPresent t = true then [.approvalDone t a.number n a.change.toNat 19] else [] := by
  unfold State.discardApproval
  cases s.approvalOf slot with
  | none => simp
  | some a =>
    cases ha : a.requester with
    | none => simp [State.announceEnding, ha]
    | some t =>
      have hp : (s.dropApproval a).isPresent t = s.isPresent t := rfl
      cases hq : s.isPresent t <;> simp [State.announceEnding, ha, State.raise, Push.terminal, hp, hq]

theorem State.approvalOf_congr {s t : State} (h : s.apu = t.apu) (slot : Nat) :
    s.approvalOf slot = t.approvalOf slot := by
  rw [State.approvalOf, State.approvalOf, h]

theorem State.set_none_check? (s : State) (slot j : Nat) :
    ({ s with ckt := { s.ckt with slots := s.ckt.slots.set slot none } } : State).check? j
      = if j = slot then none else s.check? j := by
  simp only [State.check?, List.getElem?_set]
  by_cases hj : j = slot
  · subst hj; by_cases hlt : j < s.ckt.slots.length <;> simp [hlt]
  · simp [hj, Ne.symm hj]

/-- Retirement frees the slot and leaves every other (01 R21 step 7). -/
theorem State.retire_check? (hc : s.check? slot = some c) (j : Nat) :
    (s.retire slot).check? j = if j = slot then none else s.check? j := by
  rw [State.retire_of_live hc]
  simp only
  rw [State.set_none_check?]
  simp [State.check?, State.cleared_ckt]

theorem State.retire_slots (hc : s.check? slot = some c) :
    (s.retire slot).ckt.slots = s.ckt.slots.set slot none := by
  rw [State.retire_of_live hc]
  simp [State.cleared_ckt]

/-- Retirement takes the slot off the list of the check's table (01 R21 step 3). -/
theorem State.retire_fmp (hc : s.check? slot = some c) :
    (s.retire slot).fmp = { s.fmp with lists := mod1 s.fmp.lists c.table (List.filter (· != slot)) } := by
  rw [State.retire_of_live hc]
  simp [State.cleared_fmp]

/-- Retirement ends the approval record of the check (01 R21 step 6). -/
theorem State.retire_table (hc : s.check? slot = some c) :
    (s.retire slot).apu.table = match s.approvalOf slot with
      | none => s.apu.table
      | some a => s.apu.table.filter fun b => b.number != a.number := by
  have happrovals : (((s.cleared slot c).handEvent c.number .retired).dropWatchesOn c.number).apu = s.apu := by
    simp [State.cleared_apu]
  rw [State.retire_of_live hc]
  simp only [State.doneAge_apu]
  rw [State.discardApproval_table, State.approvalOf_congr happrovals, happrovals]

theorem State.retire_pushes (hc : s.check? slot = some c) :
    (s.retire slot).wnu.pushes = (s.handEvent c.number .retired).wnu.pushes ++ match s.approvalOf slot with
      | none => []
      | some a => match a.requester with
        | none => []
        | some t => if s.isPresent t = true then [.approvalDone t a.number c.number a.change.toNat 19] else [] := by
  have happrovals : (((s.cleared slot c).handEvent c.number .retired).dropWatchesOn c.number).apu = s.apu := by
    simp [State.cleared_apu]
  have hpresent : ∀ t, (((s.cleared slot c).handEvent c.number .retired).dropWatchesOn c.number).isPresent t
      = s.isPresent t := State.isPresent_congr (by simp [State.cleared_present])
  rw [State.retire_of_live hc]
  simp only [State.doneAge_wnu]
  rw [State.discardApproval_pushes, State.approvalOf_congr happrovals, State.dropWatchesOn_wnu_pushes,
    State.cleared_handEvent_pushes]
  simp only [hpresent]

theorem State.retire_tender? (hc : s.check? slot = some c) (i : Nat) :
    (s.retire slot).tender? i = if i ∈ c.tenders then none else s.tender? i := by
  rw [State.retire_of_live hc, ← State.cleared_tender? (slot := slot)]
  simp [State.tender?]

end

/-- Settles O39, by the steps of R21 in order. -/
theorem retirementEffects : Obligations.RetirementEffects := by
  intro s slot c hc
  refine ⟨by simp [State.retire_check? hc], fun j hj => by simp [State.retire_check? hc, hj], by simp, ?_,
    State.retire_tender? hc, ?_, State.retire_fmp hc, ?_, ?_, State.retire_table hc, fun hl n _ => ?_,
    State.retire_pushes hc, ?_, by simp, by simp, by simp⟩
  · rw [State.retire_of_live hc]; simp [State.cleared_freeLines]
  · rw [State.retire_of_live hc]; simp [State.cleared_pendingList]
  · rw [State.retire_of_live hc]; simp [State.cleared_handEvent_hits]
  · rw [State.retire_of_live hc]; simp [State.dropWatchesOn, State.cleared_watches]
  · rw [State.retire_of_live hc, ← State.cleared_pendCount (slot := slot) hl]
    simp [State.pendCount]
  · rw [State.retire_of_live hc]; simp [State.doneAge, State.cleared_due]

end Sys2Proof.Machine
end

section
/-! What a command can do to the checks: every command is a sequence of moves, and each invariant of the checks is kept by
every move. -/
namespace Sys2Proof.Machine

/-! ## One check -/

/-- A line has a seat and a tax class in range (03 R44). -/
def Line.InRange (l : Line) : Prop := l.seat ≤ 30 ∧ l.cls ∈ taxClasses

/-- What TalliesHold says of one check (01 R6, 04 R62, R64). -/
structure Check.Tallied (w : Settings) (c : Check) : Prop where
  totals : c.totals = totalsOf w c.covers c.lines
  inRange : c.totals.total ≤ Config.maxAmount
  lines : ∀ l ∈ c.lines, l.InRange
  even : c.plan.kind = .even → 1 ≤ c.plan.count
  shares : c.plan.state = .locked → c.plan.shareSum = c.totals.total

/-- A check as a command may leave it: under its number, at its table, its version and figures in order if they were. -/
structure Check.Follows (w : Settings) (c c' : Check) : Prop where
  number : c'.number = c.number
  table : c'.table = c.table
  version : c.version ≤ Config.maxVersion → c'.version ≤ Config.maxVersion
  tallied : c.Tallied w → c'.Tallied w

theorem Check.Follows.refl (w : Settings) (c : Check) : c.Follows w c := ⟨rfl, rfl, id, id⟩

theorem Check.Follows.trans {w : Settings} {a b c : Check} (hab : a.Follows w b) (hbc : b.Follows w c) :
    a.Follows w c :=
  ⟨hbc.number.trans hab.number, hbc.table.trans hab.table, hbc.version ∘ hab.version, hbc.tallied ∘ hab.tallied⟩

/-- A step of the version never leaves its range (01 R4). -/
theorem nextVersion_le (v : Nat) : nextVersion v ≤ Config.maxVersion := by
  unfold nextVersion; split <;> omega

/-- What the figures of a check are computed from, and the figures, but for the shares of its plan. -/
def Check.figures (c : Check) : Nat × Nat × Nat × List Line × Totals × PlanKind × Nat × PlanState :=
  (c.number, c.table, c.covers, c.lines, c.totals, c.plan.kind, c.plan.count, c.plan.state)

/-- A check whose lines, covers, totals and shares are those it had. -/
structure Check.SameFigures (c c' : Check) : Prop where
  figures : c'.figures = c.figures
  shares : c'.plan.portions.map Portion.share = c.plan.portions.map Portion.share
  version : c'.version = c.version ∨ c'.version = nextVersion c.version

theorem Check.SameFigures.follows {c c' : Check} (h : c.SameFigures c') (w : Settings) : c.Follows w c' := by
  have hfigures := h.figures
  simp only [Check.figures, Prod.mk.injEq] at hfigures
  obtain ⟨hnumber, htable, hcovers, hlines', htotals', hkind, hcount, hlocked⟩ := hfigures
  refine ⟨hnumber, htable, fun hv => ?_, fun ht => ?_⟩
  · rcases h.version with he | he <;> rw [he]
    exacts [hv, nextVersion_le _]
  · obtain ⟨htotals, hmax, hlines, heven, hshares⟩ := ht
    constructor
    · rw [htotals', hcovers, hlines', htotals]
    · rw [htotals']; exact hmax
    · rw [hlines']; exact hlines
    · rw [hkind, hcount]; exact heven
    · rw [hlocked, htotals', Plan.shareSum, h.shares]; exact hshares

theorem Check.stepVersion_sameFigures (c : Check) : c.SameFigures c.stepVersion := ⟨rfl, rfl, .inr rfl⟩

/-- What new covers or lines leave alone on a check. -/
def Check.heading (c : Check) : Nat × Nat × Nat × Plan × Totals := (c.number, c.table, c.version, c.plan, c.totals)

/-- A check with new covers or lines, before its figures are computed. -/
structure Check.Relined (c c' : Check) : Prop where
  heading : c'.heading = c.heading
  lines : (∀ l ∈ c.lines, l.InRange) → ∀ l ∈ c'.lines, l.InRange

/-- What a recomputation that succeeds gives (04 R62, R66, R71). -/
theorem recompute_eq_ok {w : Settings} {c c' : Check} (h : recompute w c = .ok c') :
    (totalsOf w c.covers c.lines).total ≤ Config.maxAmount
    ∧ (c.plan.kind = .bySeat → seatsPresent c.lines ≠ [])
    ∧ c' = { c with totals := totalsOf w c.covers c.lines
                    plan := rebuiltPlan w c (totalsOf w c.covers c.lines).total } := by
  simp only [recompute] at h
  split at h
  · simp at h
  next hmax =>
    split at h
    · simp at h
    next hseats =>
      refine ⟨Nat.le_of_not_lt hmax, fun hk he => hseats ⟨hk, ?_⟩, (Tally.ok.inj h).symm⟩
      simp [he, badSeatCount]

/-- A plan that a recomputation leaves LOCKED has shares that sum to the new total (04 R64, R71). -/
theorem rebuiltPlan_shareSum {w : Settings} {c : Check} (hlines : ∀ l ∈ c.lines, l.InRange)
    (heven : c.plan.kind = .even → 1 ≤ c.plan.count) (hseats : c.plan.kind = .bySeat → seatsPresent c.lines ≠ [])
    (hold : c.plan.state = .locked → c.plan.shareSum = c.totals.total)
    (hlocked : (rebuiltPlan w c (totalsOf w c.covers c.lines).total).state = .locked) :
    (rebuiltPlan w c (totalsOf w c.covers c.lines).total).shareSum = (totalsOf w c.covers c.lines).total := by
  have hbuilt : c.plan.kind ≠ .custom →
      (buildPlan w c.covers c.lines c.plan.kind c.plan.count).shareSum = (totalsOf w c.covers c.lines).total :=
    fun hne => buildPlan_shareSum w c.covers (fun l hl _ => (hlines l hl).1) heven hseats hne
  unfold rebuiltPlan at hlocked ⊢
  cases hk : c.plan.kind with
  | custom =>
    simp only [hk] at hlocked ⊢
    split at hlocked
    next heq => rw [if_pos heq, hold hlocked, heq]
    · simp at hlocked
  | unsplit | even | bySeat => simpa only [hk] using hbuilt (by simp [hk])

theorem rebuiltPlan_kind (w : Settings) (c : Check) (total : Nat) : (rebuiltPlan w c total).kind = c.plan.kind := by
  unfold rebuiltPlan
  cases hk : c.plan.kind with
  | custom => simp only; split <;> exact hk
  | unsplit | even | bySeat => rfl

theorem rebuiltPlan_count_even (w : Settings) {c : Check} (total : Nat) (hk : c.plan.kind = .even) :
    (rebuiltPlan w c total).count = c.plan.count := by
  unfold rebuiltPlan; rw [hk]; rfl

/-- A recomputation puts the figures of a check in order again. -/
theorem Check.Relined.follows_recompute {w : Settings} {c c₁ c₂ : Check} (h : c.Relined c₁)
    (hok : recompute w c₁ = .ok c₂) : c.Follows w c₂ := by
  obtain ⟨hmax, hseats, rfl⟩ := recompute_eq_ok hok
  have hheading := h.heading
  simp only [Check.heading, Prod.mk.injEq] at hheading
  obtain ⟨hnumber, htable, hversion, hplan, htotals⟩ := hheading
  refine ⟨hnumber, htable, fun hv => hversion ▸ hv, fun ht => ⟨rfl, hmax, h.lines ht.lines, fun hk => ?_, fun hl => ?_⟩⟩
  · have hk₁ : c₁.plan.kind = .even := (rebuiltPlan_kind w c₁ _).symm.trans hk
    show 1 ≤ (rebuiltPlan w c₁ _).count
    rw [rebuiltPlan_count_even w _ hk₁, hplan]
    exact ht.even (hplan ▸ hk₁)
  · refine rebuiltPlan_shareSum (h.lines ht.lines) (fun hk => ?_) hseats ?_ hl
    · rw [hplan] at hk ⊢; exact ht.even hk
    · rw [hplan, htotals]; exact ht.shares

/-! ## All checks -/

/-- A live check is one that stands in some slot. -/
theorem State.mem_liveChecks {s : State} {c : Check} : c ∈ s.liveChecks ↔ ∃ i, s.check? i = some c := by
  rw [State.liveChecks, List.mem_filterMap]
  simp only [id_eq, exists_eq_right, List.mem_iff_getElem?, State.check?, Option.join_eq_some_iff]

/-- No check is live when every slot is free. -/
theorem State.check?_of_not_anyLive {s : State} (h : s.anyLive = false) (i : Nat) : s.check? i = none := by
  cases hc : s.check? i with
  | none => rfl
  | some c =>
    have hmem : some c ∈ s.ckt.slots := by
      rw [State.check?, Option.join_eq_some_iff] at hc
      exact List.mem_iff_getElem?.mpr ⟨i, hc⟩
    have := List.any_eq_false.mp h _ hmem
    simp at this

/-- A command that leaves the table of checks in place: slot by slot the same checks, each as it may follow. -/
structure Steady (s t : State) : Prop where
  length : t.ckt.slots.length = s.ckt.slots.length
  nextNumber : t.ckt.nextNumber = s.ckt.nextNumber
  lists : t.fmp.lists = s.fmp.lists
  work : t.sst.work = s.sst.work
  changes : ∀ b ∈ t.apu.table, ∃ a ∈ s.apu.table, a.change = b.change
  checks : ∀ i, Option.Rel (Check.Follows s.sst.work) (s.check? i) (t.check? i)

theorem Option.Rel.refl_of {α : Type} {r : α → α → Prop} (h : ∀ a, r a a) : ∀ o, Option.Rel r o o
  | none => .none
  | some a => .some (h a)

theorem Option.Rel.trans_of {α : Type} {r : α → α → Prop} (h : ∀ a b c, r a b → r b c → r a c) {x y z : Option α}
    (hxy : Option.Rel r x y) (hyz : Option.Rel r y z) : Option.Rel r x z := by
  cases hxy with
  | none => exact hyz
  | some hab => cases hyz with
    | some hbc => exact .some (h _ _ _ hab hbc)

theorem Steady.trans {s t u : State} (hst : Steady s t) (htu : Steady t u) : Steady s u where
  length := htu.length.trans hst.length
  nextNumber := htu.nextNumber.trans hst.nextNumber
  lists := htu.lists.trans hst.lists
  work := htu.work.trans hst.work
  changes b hb := by
    obtain ⟨a, ha, hab⟩ := htu.changes b hb
    obtain ⟨a', ha', haa⟩ := hst.changes a ha
    exact ⟨a', ha', haa.trans hab⟩
  checks i := Option.Rel.trans_of (r := Check.Follows s.sst.work) (fun _ _ _ => Check.Follows.trans) (hst.checks i)
    (hst.work ▸ htu.checks i)

/-- A command that leaves the checks, their lists, the approval records and the working copy alone. -/
theorem Steady.of_eq {s t : State}
    (h : t.ckt = s.ckt ∧ t.fmp.lists = s.fmp.lists ∧ t.sst.work = s.sst.work ∧ t.apu.table = s.apu.table) :
    Steady s t := by
  obtain ⟨hckt, hlists, hwork, htable⟩ := h
  refine ⟨by rw [hckt], by rw [hckt], hlists, hwork, fun b hb => ⟨b, htable ▸ hb, rfl⟩, fun i => ?_⟩
  have : t.check? i = s.check? i := by rw [State.check?, State.check?, hckt]
  rw [this]
  exact Option.Rel.refl_of (Check.Follows.refl _) _

theorem Steady.refl (s : State) : Steady s s := .of_eq ⟨rfl, rfl, rfl, rfl⟩

/-- A change of one check that it may follow. -/
theorem Steady.modCheck {s : State} {i : Nat} {f : Check → Check}
    (h : ∀ c, s.check? i = some c → c.Follows s.sst.work (f c)) : Steady s (s.modCheck i f) where
  length := by simp [State.modCheck]
  nextNumber := rfl
  lists := rfl
  work := rfl
  changes b hb := ⟨b, hb, rfl⟩
  checks j := by
    rw [State.modCheck_check?]
    by_cases hij : i = j
    · subst hij
      rw [if_pos rfl]
      cases hc : s.check? i with
      | none => exact .none
      | some c => exact .some (h c hc)
    · rw [if_neg hij]
      exact Option.Rel.refl_of (Check.Follows.refl _) _

/-- A change of one check that leaves its figures alone. -/
theorem Steady.modSame {s : State} {i : Nat} {f : Check → Check} (h : ∀ c : Check, c.SameFigures (f c)) :
    Steady s (s.modCheck i f) :=
  .modCheck fun c _ => (h c).follows _

/-- A fold of steady changes is steady. -/
theorem Steady.foldl {α : Type} {f : State → α → State} (h : ∀ s a, Steady s (f s a)) (l : List α) (s : State) :
    Steady s (l.foldl f s) := by
  induction l generalizing s with
  | nil => exact .refl s
  | cons a l ih => exact (h s a).trans (ih _)

/-! ## Moves -/

/-- Every parked transfer names a table of the floor, or none. -/
def ChangesInRange (s : State) : Prop :=
  ∀ a ∈ s.apu.table, ∀ table owner, a.change = .transferCheck table owner → table ≤ Config.tableCount

/-- The things a command can do to the table of checks. -/
inductive Move : State → State → Prop
  /-- The checks stay where they are. -/
  | steady {s t : State} (h : Steady s t) : Move s t
  /-- OPEN CHECK places a new check (01 R11). -/
  | place {s : State} {slot table covers owner day minute : Nat} (hslot : s.freeSlot = some slot)
      (htable : tableExists table = true) (hroom : s.tableFull table = false) :
      Move s (s.placeCheck slot (newCheck s.freeNumber table covers owner day minute))
  /-- A check retires (01 R21). -/
  | retire {s : State} (slot : Nat) : Move s (s.retire slot)
  /-- A check is transferred, to a table that the request or a parked change names (01 R15). -/
  | transfer {s : State} {slot table owner : Nat} {c : Check} (hc : s.check? slot = some c)
      (hmove : movesTable c table = true →
        (ChangesInRange s → table ≤ Config.tableCount) ∧ s.tableFull table = false) :
      Move s (s.moveCheck slot c table owner)
  /-- A change is parked (08 R150). -/
  | park {s t : State} (a : Approval) (hckt : t.ckt = s.ckt) (hlists : t.fmp.lists = s.fmp.lists)
      (hwork : t.sst.work = s.sst.work) (htable : t.apu.table = s.apu.table ++ [a])
      (hchange : ∀ table owner, a.change = .transferCheck table owner → table ≤ Config.tableCount) : Move s t
  /-- The working copy changes: in no setting that a total rests on, or while no check is live (11 R189, R193). -/
  | settings {s t : State} (hckt : t.ckt = s.ckt) (hlists : t.fmp.lists = s.fmp.lists)
      (htable : t.apu.table = s.apu.table)
      (hvalues : (∀ n ≤ 11, t.sst.work.value n = s.sst.work.value n) ∨ s.anyLive = false) : Move s t
  /-- Retained memory is cleared (11 R197). -/
  | clear {s t : State} (hckt : t.ckt = State.reset.ckt) (hlists : t.fmp.lists = State.reset.fmp.lists)
      (happrovals : t.apu = State.reset.apu) : Move s t

/-- A sequence of moves. -/
abbrev Moves : State → State → Prop := Relation.ReflTransGen Move

theorem Steady.moves {s t : State} (h : Steady s t) : Moves s t := .single (.steady h)

/-- An operation that leaves the checks, their lists, the approval records and the working copy alone is no move. -/
theorem Moves.of_eq {s t : State}
    (h : t.ckt = s.ckt ∧ t.fmp.lists = s.fmp.lists ∧ t.sst.work = s.sst.work ∧ t.apu.table = s.apu.table) :
    Moves s t := (Steady.of_eq h).moves

/-- What every move keeps, every sequence of moves keeps. -/
theorem Moves.keeps {P : State → Prop} (hP : ∀ s t, Move s t → P s → P t) {s t : State} (h : Moves s t) (hs : P s) :
    P t := by
  induction h with
  | refl => exact hs
  | tail _ hmove ih => exact hP _ _ hmove ih

/-! ## What the moves do to the slots -/

theorem Steady.check? {s t : State} (h : Steady s t) {i : Nat} {c' : Check} (hc : t.check? i = some c') :
    ∃ c, s.check? i = some c ∧ c.Follows s.sst.work c' := by
  have hrel := h.checks i
  rw [hc] at hrel
  cases hsc : s.check? i with
  | none => rw [hsc] at hrel; cases hrel
  | some c => rw [hsc] at hrel; cases hrel with | some hf => exact ⟨c, rfl, hf⟩

theorem Steady.check?_of {s t : State} (h : Steady s t) {i : Nat} {c : Check} (hc : s.check? i = some c) :
    ∃ c', t.check? i = some c' ∧ c.Follows s.sst.work c' := by
  have hrel := h.checks i
  rw [hc] at hrel
  cases htc : t.check? i with
  | none => rw [htc] at hrel; cases hrel
  | some c' => rw [htc] at hrel; cases hrel with | some hf => exact ⟨c', rfl, hf⟩

theorem State.check?_congr {s t : State} (h : t.ckt = s.ckt) (i : Nat) : t.check? i = s.check? i := by
  rw [State.check?, State.check?, h]

theorem State.freeSlot_spec {s : State} {slot : Nat} (h : s.freeSlot = some slot) :
    slot < s.ckt.slots.length ∧ s.check? slot = none := by
  unfold State.freeSlot at h
  rw [List.findIdx?_eq_some_iff_getElem] at h
  obtain ⟨hlt, hnone, -⟩ := h
  refine ⟨hlt, ?_⟩
  rw [State.check?, List.getElem?_eq_getElem hlt, Option.join_some]
  exact Option.isNone_iff_eq_none.mp hnone

theorem State.placeCheck_check? {s : State} {slot : Nat} (h : slot < s.ckt.slots.length) (c : Check) (i : Nat) :
    (s.placeCheck slot c).check? i = if i = slot then some c else s.check? i := by
  rw [State.placeCheck, State.seatAt_check?]
  simp only [State.check?, List.getElem?_set]
  by_cases hi : i = slot
  · subst hi; simp [h]
  · simp [hi, Ne.symm hi]

/-- The check that a transfer leaves. -/
def Check.moved (c : Check) (table owner : Nat) : Check :=
  { c with table := if movesTable c table then table else c.table
           owner := if changesOwner c owner then owner else c.owner }

theorem State.moveCheck_check? {s : State} {slot : Nat} {c : Check} (hc : s.check? slot = some c) (table owner i : Nat) :
    (s.moveCheck slot c table owner).check? i = if i = slot then some (c.moved table owner) else s.check? i := by
  simp only [State.moveCheck, State.modCheck_check?]
  by_cases hi : i = slot
  · subst hi
    by_cases hm : movesTable c table = true <;> simp [hm, hc, Check.moved]
  · by_cases hm : movesTable c table = true <;> simp [hm, hi, Ne.symm hi]

theorem State.reset_check? (i : Nat) : State.reset.check? i = none := by
  by_cases hi : i < Config.slotCount <;> simp [State.check?, State.reset, hi]

/-! ## Figures -/

/-- TalliesHold speaks of each check by itself. -/
theorem talliesHold_iff {s : State} :
    TalliesHold s ↔ ∀ i c, s.check? i = some c → c.Tallied s.sst.work := by
  constructor
  · intro h i c hc
    obtain ⟨h1, h2, h3, h4, h5⟩ := h c (State.mem_liveChecks.mpr ⟨i, hc⟩)
    exact ⟨h1, h2, h3, h4, h5⟩
  · intro h c hc
    obtain ⟨i, hi⟩ := State.mem_liveChecks.mp hc
    obtain ⟨h1, h2, h3, h4, h5⟩ := h i c hi
    exact ⟨h1, h2, h3, h4, h5⟩

/-- Totals rest on the settings 1 to 11 alone. -/
theorem totalsOf_congr {w v : Settings} (h : ∀ n ≤ 11, w.value n = v.value n) (covers : Nat) (lines : List Line) :
    totalsOf w covers lines = totalsOf v covers lines := by
  have htax : ∀ cls ∈ taxClasses, classTax w lines cls = classTax v lines cls := by
    intro cls hcls
    have hle : cls ≤ 11 := by simp only [taxClasses, List.mem_cons, List.not_mem_nil, or_false] at hcls; omega
    rw [classTax, classTax, h 9 (by omega), h cls hle]
  have hservice : serviceOf w covers lines = serviceOf v covers lines := by
    simp only [serviceOf, h 9 (by omega), h 10 (by omega), h 11 (by omega)]
  simp only [totalsOf, List.map_congr_left htax, hservice]

theorem Check.Tallied.congr {w v : Settings} (h : ∀ n ≤ 11, v.value n = w.value n) {c : Check} (hc : c.Tallied w) :
    c.Tallied v :=
  { hc with totals := hc.totals.trans (totalsOf_congr h c.covers c.lines).symm }

/-- A new check has nothing to pay (01 R11). -/
theorem newCheck_tallied (w : Settings) (number table covers owner day minute : Nat) :
    (newCheck number table covers owner day minute).Tallied w where
  totals := by
    simp [newCheck, totalsOf, subtotalOf, classBase, classTax, serviceOf, taxClasses]
  inRange := Nat.zero_le _
  lines := by simp [newCheck]
  even := by simp [newCheck]
  shares := fun _ => rfl

theorem Check.moved_sameFigures_figures {w : Settings} {c : Check} (table owner : Nat) (h : c.Tallied w) :
    (c.moved table owner).Tallied w :=
  ⟨h.totals, h.inRange, h.lines, h.even, h.shares⟩

/-- Every move keeps the figures of every check in order. -/
theorem Move.talliesHold {s t : State} (h : Move s t) (hs : TalliesHold s) : TalliesHold t := by
  rw [talliesHold_iff] at hs ⊢
  intro i c hc
  cases h with
  | steady h =>
    obtain ⟨b, hb, hf⟩ := h.check? hc
    rw [h.work]
    exact hf.tallied (hs i b hb)
  | place hslot htable hroom =>
    rw [State.placeCheck_check? (State.freeSlot_spec hslot).1] at hc
    split at hc
    · obtain rfl := Option.some.inj hc; exact newCheck_tallied _ _ _ _ _ _ _
    · rw [State.placeCheck_sst]; exact hs i c hc
  | retire slot =>
    rw [State.retire_sst]
    cases hlive : s.check? slot with
    | none => rw [State.retire_of_free hlive] at hc; exact hs i c hc
    | some b =>
      rw [State.retire_check? hlive] at hc
      split at hc
      · simp at hc
      · exact hs i c hc
  | transfer hb hmove =>
    rw [State.moveCheck_check? hb] at hc
    rw [State.moveCheck_sst]
    split at hc
    · obtain rfl := Option.some.inj hc
      exact Check.moved_sameFigures_figures _ _ (hs _ _ hb)
    · exact hs i c hc
  | park a hckt hlists hwork htable hchange =>
    rw [State.check?_congr hckt] at hc
    rw [hwork]
    exact hs i c hc
  | settings hckt hlists htable hvalues =>
    rw [State.check?_congr hckt] at hc
    rcases hvalues with hvalues | hnone
    · exact (hs i c hc).congr hvalues
    · rw [State.check?_of_not_anyLive hnone] at hc; simp at hc
  | clear hckt hlists happrovals =>
    rw [State.check?_congr hckt, State.reset_check?] at hc
    simp at hc

/-! ## Versions -/

/-- The versions of the live checks are in range (01 R4). -/
def VersionsInRange (s : State) : Prop := ∀ i c, s.check? i = some c → c.version ≤ Config.maxVersion

theorem versionsInRange_iff {s : State} : VersionsInRange s ↔ ∀ c ∈ s.liveChecks, c.version ≤ Config.maxVersion := by
  constructor
  · intro h c hc
    obtain ⟨i, hi⟩ := State.mem_liveChecks.mp hc
    exact h i c hi
  · exact fun h i c hc => h c (State.mem_liveChecks.mpr ⟨i, hc⟩)

theorem Move.versionsInRange {s t : State} (h : Move s t) (hs : VersionsInRange s) : VersionsInRange t := by
  intro i c hc
  cases h with
  | steady h =>
    obtain ⟨b, hb, hf⟩ := h.check? hc
    exact hf.version (hs i b hb)
  | place hslot htable hroom =>
    rw [State.placeCheck_check? (State.freeSlot_spec hslot).1] at hc
    split at hc
    · obtain rfl := Option.some.inj hc; exact Nat.zero_le _
    · exact hs i c hc
  | retire slot =>
    cases hlive : s.check? slot with
    | none => rw [State.retire_of_free hlive] at hc; exact hs i c hc
    | some b =>
      rw [State.retire_check? hlive] at hc
      split at hc
      · simp at hc
      · exact hs i c hc
  | transfer hb hmove =>
    rw [State.moveCheck_check? hb] at hc
    split at hc
    · obtain rfl := Option.some.inj hc
      exact (hs _ _ hb :)
    · exact hs i c hc
  | park a hckt hlists hwork htable hchange => exact hs i c (State.check?_congr hckt i ▸ hc)
  | settings hckt hlists htable hvalues => exact hs i c (State.check?_congr hckt i ▸ hc)
  | clear hckt hlists happrovals =>
    rw [State.check?_congr hckt, State.reset_check?] at hc
    simp at hc

/-! ## Numbers, tables and lists -/

/-- The entries of a list of records that are in use, under a key: distinct exactly when no two places share a key. -/
theorem nodup_filterMap_map_iff {α β : Type} (l : List (Option α)) (f : α → β) :
    ((l.filterMap id).map f).Nodup
      ↔ ∀ (i j : Nat) (a b : α), l[i]?.join = some a → l[j]?.join = some b → f a = f b → i = j := by
  induction l with
  | nil => simp
  | cons o l ih =>
    cases o with
    | none =>
      rw [List.filterMap_cons_none rfl, ih]
      constructor
      · intro h i j a b ha hb hab
        cases i with
        | zero => simp at ha
        | succ i => cases j with
          | zero => simp at hb
          | succ j => rw [h i j a b (by simpa using ha) (by simpa using hb) hab]
      · exact fun h i j a b ha hb hab => Nat.succ.inj (h (i + 1) (j + 1) a b (by simpa using ha) (by simpa using hb) hab)
    | some x =>
      rw [List.filterMap_cons_some (f := id) (b := x) rfl, List.map_cons, List.nodup_cons, ih]
      constructor
      · rintro ⟨hx, h⟩ i j a b ha hb hab
        have hmem : ∀ (k : Nat) (c : α), l[k]?.join = some c → f c ∈ (l.filterMap id).map f := by
          intro k c hk
          rw [Option.join_eq_some_iff] at hk
          exact List.mem_map_of_mem (List.mem_filterMap.mpr ⟨some c, List.mem_of_getElem? hk, rfl⟩)
        cases i with
        | zero => cases j with
          | zero => rfl
          | succ j =>
            obtain rfl : x = a := by simpa using ha
            exact absurd (hab ▸ hmem j b (by simpa using hb)) hx
        | succ i => cases j with
          | zero =>
            obtain rfl : x = b := by simpa using hb
            exact absurd (hab ▸ hmem i a (by simpa using ha)) hx
          | succ j => rw [h i j a b (by simpa using ha) (by simpa using hb) hab]
      · intro h
        refine ⟨fun hx => ?_, fun i j a b ha hb hab =>
          Nat.succ.inj (h (i + 1) (j + 1) a b (by simpa using ha) (by simpa using hb) hab)⟩
        obtain ⟨y, hy, hyx⟩ := List.mem_map.mp hx
        obtain ⟨o, ho, hoy⟩ := List.mem_filterMap.mp hy
        obtain ⟨k, hk⟩ := List.mem_iff_getElem?.mp ho
        have := h 0 (k + 1) x y (by simp) (by simp [hk, show o = some y from hoy]) hyx.symm
        simp at this

/-- What ChecksSeated says of the state, slot by slot (01 R1, R2; 02 R25). -/
structure Seated (s : State) : Prop where
  length : s.ckt.slots.length = Config.slotCount
  nextNumber : 1 ≤ s.ckt.nextNumber ∧ s.ckt.nextNumber ≤ Config.maxCheckNumber
  distinct : ∀ i j c d, s.check? i = some c → s.check? j = some d → c.number = d.number → i = j
  number : ∀ i c, s.check? i = some c → 1 ≤ c.number ∧ c.number ≤ Config.maxCheckNumber
  table : ∀ i c, s.check? i = some c → tableExists c.table = true
  tables : s.fmp.lists.length = Config.tableCount
  nodup : ∀ table, (s.tableList table).Nodup
  room : ∀ table, (s.tableList table).length ≤ Config.tableListMax
  seated : ∀ table slot, slot ∈ s.tableList table ↔ ∃ c, s.check? slot = some c ∧ c.table = table
  changes : ChangesInRange s

theorem checksSeated_iff {s : State} : ChecksSeated s ↔ Seated s := by
  have hdistinct : (s.liveChecks.map Check.number).Nodup
      ↔ ∀ i j c d, s.check? i = some c → s.check? j = some d → c.number = d.number → i = j :=
    nodup_filterMap_map_iff s.ckt.slots Check.number
  constructor
  · rintro ⟨⟨hlen, hn1, hn2⟩, ⟨hnodup, hlive⟩, htables, hlists, hchanges⟩
    have hlive' : ∀ i c, s.check? i = some c → _ := fun i c hc => hlive c (State.mem_liveChecks.mpr ⟨i, hc⟩)
    exact ⟨hlen, ⟨hn1, hn2⟩, hdistinct.mp hnodup, fun i c hc => ⟨(hlive' i c hc).1, (hlive' i c hc).2.1⟩,
      fun i c hc => (hlive' i c hc).2.2, htables, fun t => (hlists t).1, fun t => (hlists t).2.1,
      fun t => (hlists t).2.2, hchanges⟩
  · intro h
    refine ⟨⟨h.length, h.nextNumber⟩, ⟨hdistinct.mpr h.distinct, fun c hc => ?_⟩, h.tables,
      fun t => ⟨h.nodup t, h.room t, h.seated t⟩, h.changes⟩
    obtain ⟨i, hi⟩ := State.mem_liveChecks.mp hc
    exact ⟨(h.number i c hi).1, (h.number i c hi).2, h.table i c hi⟩

theorem State.tableList_congr {s t : State} (h : t.fmp.lists = s.fmp.lists) (n : Nat) : t.tableList n = s.tableList n := by
  rw [State.tableList, State.tableList, h]

theorem tableExists_iff {n : Nat} : tableExists n = true ↔ 1 ≤ n ∧ n ≤ Config.tableCount := by
  simp [tableExists]

theorem State.seatAt_tableList {s : State} (htables : s.fmp.lists.length = Config.tableCount) {table : Nat}
    (ht : tableExists table = true) (slot n : Nat) :
    (s.seatAt table slot).tableList n = if n = table then s.tableList n ++ [slot] else s.tableList n := by
  obtain ⟨h1, h2⟩ := tableExists_iff.mp ht
  simp only [State.tableList, State.seatAt, get1_mod1, htables, h1, h2, and_true]

theorem State.unseat_tableList {s : State} (htables : s.fmp.lists.length = Config.tableCount) {table : Nat}
    (ht : tableExists table = true) (slot n : Nat) :
    (s.unseat table slot).tableList n
      = if n = table then (s.tableList n).filter (· != slot) else s.tableList n := by
  obtain ⟨h1, h2⟩ := tableExists_iff.mp ht
  simp only [State.tableList, State.unseat, get1_mod1, htables, h1, h2, and_true]

/-- A check that stands in no list of another table. -/
theorem Seated.not_mem {s : State} (hs : Seated s) {slot n : Nat} {c : Check} (hc : s.check? slot = some c)
    (hn : c.table ≠ n) : slot ∉ s.tableList n := by
  rw [hs.seated]
  rintro ⟨d, hd, hdn⟩
  obtain rfl := Option.some.inj (hc.symm.trans hd)
  exact hn hdn

/-- Checks that keep their numbers, tables and slots stay seated. -/
theorem Seated.steady {s t : State} (h : Steady s t) (hs : Seated s) : Seated t where
  length := h.length.trans hs.length
  nextNumber := h.nextNumber ▸ hs.nextNumber
  distinct i j c d hc hd hcd := by
    obtain ⟨c', hc', hfc⟩ := h.check? hc
    obtain ⟨d', hd', hfd⟩ := h.check? hd
    exact hs.distinct i j c' d' hc' hd' (hfc.number.symm.trans (hcd.trans hfd.number))
  number i c hc := by
    obtain ⟨c', hc', hf⟩ := h.check? hc
    rw [hf.number]; exact hs.number i c' hc'
  table i c hc := by
    obtain ⟨c', hc', hf⟩ := h.check? hc
    rw [hf.table]; exact hs.table i c' hc'
  tables := h.lists ▸ hs.tables
  nodup n := by rw [State.tableList_congr h.lists]; exact hs.nodup n
  room n := by rw [State.tableList_congr h.lists]; exact hs.room n
  seated n slot := by
    rw [State.tableList_congr h.lists, hs.seated]
    constructor
    · rintro ⟨c, hc, hn⟩
      obtain ⟨c', hc', hf⟩ := h.check?_of hc
      exact ⟨c', hc', hf.table.trans hn⟩
    · rintro ⟨c', hc', hn⟩
      obtain ⟨c, hc, hf⟩ := h.check? hc'
      exact ⟨c, hc, hf.table.symm.trans hn⟩
  changes b hb table owner hch := by
    obtain ⟨a, ha, hab⟩ := h.changes b hb
    exact hs.changes a ha table owner (hab.trans hch)

/-- The number that a new check takes is free and in range (01 R2). -/
theorem Seated.freeNumber {s : State} (hs : Seated s) :
    1 ≤ s.freeNumber ∧ s.freeNumber ≤ Config.maxCheckNumber ∧ s.freeNumber ∉ s.liveChecks.map Check.number := by
  have hlen : (s.liveChecks.map Check.number).length < Config.maxCheckNumber := by
    have hle : s.liveChecks.length ≤ Config.slotCount := hs.length ▸ List.length_filterMap_le id s.ckt.slots
    rw [List.length_map]
    exact lt_of_le_of_lt hle (by decide)
  obtain ⟨k, heq, hfree, -, h1, h2⟩ := firstFreeNumber _ _ _ hs.nextNumber.1 hs.nextNumber.2 hlen
  unfold State.freeNumber
  simp only
  rw [heq]
  exact ⟨h1, h2, hfree⟩

/-- A new check is seated in a free slot under a free number (01 R1, R2, R11). -/
theorem Seated.place {s : State} {slot table covers owner day minute : Nat} (hs : Seated s)
    (hslot : s.freeSlot = some slot) (htable : tableExists table = true) (hroom : s.tableFull table = false) :
    Seated (s.placeCheck slot (newCheck s.freeNumber table covers owner day minute)) := by
  obtain ⟨hlt, hnone⟩ := State.freeSlot_spec hslot
  obtain ⟨hn1, hn2, hfree⟩ := hs.freeNumber
  have hcheck := State.placeCheck_check? hlt (newCheck s.freeNumber table covers owner day minute)
  have hlist : ∀ n, (s.placeCheck slot (newCheck s.freeNumber table covers owner day minute)).tableList n
      = if n = table then s.tableList n ++ [slot] else s.tableList n :=
    State.seatAt_tableList (s := { s with ckt := _ }) hs.tables htable slot
  have hnew : ∀ n, slot ∉ s.tableList n := by
    intro n hmem
    obtain ⟨c, hc, -⟩ := (hs.seated n slot).mp hmem
    simp [hnone] at hc
  have hother : ∀ i c, s.check? i = some c → c.number ≠ s.freeNumber := fun i c hc he =>
    hfree (he ▸ List.mem_map_of_mem (State.mem_liveChecks.mpr ⟨i, hc⟩))
  constructor
  · simpa [State.placeCheck] using hs.length
  · exact cycleSucc_range (by decide)
  · intro i j c d hc hd hcd
    rw [hcheck] at hc hd
    split at hc <;> split at hd
    · omega
    · obtain rfl := Option.some.inj hc; exact absurd hcd.symm (hother j d hd)
    · obtain rfl := Option.some.inj hd; exact absurd hcd (hother i c hc)
    · exact hs.distinct i j c d hc hd hcd
  · intro i c hc
    rw [hcheck] at hc
    split at hc
    · obtain rfl := Option.some.inj hc; exact ⟨hn1, hn2⟩
    · exact hs.number i c hc
  · intro i c hc
    rw [hcheck] at hc
    split at hc
    · obtain rfl := Option.some.inj hc; exact htable
    · exact hs.table i c hc
  · simpa [State.placeCheck, State.seatAt] using hs.tables
  · intro n
    rw [hlist]
    split
    · exact List.nodup_append.mpr ⟨hs.nodup n, by simp, by simpa using fun a ha (he : a = slot) => hnew n (he ▸ ha)⟩
    · exact hs.nodup n
  · intro n
    rw [hlist]
    split
    next hn =>
      subst hn
      simp only [State.tableFull, decide_eq_false_iff_not] at hroom
      simp only [List.length_append, List.length_singleton]
      omega
    · exact hs.room n
  · intro n i
    rw [hlist, hcheck]
    by_cases hi : i = slot
    · subst hi
      by_cases hn : n = table
      · simp [hn, newCheck]
      · simp [hn, Ne.symm hn, newCheck, hnew n]
    · by_cases hn : n = table
      · simpa [hn, hi] using hs.seated table i
      · simpa [hn, hi] using hs.seated n i
  · exact hs.changes

/-- A retired check leaves its number, its slot and its table's list (01 R21). -/
theorem Seated.retire {s : State} {slot : Nat} (hs : Seated s) : Seated (s.retire slot) := by
  cases hlive : s.check? slot with
  | none => rw [State.retire_of_free hlive]; exact hs
  | some b =>
    have hcheck := State.retire_check? hlive
    have hsome : ∀ {i c}, (s.retire slot).check? i = some c → s.check? i = some c := by
      intro i c hc
      rw [hcheck] at hc
      split at hc
      · simp at hc
      · exact hc
    have hlist : ∀ n, (s.retire slot).tableList n
        = if n = b.table then (s.tableList n).filter (· != slot) else s.tableList n := fun n =>
      (State.tableList_congr (s := s.unseat b.table slot) (by rw [State.retire_fmp hlive]; rfl) n).trans
        (State.unseat_tableList hs.tables (hs.table slot b hlive) slot n)
    constructor
    · rw [State.retire_slots hlive]; simpa using hs.length
    · rw [State.retire_ckt_nextNumber]; exact hs.nextNumber
    · exact fun i j c d hc hd => hs.distinct i j c d (hsome hc) (hsome hd)
    · exact fun i c hc => hs.number i c (hsome hc)
    · exact fun i c hc => hs.table i c (hsome hc)
    · rw [State.retire_fmp hlive]; simpa using hs.tables
    · intro n; rw [hlist]; split
      · exact (hs.nodup n).filter _
      · exact hs.nodup n
    · intro n; rw [hlist]; split
      · exact (List.length_filter_le _ _).trans (hs.room n)
      · exact hs.room n
    · intro n i
      rw [hlist, hcheck]
      by_cases hi : i = slot
      · subst hi
        by_cases hn : n = b.table
        · simp [hn]
        · simpa [hn] using hs.not_mem hlive (Ne.symm hn)
      · by_cases hn : n = b.table
        · simpa [hn, hi] using hs.seated b.table i
        · simpa [hn, hi] using hs.seated n i
    · intro a ha
      rw [State.retire_table hlive] at ha
      split at ha
      · exact hs.changes a ha
      · exact hs.changes a (List.mem_of_mem_filter ha)

/-- A transferred check stands in the list of its new table alone (01 R15, 02 R25). -/
theorem Seated.transfer {s : State} {slot table owner : Nat} {b : Check} (hs : Seated s) (hb : s.check? slot = some b)
    (hmove : movesTable b table = true → table ≤ Config.tableCount ∧ s.tableFull table = false) :
    Seated (s.moveCheck slot b table owner) := by
  have hcheck := State.moveCheck_check? hb table owner
  have hback : ∀ {i c}, (s.moveCheck slot b table owner).check? i = some c → ∃ d, s.check? i = some d
      ∧ c.number = d.number := by
    intro i c hc
    rw [hcheck] at hc
    split at hc
    next hi => obtain rfl := Option.some.inj hc; exact ⟨b, hi ▸ hb, rfl⟩
    · exact ⟨c, hc, rfl⟩
  have hexists : movesTable b table = true → tableExists table = true := by
    intro hm
    have h0 : table ≠ 0 := by rintro rfl; simp [movesTable] at hm
    exact tableExists_iff.mpr ⟨by omega, (hmove hm).1⟩
  have hlist : ∀ n, (s.moveCheck slot b table owner).tableList n
      = if movesTable b table = true ∧ n = table then s.tableList n ++ [slot]
        else if movesTable b table = true ∧ n = b.table then (s.tableList n).filter (· != slot)
        else s.tableList n := by
    intro n
    cases hm : movesTable b table
    · simp [State.moveCheck, hm, State.tableList]
    · have hne : table ≠ b.table := by simp [movesTable] at hm; exact hm.2
      have hmoved : (s.moveCheck slot b table owner).tableList n
          = ((s.unseat b.table slot).seatAt table slot).tableList n := by simp [State.moveCheck, hm, State.tableList]
      rw [hmoved, State.seatAt_tableList (by simpa [State.unseat] using hs.tables) (hexists hm),
        State.unseat_tableList hs.tables (hs.table slot b hb)]
      by_cases hn : n = table
      · subst hn; simp [hne]
      · simp [hn]
  have hnot : movesTable b table = true → slot ∉ s.tableList table := by
    intro hm
    exact hs.not_mem hb (by simp [movesTable] at hm; exact Ne.symm hm.2)
  constructor
  · rw [← hs.length]; cases hm : movesTable b table <;> simp [State.moveCheck, hm, State.modCheck]
  · rw [State.moveCheck_ckt_nextNumber]; exact hs.nextNumber
  · intro i j c d hc hd hcd
    obtain ⟨c', hc', hcn⟩ := hback hc
    obtain ⟨d', hd', hdn⟩ := hback hd
    exact hs.distinct i j c' d' hc' hd' (hcn.symm.trans (hcd.trans hdn))
  · intro i c hc
    obtain ⟨c', hc', hcn⟩ := hback hc
    exact hcn ▸ hs.number i c' hc'
  · intro i c hc
    rw [hcheck] at hc
    split at hc
    · obtain rfl := Option.some.inj hc
      cases hm : movesTable b table
      · simpa [Check.moved, hm] using hs.table slot b hb
      · simpa [Check.moved, hm] using hexists hm
    · exact hs.table i c hc
  · rw [← hs.tables]; cases hm : movesTable b table <;> simp [State.moveCheck, hm, State.unseat, State.seatAt]
  · intro n
    rw [hlist]
    split
    next h =>
      obtain ⟨hm, rfl⟩ := h
      exact List.nodup_append.mpr ⟨hs.nodup n, by simp, by simpa using fun a ha (he : a = slot) => hnot hm (he ▸ ha)⟩
    · split
      · exact (hs.nodup n).filter _
      · exact hs.nodup n
  · intro n
    rw [hlist]
    split
    next h =>
      obtain ⟨hm, rfl⟩ := h
      have := (hmove hm).2
      simp only [State.tableFull, decide_eq_false_iff_not] at this
      simp only [List.length_append, List.length_singleton]
      omega
    · split
      · exact (List.length_filter_le _ _).trans (hs.room n)
      · exact hs.room n
  · intro n i
    rw [hlist, hcheck]
    have hseated := hs.seated n i
    by_cases hi : i = slot
    · subst hi
      cases hm : movesTable b table
      · simpa [hm, Check.moved, hb] using hseated
      · have hne : table ≠ b.table := by simp [movesTable] at hm; exact hm.2
        by_cases hn : n = table
        · simp [hm, hn, Check.moved]
        · by_cases hnb : n = b.table
          · simp [hm, hnb, Ne.symm hne, Check.moved, hne]
          · simpa [hm, hn, hnb, Check.moved, Ne.symm hn] using hs.not_mem hb (Ne.symm hnb)
    · rw [if_neg hi, ← hseated]
      split
      · simp [hi]
      · split
        · simp [hi]
        · rfl
  · unfold ChangesInRange; rw [State.moveCheck_apu]; exact hs.changes

/-- Every move keeps the checks seated. -/
theorem Move.seated {s t : State} (h : Move s t) (hs : Seated s) : Seated t := by
  have hsame : ∀ {u : State}, u.ckt = s.ckt → u.fmp.lists = s.fmp.lists →
      ChangesInRange u → Seated u := by
    intro u hckt hlists hchanges
    constructor
    · rw [hckt]; exact hs.length
    · rw [hckt]; exact hs.nextNumber
    · simpa only [State.check?_congr hckt] using hs.distinct
    · simpa only [State.check?_congr hckt] using hs.number
    · simpa only [State.check?_congr hckt] using hs.table
    · rw [hlists]; exact hs.tables
    · simpa only [State.tableList_congr hlists] using hs.nodup
    · simpa only [State.tableList_congr hlists] using hs.room
    · simpa only [State.tableList_congr hlists, State.check?_congr hckt] using hs.seated
    · exact hchanges
  cases h with
  | steady h => exact hs.steady h
  | place hslot htable hroom => exact hs.place hslot htable hroom
  | retire slot => exact hs.retire
  | transfer hb hmove => exact hs.transfer hb fun hm => ⟨(hmove hm).1 hs.changes, (hmove hm).2⟩
  | park a hckt hlists hwork htable hchange =>
    refine hsame hckt hlists fun b hb => ?_
    rw [htable, List.mem_append, List.mem_singleton] at hb
    rcases hb with hb | rfl
    · exact hs.changes b hb
    · exact hchange
  | settings hckt hlists htable hvalues => exact hsame hckt hlists (by unfold ChangesInRange; rw [htable]; exact hs.changes)
  | clear hckt hlists happrovals =>
    have hcheck : ∀ i, t.check? i = none := fun i => (State.check?_congr hckt i).trans (State.reset_check? i)
    have hlist : ∀ n, t.tableList n = [] := by
      intro n
      rw [State.tableList_congr (s := State.reset) hlists, State.tableList, get1, State.reset]
      split
      · rfl
      · by_cases hn : n - 1 < Config.tableCount <;> simp [hn]
    constructor <;> simp [hcheck, hlist, hckt, hlists, happrovals, ChangesInRange]
    · simp [State.reset]
    · decide
    · simp [State.reset]
    · simp [State.reset]

end Sys2Proof.Machine
end

section
/-! Every command is a sequence of moves: first the shared operations, then the commands. -/
namespace Sys2Proof.Machine

/-! ## Operations that leave the checks alone -/

section
variable {s t : State} (h : Steady s t)
include h

theorem Steady.handEvent {n : Nat} {k : EventKind} : Steady s (t.handEvent n k) := h.trans (.of_eq (by simp))
theorem Steady.setStatus {i : Nat} {st : Status} : Steady s (t.setStatus i st) := h.trans (.of_eq (by simp))
theorem Steady.placeNeed {i : Nat} {k : NeedKind} : Steady s (t.placeNeed i k) := h.trans (.of_eq (by simp))
theorem Steady.modTender {i : Nat} {f : Tender → Tender} : Steady s (t.modTender i f) := h.trans (.of_eq (by simp))
theorem Steady.mapLeases {i : Nat} {f : Lease → Lease} : Steady s (t.mapLeases i f) := h.trans (.of_eq (by simp))
theorem Steady.announceEnding {a : Approval} {n o : Nat} : Steady s (t.announceEnding a n o) := h.trans (.of_eq (by simp))

end

/-! ## Tender events and exchanges -/

section
variable (s : State)

/-- A portion keeps its share when its tender changes (05 R87). -/
theorem Check.follow_sameFigures (c : Check) (i : Nat) (old new : Tender) :
    c.SameFigures { c with plan := c.plan.follow i old new } := by
  unfold Plan.follow
  split
  · refine ⟨rfl, ?_, .inl rfl⟩
    rw [List.map_map]
    refine List.map_congr_left fun q _ => ?_
    simp only [Function.comp_apply]
    split <;> rfl
  · exact ⟨rfl, rfl, .inl rfl⟩

theorem State.derive_steady (b : Bool) (slot : Nat) : Steady s (s.derive b slot) := by
  simp only [State.derive]
  split
  · exact .refl s
  · split
    · apply Steady.handEvent
      exact .modSame fun c => ⟨rfl, rfl, .inl rfl⟩
    · exact .refl s

theorem State.moveTender_steady (i : Nat) (f : Tender → Tender) : Steady s (s.moveTender i f) := by
  unfold State.moveTender
  split
  · exact .refl s
  · exact (Steady.of_eq (t := s.modTender i f) (by simp)).trans
      (.modSame fun c => Check.follow_sameFigures c _ _ _)

theorem Steady.stepVersion (slot : Nat) : Steady s (s.modCheck slot Check.stepVersion) :=
  .modSame Check.stepVersion_sameFigures

theorem State.tenderEvent_steady (i : Nat) (f : Tender → Tender) : Steady s (s.tenderEvent i f) := by
  unfold State.tenderEvent
  split
  · exact .refl s
  · exact ((s.moveTender_steady i f).trans (.stepVersion _ _)).trans (State.derive_steady _ _ _)

theorem State.reverseTender_steady (i : Nat) (f : Tender → Tender) : Steady s (s.reverseTender i f) :=
  (s.tenderEvent_steady i _).placeNeed

theorem State.settleAuthorized_steady (i : Nat) (b : Bool) (f : Tender → Tender) :
    Steady s (s.settleAuthorized i b f) := by
  unfold State.settleAuthorized
  split
  · exact s.reverseTender_steady i f
  · exact s.tenderEvent_steady i _

theorem State.endAuth_steady (i : Nat) (t : Tender) (e : ExchangeEnd) : Steady s (s.endAuth i t e) := by
  cases e with
  | approved ref code => exact s.settleAuthorized_steady i _ _
  | refused | noLink => exact (s.tenderEvent_steady i _).setStatus
  | timeout => exact (s.reverseTender_steady i id).setStatus

theorem State.endIncrement_steady (i : Nat) (t : Tender) (e : ExchangeEnd) : Steady s (s.endIncrement i t e) := by
  cases e with
  | approved ref code => exact s.settleAuthorized_steady i _ _
  | refused | noLink | timeout => exact (s.settleAuthorized_steady i _ id).setStatus

theorem State.endReverse_steady (i : Nat) (t : Tender) (e : ExchangeEnd) : Steady s (s.endReverse i t e) := by
  cases e with
  | approved ref code => exact (s.tenderEvent_steady i _).setStatus
  | refused | noLink | timeout =>
    simp only [State.endReverse]
    split
    · exact .of_eq (by simp)
    · exact (s.tenderEvent_steady i _).setStatus

theorem State.closeStep_moves (slot : Nat) : Moves s (s.closeStep slot) := by
  simp only [State.closeStep]
  split
  · exact .refl
  · split
    · exact .refl
    · split
      · exact .single (.retire slot)
      · apply Steady.moves
        apply Steady.handEvent
        exact .modSame fun c => ⟨rfl, rfl, .inl rfl⟩

theorem State.endCapture_moves (i : Nat) (t : Tender) (e : ExchangeEnd) : Moves s (s.endCapture i t e) :=
  (s.tenderEvent_steady i _).moves.trans (State.closeStep_moves _ _)

theorem State.endExchange_moves (k : NeedKind) (i : Nat) (e : ExchangeEnd) : Moves s (s.endExchange k i e) := by
  unfold State.endExchange
  split
  · exact .refl
  next t _ =>
    cases k with
    | auth => exact (s.endAuth_steady i t e).moves
    | increment => exact (s.endIncrement_steady i t e).moves
    | reverse => exact (s.endReverse_steady i t e).moves
    | capture => exact s.endCapture_moves i t e

theorem State.completeNoLink_moves (n : Need) : Moves s (s.completeNoLink n) :=
  (Steady.of_eq (t := s.removeNeed n.tender) (by simp)).moves.trans (State.endExchange_moves _ _ _ _)

/-- A fold of moves is a sequence of moves. -/
theorem Moves.foldl {α : Type} {f : State → α → State} (h : ∀ s a, Moves s (f s a)) (l : List α) (s : State) :
    Moves s (l.foldl f s) := by
  induction l generalizing s with
  | nil => exact .refl
  | cons a l ih => exact (h s a).trans (ih _)

theorem State.departUp_moves : Moves s s.departUp := Moves.foldl State.completeNoLink_moves _ _

theorem State.withdraw_steady (i : Nat) : Steady s (s.withdraw i) := by
  unfold State.withdraw
  split
  · exact .refl s
  · split
    · exact s.tenderEvent_steady i _
    · split
      · exact .of_eq (by simp)
      · split
        · exact (Steady.of_eq (t := s.removeNeed i) (by simp)).trans (State.tenderEvent_steady _ i _)
        · exact (Steady.of_eq (t := s.removeNeed i) (by simp)).trans (State.reverseTender_steady _ i _)
    · exact s.reverseTender_steady i id
    · exact .refl s

theorem State.expireLease_steady (i : Nat) : Steady s (s.expireLease i) :=
  (s.tenderEvent_steady i _).setStatus

/-! ## Holds, approvals and releases -/

theorem State.addHold_steady (slot : Nat) (r : HoldReason) : Steady s (s.addHold slot r) := by
  simp only [State.addHold]
  have hmod : Steady s (s.modCheck slot fun c =>
      { c with holds := c.holds.put r true, version := nextVersion c.version }) :=
    .modSame fun c => ⟨rfl, rfl, .inr rfl⟩
  split
  · exact .refl s
  · split
    · exact hmod
    · exact hmod.handEvent.mapLeases

theorem State.actDeferred_steady (i : Nat) : Steady s (s.actDeferred i) := by
  unfold State.actDeferred
  split
  · exact .refl s
  · split
    · exact (Steady.of_eq (t := s.modTender i fun t => { t with deferredWithdraw := false }) (by simp)).trans
        (State.withdraw_steady _ i)
    · exact .refl s

theorem State.releaseHeld_steady (slot : Nat) : Steady s (s.releaseHeld slot) := by
  unfold State.releaseHeld
  split
  · exact .refl s
  next c _ =>
    exact ((Steady.refl s).handEvent.trans (Steady.foldl State.actDeferred_steady c.tenders _)).mapLeases

theorem State.removeHold_steady (slot : Nat) (r : HoldReason) : Steady s (s.removeHold slot r) := by
  simp only [State.removeHold]
  split
  · exact .refl s
  next c _ =>
    have hmod : Steady s (s.modCheck slot fun c' =>
        { c' with holds := c.holds.put r false, version := nextVersion c'.version }) :=
      .modSame fun c => ⟨rfl, rfl, .inr rfl⟩
    split
    · exact hmod
    · exact hmod.trans (State.releaseHeld_steady _ slot)

theorem State.dropApproval_steady (a : Approval) : Steady s (s.dropApproval a) :=
  { Steady.refl s with changes := fun b hb => ⟨b, List.mem_of_mem_filter hb, rfl⟩ }

theorem State.endApproval_steady (a : Approval) (n : Nat) : Steady s (s.endApproval a n) :=
  ((s.dropApproval_steady a).trans (State.removeHold_steady _ _ _)).announceEnding

/-- The approval record that a parked change takes (08 R150). -/
def State.parkRecord (slot term : Nat) (change : Parked) : Approval where
  number := firstFree (s.apu.table.map Approval.number) 255 (s.apu.table.length + 1) s.apu.counter
  slot := slot
  requester := some term
  change := change
  deadline := s.now + s.setting 19

/-- The state with one more approval record, before the check is held (08 R150). -/
def State.withRecord (a : Approval) : State :=
  { s with apu := { table := s.apu.table ++ [a], counter := cycleSucc 255 a.number } }

/-- The state after a change has been parked. -/
theorem State.park_fst (slot term : Nat) (change : Parked) :
    (s.park slot term change).1
      = let u := (s.withRecord (s.parkRecord slot term change)).addHold slot .approval
        if s.apu.table.isEmpty then u.announceWaiting else u := by
  simp only [State.park, State.withRecord, State.parkRecord, List.length_map]

theorem State.park_moves (slot term : Nat) (change : Parked)
    (hchange : ∀ table owner, change = .transferCheck table owner → table ≤ Config.tableCount) :
    Moves s (s.park slot term change).1 := by
  rw [s.park_fst]
  have hrecord : Move s (s.withRecord (s.parkRecord slot term change)) := .park _ rfl rfl rfl rfl hchange
  refine .head hrecord (Steady.moves ((State.addHold_steady _ slot .approval).trans ?_))
  split
  · exact .of_eq (by simp)
  · exact .refl _

/-- The TIP_WAIT tenders of a terminal that is released have expired (02 R35 steps 1 and 2). -/
def State.withLeasesExpired (t : Nat) : State :=
  let u := s.setPresent t false
  (u.tendersWhere fun x => decide (x.holder = some t) && decide (x.state = .tipWait)).foldl State.expireLease u

/-- No tender has the terminal for its holder (02 R35 step 3). -/
def State.withNoHolder (t : Nat) : State :=
  (s.tendersWhere fun x => decide (x.holder = some t)).foldl State.unhold s

/-- The records that a released terminal leaves, but for its tenders (02 R35 steps 4 to 7). -/
def State.withoutTerminal (t : Nat) : State :=
  { s with
    wnu := { s.wnu with pendCounts := set1 s.wnu.pendCounts t 0
                        watches := s.wnu.watches.filter fun w => w.terminal != t
                        hits := set1 s.wnu.hits t [] }
    apu := { s.apu with table := s.apu.table.map fun a =>
      if a.requester = some t then { a with requester := none } else a } }

theorem State.releaseTerminal_fst (t : Nat) :
    (s.releaseTerminal t).1 = ((s.withLeasesExpired t).withNoHolder t).withoutTerminal t := by
  have hexpired : s.withLeasesExpired t = ((s.setPresent t false).tendersWhere fun x =>
      decide (x.holder = some t) && decide (x.state = .tipWait)).foldl State.expireLease (s.setPresent t false) := rfl
  simp only [State.releaseTerminal]
  rw [← hexpired]
  have hheld : (s.withLeasesExpired t).withNoHolder t = ((s.withLeasesExpired t).tendersWhere fun x =>
      decide (x.holder = some t)).foldl State.unhold (s.withLeasesExpired t) := rfl
  rw [← hheld]
  generalize (s.withLeasesExpired t).withNoHolder t = u
  rfl

theorem State.withLeasesExpired_steady (t : Nat) : Steady s (s.withLeasesExpired t) :=
  (Steady.of_eq (t := s.setPresent t false) (by simp)).trans (Steady.foldl State.expireLease_steady _ _)

theorem State.withNoHolder_steady (t : Nat) : Steady s (s.withNoHolder t) :=
  Steady.foldl (f := State.unhold) (fun u i => .of_eq (by simp)) _ _

theorem State.withoutTerminal_steady (t : Nat) : Steady s (s.withoutTerminal t) :=
  { Steady.refl s with
    changes := fun b hb => by
      obtain ⟨a, ha, rfl⟩ := List.mem_map.mp hb
      exact ⟨a, ha, by split <;> rfl⟩ }

theorem State.releaseTerminal_steady (t : Nat) : Steady s (s.releaseTerminal t).1 := by
  rw [State.releaseTerminal_fst]
  exact ((s.withLeasesExpired_steady t).trans (State.withNoHolder_steady _ t)).trans (State.withoutTerminal_steady _ t)

end

/-! ## Requests -/

section
variable {s : State}

theorem State.frame_moves {h : Hdr} {kind : Nat} {act : State → State × Reply} (hact : ∀ u, Moves u (act u).1) :
    Moves s (s.frame h kind act) := by
  unfold State.frame
  split
  · exact .refl
  · exact Steady.moves (.of_eq (by simp))
  · exact Steady.moves (.of_eq (by simp))
  · exact Steady.moves (.of_eq (by simp))
  · exact ((Steady.of_eq (t := s.hear h.term) (by simp)).moves.trans (hact _)).trans (Steady.moves (.of_eq (by simp)))

theorem State.request_moves {h : Hdr} {kind : Nat} {cls : ReqClass} {act : State → State × Reply}
    (hact : ∀ u, Moves u (act u).1) : Moves s (s.request h kind cls act) := by
  refine State.frame_moves fun u => ?_
  split
  · exact hact u
  · exact .refl

theorem State.malformedFrame_moves (h : Hdr) (kind reason : Nat) : Moves s (s.malformedFrame h kind reason) :=
  State.frame_moves fun _ => .refl

theorem judged_moves {tests : List (Bool × Reply)} {act : State × Reply}
    (hact : judge tests = none → Moves s act.1) : Moves s (judged s tests act).1 := by
  unfold judged
  split
  · exact .refl
  next ht => exact hact ht

theorem State.withCheck_moves {n : Nat} {k : Nat → Check → State × Reply}
    (hk : ∀ slot c, s.check? slot = some c → Moves s (k slot c).1) : Moves s (s.withCheck n k).1 := by
  unfold State.withCheck
  split
  · exact .refl
  · split
    · exact .refl
    next c hc => exact hk _ c hc

theorem State.withTender_moves {c : Check} {n : Nat} {k : Nat → Tender → State × Reply}
    (hk : ∀ i t, Moves s (k i t).1) : Moves s (s.withTender c n k).1 := by
  unfold State.withTender
  split
  · exact .refl
  · split
    · exact .refl
    · exact hk _ _

theorem State.withApproval_moves {n : Nat} {k : Nat → Check → Approval → State × Reply}
    (hk : ∀ slot c a, s.check? slot = some c → s.approvalOf slot = some a → Moves s (k slot c a).1) :
    Moves s (s.withApproval n k).1 := by
  refine State.withCheck_moves fun slot c hc => ?_
  split
  · exact .refl
  next a ha => exact hk slot c a hc ha

/-- No test refuses exactly when no test's condition holds. -/
theorem judge_eq_none_cons {b : Bool} {r : Reply} {tests : List (Bool × Reply)} :
    judge ((b, r) :: tests) = none ↔ b = false ∧ judge tests = none := by
  cases b <;> simp [judge]

theorem judge_nil : judge [] = none := rfl

theorem judge_append {l₁ l₂ : List (Bool × Reply)} : judge (l₁ ++ l₂) = none ↔ judge l₁ = none ∧ judge l₂ = none := by
  induction l₁ with
  | nil => simp [judge]
  | cons t l ih => obtain ⟨b, r⟩ := t; simp [judge_eq_none_cons, ih, and_assoc]

/-! ## Requests on checks, lines and plans -/

theorem State.writeFigures_steady {slot : Nat} {c c₁ : Check} (hc : s.check? slot = some c) (h : c.Relined c₁) :
    Steady s (s.writeFigures slot (recompute s.sst.work c₁)) := by
  unfold State.writeFigures
  cases hr : recompute s.sst.work c₁ with
  | ok c₂ =>
    refine .modCheck fun c' hc' => ?_
    obtain rfl := Option.some.inj (hc.symm.trans hc')
    exact (h.follows_recompute hr).trans (c₂.stepVersion_sameFigures.follows _)
  | overTotal _ | badSeats _ => exact .refl s

/-- A change of one line that keeps its seat and class leaves the lines in range (03 R48, R51). -/
theorem Check.mapLine_relined (c : Check) (n : Nat) {f : Line → Line} (hf : ∀ l : Line, l.InRange → (f l).InRange) :
    c.Relined (c.mapLine n f) where
  heading := rfl
  lines hl l hmem := by
    obtain ⟨x, hx, rfl⟩ := List.mem_map.mp hmem
    split
    · exact hf x (hl x hx)
    · exact hl x hx

theorem Check.withVoid_relined (c : Check) (n : Nat) : c.Relined (c.withVoid n) := c.mapLine_relined n fun _ h => h

theorem Check.withDiscount_relined (c : Check) (n d : Nat) : c.Relined (c.withDiscount n d) :=
  c.mapLine_relined n fun _ h => h

/-- An entry that passes the tests of 03 R44 becomes a line in range. -/
theorem toLine_inRange {e : LineEntry} (h : LineEntry.badField e = none) (number addedBy : Nat) :
    (LineEntry.toLine e number addedBy).InRange := by
  unfold LineEntry.badField at h
  have hcls : ¬(e.cls = 0 ∨ 8 < e.cls) := by intro hc; rw [if_pos hc] at h; split_ifs at h
  have hseat : ¬ 30 < e.seat := by intro hs; simp [hs] at h
  refine ⟨by simp only [LineEntry.toLine]; omega, ?_⟩
  simp only [LineEntry.toLine, taxClasses, List.mem_cons, List.not_mem_nil, or_false]
  omega

theorem firstBadEntry_eq_none {n : Nat} {entries : List LineEntry} (h : firstBadEntry n entries = none) :
    ∀ e ∈ entries, LineEntry.badField e = none := by
  induction entries generalizing n with
  | nil => simp
  | cons e es ih =>
    unfold firstBadEntry at h
    cases he : LineEntry.badField e with
    | some f => simp [he] at h
    | none => exact List.forall_mem_cons.mpr ⟨he, ih (by simpa [he] using h)⟩

theorem Check.withLines_relined (c : Check) {entries : List LineEntry} (addedBy : Nat)
    (h : firstBadEntry 1 entries = none) : c.Relined (c.withLines entries addedBy) where
  heading := rfl
  lines hl l hmem := by
    simp only [Check.withLines, List.mem_append] at hmem
    rcases hmem with hmem | hmem
    · exact hl l hmem
    · simp only [newLines, List.mem_map] at hmem
      obtain ⟨⟨e, i⟩, hei, rfl⟩ := hmem
      exact toLine_inRange (firstBadEntry_eq_none h e (List.fst_mem_of_mem_zipIdx hei)) _ _

theorem State.takeLines_steady {slot n : Nat} {c c₁ : Check} (hc : s.check? slot = some c) (h : c.Relined c₁) :
    Steady s (s.takeLines slot c n (recompute s.sst.work c₁)) := by
  have hfree : Steady s { s with freeLines := s.freeLines - n } := .of_eq (by simp)
  have hfigures := hfree.trans (State.writeFigures_steady (s := { s with freeLines := s.freeLines - n }) hc h)
  simp only [State.takeLines]
  split
  · apply Steady.handEvent
    exact hfigures.trans (.modSame fun c => ⟨rfl, rfl, .inl rfl⟩)
  · exact hfigures

/-- A plan that SET SPLIT builds leaves the figures in order (05 R83). -/
theorem Check.setSplit_follows {w : Settings} {c : Check} {k : PlanKind} {count : Nat}
    (hcount : badSplitCount k count = false) (hseats : k = .bySeat → seatsPresent c.lines ≠ []) :
    c.Follows w { c.stepVersion with
      totals := totalsOf w c.covers c.lines
      plan := buildPlan w c.covers c.lines k count, splitFault := none } where
  number := rfl
  table := rfl
  version _ := nextVersion_le _
  tallied h := by
    refine ⟨rfl, h.totals ▸ h.inRange, h.lines, fun hk => ?_, fun hl => ?_⟩
    · obtain rfl : k = .even := (buildPlan_kind w c.covers c.lines k count).symm.trans hk
      simp only [badSplitCount, Bool.or_eq_false_iff, decide_eq_false_iff_not] at hcount
      show 1 ≤ (buildPlan w c.covers c.lines .even count).count
      rw [buildPlan_count_even]
      omega
    · refine buildPlan_shareSum w c.covers (fun l hl _ => (h.lines l hl).1) ?_ hseats ?_
      · rintro rfl
        simp only [badSplitCount, Bool.or_eq_false_iff, decide_eq_false_iff_not] at hcount
        omega
      · rintro rfl
        exact absurd hl (by simp [buildPlan_state_custom])

/-- A SET PORTION leaves a DRAFT plan (05 R84). -/
theorem Check.enter_follows (w : Settings) (c : Check) (portion amount : Nat) :
    c.Follows w { c.stepVersion with plan := c.plan.enter portion amount } where
  number := rfl
  table := rfl
  version _ := nextVersion_le _
  tallied h := ⟨h.totals, h.inRange, h.lines, h.even, fun hl => by simp [Plan.enter] at hl⟩

/-- A LOCK SPLIT locks a plan whose amounts sum to the total (05 R85). -/
theorem Check.lock_follows (w : Settings) {c : Check} (hsum : c.plan.shareSum = c.totals.total) :
    c.Follows w { c.stepVersion with plan := { c.plan with state := .locked }, splitFault := none } where
  number := rfl
  table := rfl
  version _ := nextVersion_le _
  tallied h := ⟨h.totals, h.inRange, h.lines, h.even, fun _ => hsum⟩

theorem Steady.modCheck_of_some {slot : Nat} {c : Check} (hc : s.check? slot = some c) {f : Check → Check}
    (h : c.Follows s.sst.work (f c)) : Steady s (s.modCheck slot f) :=
  .modCheck fun c' hc' => by
    obtain rfl := Option.some.inj (hc.symm.trans hc')
    exact h

end

/-! ## What each request does -/

/-- An outcome is a next state that moves lead to. -/
def MovesTo (s : State) (o : Out) : Prop := ∀ t, o = .next t → Moves s t

theorem movesTo_next {s t : State} (h : Moves s t) : MovesTo s (.next t) := by
  intro u hu
  obtain rfl := Host.Outcome.next.inj hu
  exact h

section
variable (h : Hdr) (s : State)

theorem execHello_moves : MovesTo s (execHello h s) :=
  movesTo_next (State.request_moves fun _ => .refl)

theorem execOpenCheck_moves (table covers owner : Nat) : MovesTo s (execOpenCheck h table covers owner s) := by
  refine movesTo_next (State.request_moves fun u => judged_moves fun ht => ?_)
  simp only [judge_eq_none_cons] at ht
  obtain ⟨-, -, -, htable, -, -, hslot, hroom, -⟩ := ht
  obtain ⟨slot, hs⟩ := Option.isSome_iff_exists.mp (by simpa using hslot)
  rw [hs]
  exact .single (.place hs (by simpa using htable) hroom)

theorem execReadCheck_moves (check : Nat) : MovesTo s (execReadCheck h check s) :=
  movesTo_next (State.request_moves fun _ => State.withCheck_moves fun _ _ _ => judged_moves fun _ => .refl)

theorem execUpdateCheck_moves (check covers : Nat) : MovesTo s (execUpdateCheck h check covers s) :=
  movesTo_next (State.request_moves fun _ => State.withCheck_moves fun _ c hc => judged_moves fun _ =>
    (State.writeFigures_steady hc (c₁ := { c with covers }) ⟨rfl, id⟩).moves)

theorem execPresentCheck_moves (check : Nat) : MovesTo s (execPresentCheck h check s) := by
  refine movesTo_next (State.request_moves fun u => State.withCheck_moves fun slot c _ => judged_moves fun _ => ?_)
  apply Steady.moves
  apply Steady.handEvent
  exact .modSame fun c => ⟨rfl, rfl, .inr rfl⟩

theorem execTransferCheck_moves (check table owner : Nat) : MovesTo s (execTransferCheck h check table owner s) := by
  refine movesTo_next (State.request_moves fun u => State.withCheck_moves fun slot c hc => judged_moves fun ht => ?_)
  simp only [judge_eq_none_cons] at ht
  obtain ⟨-, -, hexists, -, -, -, -, -, hroom, -⟩ := ht
  have hmove : movesTable c table = true → table ≤ Config.tableCount ∧ u.tableFull table = false := by
    intro hm
    simp only [hm, Bool.true_and, Bool.not_eq_false'] at hexists hroom
    exact ⟨(tableExists_iff.mp hexists).2, hroom⟩
  split
  · refine u.park_moves slot h.term _ fun table' owner' he => ?_
    obtain ⟨rfl, rfl⟩ := Parked.transferCheck.inj he
    split
    next hm => exact (hmove hm).1
    · exact Nat.zero_le _
  · exact .head (.transfer hc fun hm => ⟨fun _ => (hmove hm).1, (hmove hm).2⟩) (Steady.stepVersion _ _).moves

theorem execVoidCheck_moves (check : Nat) : MovesTo s (execVoidCheck h check s) := by
  refine movesTo_next (State.request_moves fun u => State.withCheck_moves fun slot c _ => judged_moves fun _ => ?_)
  split
  · exact u.park_moves slot h.term _ (by simp)
  · exact .single (.retire slot)

theorem State.startClose_steady (slot : Nat) (l : List Nat) : Steady s (s.startClose slot l) := by
  refine Steady.trans ?_ (Steady.foldl (f := State.startCapture) (fun u i => .of_eq (by simp)) l _)
  exact .modSame fun c => ⟨rfl, rfl, .inr rfl⟩

theorem execCloseCheck_moves (check : Nat) : MovesTo s (execCloseCheck h check s) := by
  refine movesTo_next (State.request_moves fun u => State.withCheck_moves fun slot c _ => judged_moves fun _ => ?_)
  split
  · exact .single (.retire slot)
  · exact (u.startClose_steady slot _).moves

theorem execAddLines_moves (check : Nat) (entries : List LineEntry) : MovesTo s (execAddLines h check entries s) := by
  refine movesTo_next ?_
  split
  · exact State.malformedFrame_moves h _ _
  · refine State.request_moves fun u => State.withCheck_moves fun slot c hc => judged_moves fun ht => ?_
    simp only [judge_eq_none_cons] at ht
    obtain ⟨-, hbad, -⟩ := ht
    exact (State.takeLines_steady hc (c.withLines_relined h.term (by simpa using hbad))).moves

theorem execVoidLine_moves (check line : Nat) : MovesTo s (execVoidLine h check line s) := by
  refine movesTo_next (State.request_moves fun u => State.withCheck_moves fun slot c hc => ?_)
  split
  · exact .refl
  · split
    · exact .refl
    · refine judged_moves fun _ => ?_
      split
      · exact u.park_moves slot h.term _ (by simp)
      · exact (State.writeFigures_steady hc (c.withVoid_relined line)).moves

theorem execDiscountLine_moves (check line amount : Nat) : MovesTo s (execDiscountLine h check line amount s) := by
  refine movesTo_next (State.request_moves fun u => State.withCheck_moves fun slot c hc => ?_)
  split
  · exact .refl
  · split
    · exact .refl
    · refine judged_moves fun _ => ?_
      split
      · exact u.park_moves slot h.term _ (by simp)
      · exact (State.writeFigures_steady hc (c.withDiscount_relined line _)).moves

theorem execReadLines_moves (check first last : Nat) : MovesTo s (execReadLines h check first last s) :=
  movesTo_next (State.request_moves fun _ => State.withCheck_moves fun _ _ _ => judged_moves fun _ => .refl)

theorem execSetSplit_moves (check kind count : Nat) : MovesTo s (execSetSplit h check kind count s) := by
  refine movesTo_next (State.request_moves fun u => State.withCheck_moves fun slot c hc => judged_moves fun ht => ?_)
  simp only [judge_eq_none_cons] at ht
  obtain ⟨-, -, hcount, hseats, -⟩ := ht
  refine (Steady.modCheck_of_some hc (Check.setSplit_follows hcount fun hk he => ?_)).moves
  simp [hk, he, badSeatCount] at hseats

theorem execSetPortion_moves (check portion amount : Nat) : MovesTo s (execSetPortion h check portion amount s) :=
  movesTo_next (State.request_moves fun u => State.withCheck_moves fun _ c hc => judged_moves fun _ =>
    (Steady.modCheck_of_some hc (c.enter_follows u.sst.work portion amount)).moves)

theorem execLockSplit_moves (check : Nat) : MovesTo s (execLockSplit h check s) := by
  refine movesTo_next (State.request_moves fun u => State.withCheck_moves fun slot c hc => ?_)
  simp only
  split
  · exact .refl
  · split
    · split
      · apply Steady.moves
        exact .modSame fun c => ⟨rfl, rfl, .inl rfl⟩
      · exact .refl
    next hsum =>
      refine judged_moves fun ht => ?_
      simp only [judge_eq_none_cons, Bool.or_eq_false_iff, Bool.not_eq_false'] at ht
      obtain ⟨-, -, ⟨-, hcustom⟩, -⟩ := ht
      have hsum' : c.plan.shareSum = c.totals.total := by simpa [hcustom] using hsum
      exact (Steady.modCheck_of_some hc (Check.lock_follows _ hsum')).moves

/-! ## Requests on tenders -/

theorem State.beginTender_steady (i : Nat) (t : Tender) : Steady s (s.beginTender i t) := by
  have hpool : Steady s { s with tdu := { s.tdu with pool := s.tdu.pool.set i (some t) } } := .of_eq (by simp)
  refine Steady.trans ?_ (State.derive_steady _ true t.slot)
  refine hpool.trans (.modSame fun c => ⟨rfl, ?_, .inr rfl⟩)
  simp only [List.map_map]
  refine List.map_congr_left fun q _ => ?_
  simp only [Function.comp_apply]
  split <;> rfl

theorem State.startTender_steady (i : Nat) (t : Tender) (kind : TenderKind) (asked balance : Nat) (token : List Byte) :
    Steady s (s.startTender i t kind asked balance token) := by
  cases kind with
  | cash | tipFirst => exact s.beginTender_steady i _
  | tipLater => exact (s.beginTender_steady i _).placeNeed

theorem execStartTender_moves (check portion kind amount : Nat) (token : List Byte) :
    MovesTo s (execStartTender h check portion kind amount token s) := by
  refine movesTo_next ?_
  split
  · exact State.malformedFrame_moves h _ _
  · exact State.request_moves fun u => State.withCheck_moves fun slot c hc => judged_moves fun _ =>
      (u.startTender_steady _ _ _ _ _ _).moves

theorem State.takeTip_steady (i : Nat) (t : Tender) (tip : Nat) : Steady s (s.takeTip i t tip) := by
  unfold State.takeTip
  split
  · exact (s.tenderEvent_steady i _).placeNeed
  · split
    · exact (s.tenderEvent_steady i _).placeNeed
    · split
      · exact .refl s
      · exact s.tenderEvent_steady i _

theorem execSubmitTip_moves (check tender form figure : Nat) : MovesTo s (execSubmitTip h check tender form figure s) := by
  refine movesTo_next (State.request_moves fun u => State.withCheck_moves fun slot c _ => ?_)
  split
  · exact .refl
  · exact State.withTender_moves fun i t => judged_moves fun _ => (u.takeTip_steady i t _).moves

theorem execWithdrawTender_moves (check tender : Nat) : MovesTo s (execWithdrawTender h check tender s) := by
  refine movesTo_next (State.request_moves fun u => State.withCheck_moves fun slot c _ => State.withTender_moves
    fun i t => judged_moves fun _ => ?_)
  split
  · exact (Steady.refl u).modTender.moves
  · exact (u.withdraw_steady i).moves

theorem execFetchStatus_moves (check tender : Nat) : MovesTo s (execFetchStatus h check tender s) :=
  movesTo_next (State.request_moves fun u => State.withCheck_moves fun _ _ _ => State.withTender_moves
    fun i _ => judged_moves fun _ => (Steady.of_eq (t := u.collect i) (by simp)).moves)

theorem State.writeOff_steady (slot i : Nat) : Steady s (s.writeOff slot i) :=
  (Steady.refl s).modTender.trans (.modSame fun _ => ⟨rfl, rfl, .inr rfl⟩)

theorem execAbandonTender_moves (check tender : Nat) : MovesTo s (execAbandonTender h check tender s) :=
  movesTo_next (State.request_moves fun u => State.withCheck_moves fun slot _ _ => State.withTender_moves
    fun i _ => judged_moves fun _ => (u.writeOff_steady slot i).moves)

/-! ## Requests on holds and approvals -/

theorem execHoldCheck_moves (check : Nat) : MovesTo s (execHoldCheck h check s) := by
  refine movesTo_next (State.request_moves fun u => State.withCheck_moves fun slot c _ => judged_moves fun _ => ?_)
  show Moves u (if c.holds.manager then u else u.addHold slot .manager)
  split
  · exact .refl
  · exact (u.addHold_steady slot .manager).moves

theorem execReleaseCheck_moves (check : Nat) : MovesTo s (execReleaseCheck h check s) :=
  movesTo_next (State.request_moves fun u => State.withCheck_moves fun slot _ _ => judged_moves fun _ =>
    (u.removeHold_steady slot .manager).moves)

/-- What the second judgement of a parked change leads to (08 R154). -/
def Evaluation.state (u : State) : Evaluation → State
  | .refused _ => u
  | .applied t => t
  | .retired t => t

theorem State.applyLine_moves {slot : Nat} {c c₁ : Check} (hc : s.check? slot = some c) (hrel : c.Relined c₁)
    (l : Line) : Moves s ((s.applyLine slot l c₁).state s) := by
  unfold State.applyLine
  cases hr : recompute s.sst.work c₁ with
  | ok c₂ =>
    by_cases hv : l.void = true
    · simpa [hv, Evaluation.state] using Relation.ReflTransGen.refl
    · simpa [hv, Evaluation.state] using (Steady.modCheck_of_some hc (f := fun _ => c₂) (hrel.follows_recompute hr)).moves
  | overTotal _ | badSeats _ => exact .refl

/-- The second judgement of a parked change, once its record has left the table (08 R154). -/
theorem State.evaluate_moves {a : Approval} {c : Check} (ha : a ∈ s.apu.table) (hc : s.check? a.slot = some c) :
    Moves s (((s.dropApproval a).evaluate a.slot c a.change).state (s.dropApproval a)) := by
  have hdrop : Moves s (s.dropApproval a) := (s.dropApproval_steady a).moves
  have hc' : (s.dropApproval a).check? a.slot = some c := by simpa using hc
  cases hch : a.change with
  | voidLine n =>
    simp only [State.evaluate]
    split
    · exact hdrop
    · exact hdrop.trans (State.applyLine_moves _ hc' (c.withVoid_relined n) _)
  | discountLine n d =>
    simp only [State.evaluate]
    split
    · exact hdrop
    · exact hdrop.trans (State.applyLine_moves _ hc' (c.withDiscount_relined n _) _)
  | voidCheck =>
    simp only [State.evaluate]
    split
    · exact hdrop
    · split
      · exact hdrop
      · exact hdrop.trans (.single (.retire a.slot))
  | transferCheck table owner =>
    simp only [State.evaluate, State.applyTransfer]
    split
    · exact hdrop
    · split
      · exact hdrop
      · split
        · exact hdrop
        next hfull =>
          have hcomm : (s.dropApproval a).moveCheck a.slot c table owner
              = (s.moveCheck a.slot c table owner).dropApproval a := by
            by_cases hm : movesTable c table = true <;> simp [State.moveCheck, hm] <;> rfl
          simp only [Evaluation.state, hcomm]
          refine .head (.transfer hc fun hm => ⟨fun hin => hin a ha table owner hch, ?_⟩)
            (State.dropApproval_steady _ a).moves
          have hroom : (s.dropApproval a).tableFull table = false := by simpa [hm] using hfull
          exact hroom

/-- The approval record of a slot stands in the table under that slot (08 R150). -/
theorem State.approvalOf_spec {slot : Nat} {a : Approval} (ha : s.approvalOf slot = some a) :
    a ∈ s.apu.table ∧ a.slot = slot :=
  ⟨List.mem_of_find?_eq_some ha, by simpa using List.find?_some ha⟩

theorem State.approveRecord_moves {a : Approval} {c : Check} (ha : a ∈ s.apu.table) (hc : s.check? a.slot = some c) :
    Moves s (s.approveRecord a c).1 := by
  have heval := s.evaluate_moves ha hc
  unfold State.approveRecord
  simp only
  cases he : (s.dropApproval a).evaluate a.slot c a.change with
  | refused code | applied t =>
    rw [he] at heval
    exact heval.trans (Steady.announceEnding (State.removeHold_steady _ _ _)).moves
  | retired t =>
    rw [he] at heval
    exact heval.trans (Steady.refl _).announceEnding.moves

theorem execApprove_moves (check number : Nat) : MovesTo s (execApprove h check number s) := by
  refine movesTo_next (State.request_moves fun u => State.withApproval_moves fun slot c a hc ha =>
    judged_moves fun _ => ?_)
  obtain ⟨hmem, rfl⟩ := u.approvalOf_spec ha
  exact u.approveRecord_moves hmem hc

theorem execReject_moves (check number : Nat) : MovesTo s (execReject h check number s) :=
  movesTo_next (State.request_moves fun u => State.withApproval_moves fun _ _ a _ _ =>
    judged_moves fun _ => (u.endApproval_steady a 17).moves)

/-! ## Requests on watches, the floor map and the settings -/

theorem execSetWatch_moves (check mask : Nat) : MovesTo s (execSetWatch h check mask s) :=
  movesTo_next (State.request_moves fun u => State.withCheck_moves fun _ _ _ => judged_moves fun _ =>
    .of_eq (t := u.putWatch _ _ _) (by simp))

theorem execDropWatch_moves (check : Nat) : MovesTo s (execDropWatch h check s) :=
  movesTo_next (State.request_moves fun u => judged_moves fun _ => .of_eq (t := u.removeWatch _ _) (by simp))

theorem execFetchHits_moves : MovesTo s (execFetchHits h s) :=
  movesTo_next (State.request_moves fun u => .of_eq (t := u.setHits _ _) (by simp))

theorem execFetchNextPending_moves : MovesTo s (execFetchNextPending h s) := by
  refine movesTo_next (State.request_moves fun u => ?_)
  split
  · exact .refl
  next i _ _ => exact .of_eq (t := u.collect i) (by simp)

theorem execAckNoticeStartup_moves (source : Nat) : MovesTo s (execAckNoticeStartup h source s) :=
  movesTo_next (State.request_moves fun u => judged_moves fun _ => .of_eq (t := u.clearStartup) (by simp))

theorem State.ackAged_check? (i : Nat) :
    s.ackAged.check? i = (s.check? i).map fun c => if c.aged then { c with agedAck := true } else c := by
  simp only [State.ackAged, State.check?, List.getElem?_map]
  cases s.ckt.slots[i]? with
  | none => rfl
  | some o => cases o <;> rfl

theorem State.ackAged_steady : Steady s s.ackAged :=
  { Steady.refl s with
    length := by simp [State.ackAged]
    checks := fun i => by
      rw [State.ackAged_check?]
      cases s.check? i with
      | none => exact .none
      | some c =>
        refine .some (Check.SameFigures.follows ?_ _)
        dsimp only
        split
        · exact ⟨rfl, rfl, .inl rfl⟩
        · exact ⟨rfl, rfl, .inl rfl⟩ }

theorem execAckNoticeAged_moves : MovesTo s (execAckNoticeAged h s) :=
  movesTo_next (State.request_moves fun u => u.ackAged_steady.moves)

/-- A new working copy with the values it had changes no total (11 R188). -/
theorem State.setWork_moves {w : Settings} (hw : w.values = s.sst.work.values) : Moves s (s.setWork w) :=
  .single (.settings rfl rfl rfl (.inl fun n _ => by rw [State.setWork, Settings.value, Settings.value, hw]))

theorem execSetTable_moves (first last sect : Nat) : MovesTo s (execSetTable h first last sect s) :=
  movesTo_next (State.request_moves fun u => judged_moves fun _ => u.setWork_moves rfl)

theorem State.roleChanged_steady (t : Nat) (old new : Role) : Steady s (s.roleChanged t old new) := by
  cases new with
  | off =>
    simp only [State.roleChanged]
    split
    · exact .of_eq (by simp)
    · exact s.releaseTerminal_steady t
  | server => exact .refl s
  | manager =>
    simp only [State.roleChanged]
    split
    · exact .of_eq (by simp)
    · exact .refl s

theorem State.writeTerminal_moves (t : Nat) (role : Role) (mask : BitVec 8) : Moves s (s.writeTerminal t role mask) :=
  s.setWork_moves rfl

theorem execSetTerminal_moves (terminal role mask : Nat) : MovesTo s (execSetTerminal h terminal role mask s) :=
  movesTo_next (State.request_moves fun u => judged_moves fun _ =>
    (u.writeTerminal_moves terminal _ _).trans (State.roleChanged_steady _ _ _ _).moves)

theorem execForgetTerminal_moves (terminal : Nat) : MovesTo s (execForgetTerminal h terminal s) :=
  movesTo_next (State.request_moves fun u => judged_moves fun _ => (u.releaseTerminal_steady terminal).moves)

theorem execReadTable_moves (table : Nat) : MovesTo s (execReadTable h table s) :=
  movesTo_next (State.request_moves fun _ => judged_moves fun _ => .refl)

/-- Writing a setting leaves every other as it was (11 R189). -/
theorem Settings.write_value_ne {w : Settings} {n m : Nat} (v : Nat) (hne : m ≠ n) :
    (w.write n v).value m = w.value m := by
  simp [Settings.write, Settings.value, get1_set1, hne]

theorem execSetSetting_moves (number value : Nat) : MovesTo s (execSetSetting h number value s) := by
  refine movesTo_next (State.request_moves fun u => judged_moves fun ht => ?_)
  simp only [judge_eq_none_cons] at ht
  obtain ⟨-, -, hlive, -⟩ := ht
  refine .single (.settings rfl rfl rfl ?_)
  by_cases hn : number ≤ 11
  · exact .inr (by simpa [hn] using hlive)
  · exact .inl fun n hle => Settings.write_value_ne value (by omega)

theorem execReadSetting_moves (number : Nat) : MovesTo s (execReadSetting h number s) :=
  movesTo_next (State.request_moves fun _ => judged_moves fun _ => .refl)

theorem execSaveSettings_moves : MovesTo s (execSaveSettings h s) :=
  movesTo_next (State.request_moves fun u => judged_moves fun _ => .of_eq (t := u.startSave) (by simp))

theorem State.loadCopy_moves (w : Settings) (loaded : LoadedFrom) (hlive : s.anyLive = false) :
    Moves s (s.loadCopy w loaded) := by
  refine .head (.settings (t := { s with sst := { s.sst with work := w, loaded } }) rfl rfl rfl (.inr hlive)) ?_
  exact (Steady.foldl (fun u t => u.releaseTerminal_steady t) (s.turnedOff w) _).moves

theorem execLoadSettings_moves (source : Nat) : MovesTo s (execLoadSettings h source s) := by
  refine movesTo_next (State.request_moves fun u => ?_)
  split
  · exact .refl
  · split
    · exact .refl
    · refine judged_moves fun ht => ?_
      simp only [judge_eq_none_cons, Bool.or_eq_false_iff] at ht
      obtain ⟨⟨-, hlive⟩, -⟩ := ht
      exact u.loadCopy_moves _ _ hlive

theorem execSetClock_moves (day minute : Nat) : MovesTo s (execSetClock h day minute s) :=
  movesTo_next (State.request_moves fun u => judged_moves fun _ => .of_eq (t := u.setClock day minute) (by simp))

theorem execReadPartStatus_moves : MovesTo s (execReadPartStatus h s) :=
  movesTo_next (State.request_moves fun _ => .refl)

theorem execClearLinkFault_moves : MovesTo s (execClearLinkFault h s) :=
  movesTo_next (State.request_moves fun u => .of_eq (t := u.clearFault) (by simp))

theorem execMalformedRequest_moves (kind bodyLen : Nat) : MovesTo s (execMalformedRequest h kind bodyLen s) := by
  refine movesTo_next ?_
  split
  · exact .refl
  · exact State.malformedFrame_moves h kind _

theorem execTagZeroFrame_moves (port : ReqPort) : MovesTo s (execTagZeroFrame port s) := by
  refine movesTo_next ?_
  split
  · exact .of_eq (by simp)
  · exact .refl

end

/-! ## Events -/

section
variable (s : State)

theorem Moves.flushPushes {s t : State} (h : Moves s t) : Moves s t.flushPushes := h.trans (Moves.of_eq (by simp))

theorem State.raiseTimeouts_moves : Moves s s.raiseTimeouts := by
  simp only [State.raiseTimeouts]
  split
  · exact .of_eq (by simp)
  · split
    · exact Relation.ReflTransGen.trans (Moves.of_eq (t := { s with aqp := { s.aqp with timeouts := s.setting 18, link := .failed } }) (by simp))
        (State.departUp_moves _)
    · exact .of_eq (by simp)

theorem State.matchResult_moves (tag : Nat) (body : List Byte) : Moves s (s.matchResult tag body) := by
  unfold State.matchResult
  split
  · exact .of_eq (by simp)
  next j _ =>
    split
    · exact .of_eq (by simp)
    · split
      · exact .of_eq (by simp)
      · exact Moves.flushPushes ((Moves.of_eq (t := s.setEntry j none) (by simp)).trans (State.endExchange_moves _ _ _ _))

theorem execResult_moves (tag : Nat) (body : List Byte) : MovesTo s (execResult tag body s) := by
  refine movesTo_next ?_
  split
  · exact .refl
  · split
    · exact .of_eq (by simp)
    · exact (Moves.of_eq (t := s.clearTimeouts) (by simp)).trans (State.matchResult_moves _ _ _)

theorem execExchangeTimeout_moves (tag : Nat) : MovesTo s (execExchangeTimeout tag s) := by
  refine movesTo_next ?_
  split
  · exact .refl
  next j _ =>
    split
    · exact .refl
    · split
      · exact Moves.flushPushes ((Moves.of_eq (t := (s.doneExchange tag).setEntry j none) (by simp)).trans
          ((State.raiseTimeouts_moves _).trans (State.endExchange_moves _ _ _ _)))
      · exact .refl

theorem execGrant_moves : MovesTo s (execGrant s) := by
  refine movesTo_next ?_
  split
  · split
    · exact .refl
    · split
      · exact .refl
      · exact .of_eq (by simp)
  · exact .refl

theorem execNoLinkCompletion_moves : MovesTo s (execNoLinkCompletion s) := by
  refine movesTo_next ?_
  split
  · split
    · exact .refl
    · exact Moves.flushPushes (s.completeNoLink_moves _)
  · exact .refl

theorem execLinkOkFall_moves : MovesTo s (execLinkOkFall s) := by
  refine movesTo_next ?_
  have hdown : Moves s (s.setLinkOk false) := Moves.of_eq (by simp)
  simp only
  split
  · exact Moves.flushPushes ((hdown.trans (Moves.of_eq (t := (s.setLinkOk false).setLink .down) (by simp))).trans
      (State.departUp_moves _))
  · exact hdown

theorem execLinkOkRise_moves : MovesTo s (execLinkOkRise s) := by
  refine movesTo_next ?_
  simp only
  split
  · exact .of_eq (by simp)
  · exact .of_eq (by simp)

theorem execLeaseExpiry_moves (check tender : Nat) : MovesTo s (execLeaseExpiry check tender s) := by
  refine movesTo_next ?_
  split
  · exact .refl
  next i _ =>
    split
    · exact .refl
    · split
      · exact Moves.flushPushes ((Moves.of_eq (t := s.doneLease i) (by simp)).trans (State.expireLease_steady _ i).moves)
      · exact .refl

theorem execApprovalExpiry_moves (number : Nat) : MovesTo s (execApprovalExpiry number s) := by
  refine movesTo_next ?_
  split
  · exact .refl
  next a _ =>
    split
    · exact Moves.flushPushes ((Moves.of_eq (t := s.doneApproval number) (by simp)).trans (State.endApproval_steady _ a 18).moves)
    · exact .refl

theorem execCheckAged_moves (check : Nat) : MovesTo s (execCheckAged check s) := by
  refine movesTo_next ?_
  split
  · exact .refl
  · split
    · exact .refl
    · split
      · refine (Moves.of_eq (t := s.doneAge check) (by simp)).trans (Steady.moves ?_)
        exact .modSame fun c => ⟨rfl, rfl, .inl rfl⟩
      · exact .refl

theorem execSecondTick_moves : MovesTo s (execSecondTick s) := by
  refine movesTo_next ?_
  simp only
  split
  · split <;> exact .of_eq (by simp)
  · exact .refl

theorem State.passMinutes_steady (n : Nat) : Steady s (s.passMinutes n) := by
  rw [State.passMinutes_frame]
  exact .of_eq ⟨rfl, rfl, rfl, rfl⟩

/-! ## The Front-of-House transaction -/

/-- A request that a transaction carries is a sequence of moves. -/
theorem execRequest_moves (i : Instr) : MovesTo s (execRequest i s) := by
  cases i with
  | hello h => exact execHello_moves h s
  | openCheck h table covers owner => exact execOpenCheck_moves h s table covers owner
  | readCheck h check => exact execReadCheck_moves h s check
  | updateCheck h check covers => exact execUpdateCheck_moves h s check covers
  | presentCheck h check => exact execPresentCheck_moves h s check
  | transferCheck h check table owner => exact execTransferCheck_moves h s check table owner
  | voidCheck h check => exact execVoidCheck_moves h s check
  | closeCheck h check => exact execCloseCheck_moves h s check
  | addLines h check entries => exact execAddLines_moves h s check entries
  | voidLine h check line => exact execVoidLine_moves h s check line
  | discountLine h check line amount => exact execDiscountLine_moves h s check line amount
  | readLines h check first last => exact execReadLines_moves h s check first last
  | setSplit h check kind count => exact execSetSplit_moves h s check kind count
  | setPortion h check portion amount => exact execSetPortion_moves h s check portion amount
  | lockSplit h check => exact execLockSplit_moves h s check
  | startTender h check portion kind amount token => exact execStartTender_moves h s check portion kind amount token
  | submitTip h check tender form figure => exact execSubmitTip_moves h s check tender form figure
  | withdrawTender h check tender => exact execWithdrawTender_moves h s check tender
  | fetchStatus h check tender => exact execFetchStatus_moves h s check tender
  | abandonTender h check tender => exact execAbandonTender_moves h s check tender
  | holdCheck h check => exact execHoldCheck_moves h s check
  | releaseCheck h check => exact execReleaseCheck_moves h s check
  | approve h check number => exact execApprove_moves h s check number
  | reject h check number => exact execReject_moves h s check number
  | setWatch h check mask => exact execSetWatch_moves h s check mask
  | dropWatch h check => exact execDropWatch_moves h s check
  | fetchHits h => exact execFetchHits_moves h s
  | fetchNextPending h => exact execFetchNextPending_moves h s
  | ackNoticeStartup h source => exact execAckNoticeStartup_moves h s source
  | ackNoticeAged h => exact execAckNoticeAged_moves h s
  | setTable h first last sect => exact execSetTable_moves h s first last sect
  | setTerminal h terminal role mask => exact execSetTerminal_moves h s terminal role mask
  | forgetTerminal h terminal => exact execForgetTerminal_moves h s terminal
  | readTable h table => exact execReadTable_moves h s table
  | setSetting h number value => exact execSetSetting_moves h s number value
  | readSetting h number => exact execReadSetting_moves h s number
  | saveSettings h => exact execSaveSettings_moves h s
  | loadSettings h source => exact execLoadSettings_moves h s source
  | setClock h day minute => exact execSetClock_moves h s day minute
  | readPartStatus h => exact execReadPartStatus_moves h s
  | clearLinkFault h => exact execClearLinkFault_moves h s
  | malformedRequest h kind bodyLen => exact execMalformedRequest_moves h s kind bodyLen
  | tagZeroFrame port => exact execTagZeroFrame_moves s port
  | crcErrorFrame _ | frameLenError _ _ | frameIdleTimeout _ _ | requestOverrun _ | fhpTransaction _
  | outputFrameSent _ | result _ _ | nonResultFrame _ | exchangeTimeout _ | grant | noLinkCompletion
  | linkOkFall | linkOkRise | leaseExpiry _ _ | approvalExpiry _ | terminalSilence _ | checkAged _
  | secondTick | minuteTick | saveEnd _ | resetAssert _ | coldStart _ | warmStart _
  | clockAdvanceWithoutPower _ | retentionIndicatorLost => exact movesTo_next .refl

theorem MovesTo.orElse {s : State} {o : Out} (h : MovesTo s o) : Moves s (Out.orElse o s) := by
  cases o with
  | next t => exact h t rfl
  | fault _ | refused _ => exact .refl

theorem State.takeIncoming_moves (bytes : List Byte) : Moves s (s.takeIncoming bytes) := by
  unfold State.takeIncoming
  split
  · exact .refl
  · exact .of_eq (by simp)
  · exact .of_eq (by simp)
  · split
    · exact .refl
    next i _ => exact (execRequest_moves s i).orElse

theorem execFhpTransaction_moves (bytes : List Byte) : MovesTo s (execFhpTransaction bytes s) := by
  refine movesTo_next ?_
  split
  · exact .refl
  · split
    · exact .of_eq (by simp)
    · exact (s.takeIncoming_moves bytes).trans (Moves.of_eq (by simp))

/-! ## Starts -/

theorem State.recoverTender_steady (i : Nat) : Steady s (s.recoverTender i) := by
  unfold State.recoverTender
  split
  · exact .refl s
  · split
    · simp only
      split
      · exact (s.moveTender_steady i _).setStatus
      · exact s.moveTender_steady i _
    · exact .of_eq (by simp)

theorem State.settleStart_steady (changed : List Nat) (slot : Nat) : Steady s (s.settleStart changed slot) := by
  unfold State.settleStart
  split
  · exact .refl s
  · split
    · apply Steady.handEvent
      exact .modSame fun c => ⟨rfl, rfl, .inr rfl⟩
    · split
      · exact (Steady.stepVersion s slot).trans (State.derive_steady _ _ _)
      · exact .refl s

theorem State.restartApprovals_steady : Steady s s.restartApprovals :=
  { Steady.refl s with
    changes := fun b hb => by
      obtain ⟨a, ha, rfl⟩ := List.mem_map.mp hb
      exact ⟨a, ha, rfl⟩ }

theorem State.rebuildQueue_steady : Steady s s.rebuildQueue :=
  Steady.foldl (fun u i => .of_eq (t := u.placeNeed i .reverse) (by simp)) _ _

/-- The tenders after their recovery, their portions and statuses with them (06 R124). -/
def State.tendersRecovered : State := (List.range s.tdu.pool.length).foldl State.recoverTender s

/-- The checks after the recovery of their tenders (01 R23). -/
def State.checksSettled (changed : List Nat) : State :=
  (List.range s.ckt.slots.length).foldl (fun s slot => s.settleStart changed slot) s

theorem State.recoverAll_eq :
    s.recoverAll = (s.tendersRecovered.checksSettled s.recovering).restartLeases.restartApprovals.rebuildQueue := rfl

theorem State.recoverAll_steady : Steady s s.recoverAll := by
  have htenders : Steady s s.tendersRecovered := Steady.foldl State.recoverTender_steady _ s
  have hchecks : Steady s.tendersRecovered (s.tendersRecovered.checksSettled s.recovering) :=
    Steady.foldl (fun u slot => u.settleStart_steady s.recovering slot) _ _
  have hleases : Steady (s.tendersRecovered.checksSettled s.recovering)
      (s.tendersRecovered.checksSettled s.recovering).restartLeases := .of_eq ⟨rfl, rfl, rfl, rfl⟩
  exact ((htenders.trans hchecks).trans hleases).trans
    ((State.restartApprovals_steady _).trans (State.rebuildQueue_steady _))

end

/-! ## Every command -/

/-- A request comes to the part in the same way whether its frame comes alone or in a transaction. -/
theorem exec_eq_execRequest {i : Instr} (hi : (requestOf i).isSome = true) (s : State) :
    exec i s = execRequest i s := by
  cases i with
  | malformedRequest _ _ _ | tagZeroFrame _ | crcErrorFrame _ | frameLenError _ _ | frameIdleTimeout _ _
  | requestOverrun _ | fhpTransaction _ | outputFrameSent _ | result _ _ | nonResultFrame _ | exchangeTimeout _ | grant
  | noLinkCompletion | linkOkFall | linkOkRise | leaseExpiry _ _ | approvalExpiry _ | terminalSilence _ | checkAged _
  | secondTick | minuteTick | saveEnd _ | resetAssert _ | coldStart _ | warmStart _
  | clockAdvanceWithoutPower _ | retentionIndicatorLost => simp [requestOf] at hi
  | _ => rfl

/-- Every command is a sequence of moves. -/
theorem exec_moves (i : Instr) (s : State) : MovesTo s (exec i s) := by
  by_cases hi : (requestOf i).isSome = true
  · rw [exec_eq_execRequest hi]
    exact execRequest_moves s i
  cases i with
  | malformedRequest h kind bodyLen => exact execMalformedRequest_moves h s kind bodyLen
  | tagZeroFrame port => exact execTagZeroFrame_moves s port
  | crcErrorFrame port =>
    refine movesTo_next ?_
    split
    · exact .of_eq (by simp)
    · exact .refl
  | frameLenError port len =>
    refine movesTo_next ?_
    split
    · exact .of_eq (by simp)
    · exact .refl
  | frameIdleTimeout port count =>
    refine movesTo_next ?_
    split
    · exact .refl
    · split
      · exact .of_eq (by simp)
      · split
        · exact .refl
        · exact .of_eq (by simp)
      · exact .of_eq (by simp)
      · exact .of_eq (by simp)
  | requestOverrun port =>
    refine movesTo_next ?_
    split
    · exact .of_eq (by simp)
    · exact .refl
  | fhpTransaction bytes => exact execFhpTransaction_moves s bytes
  | outputFrameSent port =>
    refine movesTo_next ?_
    split
    · exact .refl
    · cases port with
      | flp =>
        dsimp only
        split
        · exact .refl
        · exact .of_eq (by simp)
      | aqp => exact .of_eq (by simp)
  | result tag body => exact execResult_moves s tag body
  | nonResultFrame kind =>
    refine movesTo_next ?_
    split
    · exact .of_eq (by simp)
    · exact .refl
  | exchangeTimeout tag => exact execExchangeTimeout_moves s tag
  | grant => exact execGrant_moves s
  | noLinkCompletion => exact execNoLinkCompletion_moves s
  | linkOkFall => exact execLinkOkFall_moves s
  | linkOkRise => exact execLinkOkRise_moves s
  | leaseExpiry check tender => exact execLeaseExpiry_moves s check tender
  | approvalExpiry number => exact execApprovalExpiry_moves s number
  | terminalSilence terminal =>
    refine movesTo_next ?_
    split
    · exact .of_eq (by simp)
    · exact .refl
  | checkAged check => exact execCheckAged_moves s check
  | secondTick => exact execSecondTick_moves s
  | minuteTick =>
    refine movesTo_next ?_
    split
    · exact .of_eq (by simp)
    · exact .refl
  | saveEnd matched =>
    refine movesTo_next ?_
    split
    · exact .of_eq (by simp)
    · exact .refl
  | resetAssert cause => cases cause <;> exact movesTo_next (.of_eq (by simp))
  | coldStart selLow =>
    refine movesTo_next ?_
    split
    · exact .single (.clear rfl rfl rfl)
    · exact .refl
  | warmStart selLow =>
    refine movesTo_next ?_
    split
    · exact (Moves.of_eq (s := s) (t := (s.startCommon selLow).latchStart .warm) ⟨rfl, rfl, rfl, rfl⟩).trans
        (State.recoverAll_steady _).moves
    · exact .refl
  | clockAdvanceWithoutPower seconds =>
    refine movesTo_next ?_
    split
    · have hpass : Steady s (if s.powered then s.passMinutes ((s.fck.second + seconds) / 60) else s) := by
        split
        · exact s.passMinutes_steady _
        · exact .refl s
      refine Relation.ReflTransGen.trans hpass.moves ?_
      exact Moves.of_eq ⟨rfl, rfl, rfl, rfl⟩
    · exact .refl
  | retentionIndicatorLost =>
    refine movesTo_next ?_
    split
    · exact .single (.clear rfl rfl rfl)
    · exact .refl
  | _ => exact absurd rfl hi

/-- Every step of the block is a sequence of moves, once the command has left the queue. -/
theorem step_moves {s t : State} (h : step s = .next t) : Moves s t := by
  unfold step at h
  split at h
  · obtain rfl := Host.Outcome.next.inj h
    exact .refl
  next c rest _ => exact (Moves.of_eq (t := { s with pending := rest }) (by simp)).trans (exec_moves c _ t h)

/-- Settles O56: every move keeps the figures of every check in order. -/
theorem talliesHoldAlways : Obligations.TalliesHoldAlways := fun _ _ hstep hs =>
  (step_moves hstep).keeps (P := TalliesHold) (fun _ _ hm => hm.talliesHold) hs

/-- Settles O50: every move keeps the checks seated. -/
theorem checksStaySeated : Obligations.ChecksStaySeated := fun _ _ hstep hs =>
  checksSeated_iff.mpr ((step_moves hstep).keeps (P := Seated) (fun _ _ hm => hm.seated) (checksSeated_iff.mp hs))

end Sys2Proof.Machine
end

section
/-! The requests on checks that are carried out (01 R11 to R18, 08 R150 to R151). -/

namespace Sys2Proof.Machine

section
variable {s : State} {h : Hdr} {cls : ReqClass} {number slot : Nat} {c : Check}

/-- A request that its class admits ends with the answer its block gives. -/
theorem request_eq_finish (hj : Judged s h cls) {kind : Nat} {act : State → State × Reply} {t : State} {code : Code}
    {body : List Byte} (ha : act (s.hear h.term) = (t, reply code body)) :
    s.request h kind cls act = t.finish h kind code body := by
  rw [request_of_judged hj, ha, State.finish]

theorem takenSummary_of_check {t : State} (ht : t.check? slot = some c) :
    t.takenSummary slot = (t, reply .taken (t.summary c)) := by
  rw [State.takenSummary, State.summaryAt, ht]

end

/-- Settles O8: under its hypotheses no test of OPEN CHECK refuses. -/
theorem openCheckCompletes : Obligations.OpenCheckCompletes := by
  intro s h table covers owner slot hj hserver hother ht1 ht2 hc1 hc2 hsect hslot hlist
  let c := newCheck s.freeNumber table covers (if owner = 255 then h.term else owner) s.fck.day s.fck.minute
  have hlive : ((s.hear h.term).placeCheck slot c).check? slot = some c := by
    rw [State.placeCheck_check? (State.freeSlot_spec (by simpa using hslot)).1, if_pos rfl]
  have hfck : ((s.hear h.term).placeCheck slot c).fck = s.fck := by simp
  have hpass : judge
      [(s.isServer h.term && owner != 255 && owner != h.term, refuse .denied),
       (s.isServer h.term && tableExists table && !s.works h.term (s.sectionOf table), refuse .denied),
       (!s.isServer h.term && owner != 255 && !s.mayOwn owner, rangeField 3),
       (!tableExists table, rangeField 1),
       (covers == 0 || decide (30 < covers), rangeField 2),
       (s.sectionOf table == 0, refuse .busy),
       (s.freeSlot.isNone, fullReply 1),
       (s.tableFull table, fullReply 2)] = none := by
    have htable : tableExists table = true := tableExists_iff.mpr ⟨ht1, ht2⟩
    have hcovers : covers ≠ 0 := by omega
    have hroom : s.tableFull table = false := by
      simp only [State.tableFull, decide_eq_false_iff_not]; exact Nat.not_le_of_lt hlist
    cases hs : s.isServer h.term with
    | true =>
      obtain ⟨howner, hworks⟩ := hserver hs
      simp only [judge_eq_none_cons, judge_nil, htable, hworks, hroom, hslot]
      simp [hcovers, hc2, hsect]
      tauto
    | false =>
      have howner := hother hs
      simp only [judge_eq_none_cons, judge_nil, htable, hroom, hslot]
      simp [hcovers, hc2, hsect]
      tauto
  refine ⟨c, (s.hear h.term).placeCheck slot c, ?_, rfl, rfl, rfl, rfl, rfl, rfl, rfl, rfl, rfl, rfl, rfl, rfl, rfl,
    rfl, rfl, rfl, rfl, rfl, rfl, ?_⟩
  · show Host.Outcome.next _ = _
    congr 1
    refine request_eq_finish hj ?_
    simp only [State.hear_isServer, State.hear_works, State.hear_sectionOf, State.hear_mayOwn, State.hear_freeSlot,
      State.hear_tableFull, State.hear_freeNumber, State.hear_fck]
    rw [judged_of_pass hpass, hslot, Option.getD_some, takenSummary_of_check hlive, summary_of_fck hfck]
  · simp only [State.placeCheck, State.seatAt, State.hear_ckt, State.hear_fmp_lists]
    rfl

section
variable {s : State} {h : Hdr} {number slot : Nat} {c : Check}

theorem updateCheck_completes {covers : Nat} {c' : Check} (hj : Judged s h .change) (hn : Named s number slot c)
    (hmay : s.mayChange h.term c = true) (hready : Ready c h) (hopen : c.orderable = true) (hc1 : 1 ≤ covers)
    (hc2 : covers ≤ 30) (hok : recompute s.sst.work { c with covers } = .ok c') :
    exec (.updateCheck h number covers) s = .next
      (((s.hear h.term).modCheck slot fun _ => { c' with version := nextVersion c.version }).finish h 0x12 .taken
        (s.summary { c' with version := nextVersion c.version })) := by
  obtain ⟨hstale, hheld⟩ := hready
  have hcovers : covers ≠ 0 := by omega
  have hversion : c'.version = c.version := by
    obtain ⟨-, -, rfl⟩ := recompute_eq_ok hok
    rfl
  show Host.Outcome.next _ = _
  congr 1
  refine request_eq_finish hj ?_
  rw [withCheck_of_named (hn.hear _), State.hear_sst, hok, judged_of_pass, State.writeFigures, Check.stepVersion,
    hversion]
  · rw [takenSummary_of_check (c := { c' with version := nextVersion c.version }) (by simp [hn.2]),
      summary_of_fck (v := s) (by simp)]
  · simp [judge_eq_none_cons, judge_nil, hmay, hstale, hheld, hopen, hcovers, hc2, Tally.test, Tally.refusal]

theorem presentCheck_completes (hj : Judged s h .change) (hn : Named s number slot c)
    (hmay : s.mayChange h.term c = true) (hready : Ready c h) (hopen : c.state = .opened) :
    exec (.presentCheck h number) s = .next
      ((((s.hear h.term).modCheck slot fun _ =>
            { c with version := nextVersion c.version, state := .presented }).handEvent number .presented).finish
        h 0x13 .taken (s.summary { c with version := nextVersion c.version, state := .presented })) := by
  obtain ⟨hstale, hheld⟩ := hready
  obtain rfl := hn.number_eq
  show Host.Outcome.next _ = _
  congr 1
  refine request_eq_finish hj ?_
  rw [withCheck_of_named (hn.hear _), judged_of_pass, State.modCheck_congr (hn.hear _).2 (g := fun _ =>
    { c with version := nextVersion c.version, state := .presented }) rfl]
  · rw [takenSummary_of_check (c := { c with version := nextVersion c.version, state := .presented })
      (by simp [hn.2]), summary_of_fck (v := s) (by simp)]
  · simp [judge_eq_none_cons, judge_nil, hmay, hstale, hheld, hopen]

/-- The tests of TRANSFER CHECK, in their order (01 R15). -/
def transferTests (s : State) (h : Hdr) (c : Check) (table owner : Nat) : List (Bool × Reply) :=
  [(!s.mayChange h.term c, refuse .denied),
   (s.isServer h.term && movesTable c table && tableExists table && !s.works h.term (s.sectionOf table),
     refuse .denied),
   (movesTable c table && !tableExists table, rangeField 2),
   (changesOwner c owner && !s.mayOwn owner, rangeField 3),
   (!movesTable c table && !changesOwner c owner, rangeField 2),
   (c.isStale h.ver, staleReply c),
   (c.held, refuse .held),
   (c.closeRunning || (movesTable c table && s.sectionOf table == 0), refuse .busy),
   (movesTable c table && s.tableFull table, fullReply 2),
   ((s.isServer h.term && changesOwner c owner) && s.approvalsFull, fullReply 7)]

/-- TRANSFER CHECK refuses nothing where its parts may change, and a parked one finds a free record (01 R15, R150). -/
theorem transferTests_pass {table owner : Nat} (hmay : s.mayChange h.term c = true) (hready : Ready c h)
    (hclose : c.closeRunning = false) (hany : ¬(movesTable c table = false ∧ changesOwner c owner = false))
    (hmoves : movesTable c table = true → table ≤ 400 ∧ s.sectionOf table ≠ 0 ∧ (s.tableList table).length < 4
      ∧ (s.isServer h.term = true → s.works h.term (s.sectionOf table) = true))
    (howns : changesOwner c owner = true →
      s.mayOwn owner = true ∧ (s.isServer h.term = true → s.approvalsFull = false)) :
    judge (transferTests s h c table owner) = none := by
  obtain ⟨hstale, hheld⟩ := hready
  simp only [transferTests, judge_eq_none_cons, judge_nil, hmay, hstale, hheld, hclose]
  have howner : (changesOwner c owner && !s.mayOwn owner) = false
      ∧ ((s.isServer h.term && changesOwner c owner) && s.approvalsFull) = false := by
    cases ho : changesOwner c owner with
    | false => simp
    | true =>
      obtain ⟨hown, hfull⟩ := howns ho
      cases hs : s.isServer h.term with
      | false => simp [hown]
      | true => simp [hown, hfull hs]
  cases hm : movesTable c table with
  | false =>
    have ho : changesOwner c owner = true := by simpa [hm] using hany
    obtain ⟨hown, hfull⟩ := howns ho
    simpa [ho, hown] using hfull
  | true =>
    obtain ⟨hle, hsect, hroom, hworks⟩ := hmoves hm
    have hne : table ≠ 0 := by
      rintro rfl
      simp [movesTable] at hm
    have htable : tableExists table = true := tableExists_iff.mpr ⟨by omega, hle⟩
    have hfree : s.tableFull table = false := by
      simp only [State.tableFull, decide_eq_false_iff_not]; exact Nat.not_le_of_lt hroom
    cases hs : s.isServer h.term with
    | false => simp_all
    | true => simp_all

theorem transferCheck_completes {table owner : Nat} (hj : Judged s h .change) (hn : Named s number slot c)
    (hmay : s.mayChange h.term c = true) (hready : Ready c h) (hclose : c.closeRunning = false)
    (hany : ¬(movesTable c table = false ∧ changesOwner c owner = false))
    (hmoves : movesTable c table = true → table ≤ 400 ∧ s.sectionOf table ≠ 0 ∧ (s.tableList table).length < 4
      ∧ (s.isServer h.term = true → s.works h.term (s.sectionOf table) = true))
    (howns : changesOwner c owner = true → s.mayOwn owner = true ∧ s.isServer h.term = false) :
    exec (.transferCheck h number table owner) s = .next
      (((if movesTable c table then ((s.hear h.term).unseat c.table slot).seatAt table slot
          else s.hear h.term).modCheck slot fun _ =>
            { c with table := if movesTable c table then table else c.table
                     owner := if changesOwner c owner then owner else c.owner
                     version := nextVersion c.version }).finish h 0x14 .taken
        (s.summary { c with table := if movesTable c table then table else c.table
                            owner := if changesOwner c owner then owner else c.owner
                            version := nextVersion c.version })) := by
  have hpass : judge (transferTests s h c table owner) = none :=
    transferTests_pass hmay hready hclose hany hmoves fun ho => ⟨(howns ho).1, fun hs => by simp [(howns ho).2] at hs⟩
  have hpark : (s.isServer h.term && changesOwner c owner) = false := by
    cases ho : changesOwner c owner with
    | false => simp
    | true => simp [(howns ho).2]
  show Host.Outcome.next _ = _
  congr 1
  refine request_eq_finish hj ?_
  rw [withCheck_of_named (hn.hear _)]
  simp only [State.hear_mayChange, State.hear_isServer, State.hear_works, State.hear_sectionOf, State.hear_mayOwn,
    State.hear_tableFull, State.hear_approvalsFull]
  unfold transferTests at hpass
  rw [judged_of_pass hpass, hpark, if_neg (by simp)]
  let c' : Check := { c with table := if movesTable c table then table else c.table
                             owner := if changesOwner c owner then owner else c.owner
                             version := nextVersion c.version }
  have hmoved : ((s.hear h.term).moveCheck slot c table owner).modCheck slot Check.stepVersion
      = (if movesTable c table then ((s.hear h.term).unseat c.table slot).seatAt table slot
          else s.hear h.term).modCheck slot fun _ => c' := by
    rw [State.moveCheck, State.modCheck_modCheck]
    refine State.modCheck_congr (c := c) ?_ rfl
    split <;> simp [hn.2]
  rw [hmoved, takenSummary_of_check (c := c') (by split <;> simp [hn.2]), summary_of_fck (v := s) (by split <;> simp)]

end

/-! ## CLOSE CHECK and VOID CHECK (01 R16 to R18) -/

/-- A tender as it goes to its capture (01 R17, 06 R103). -/
def Tender.toCapturing (x : Tender) : Tender := { x with state := .capturing, captureFault := false, sent := false }

theorem State.startCapture_queue (s : State) (i : Nat) :
    (s.startCapture i).aqp.queue = s.aqp.queue ++ [{ tender := i, kind := .capture }] := rfl

theorem State.startCapture_tender? (s : State) (i j : Nat) :
    (s.startCapture i).tender? j = (s.tender? j).map fun x => if j = i then x.toCapturing else x := by
  show ((s.modTender i _).modTender i _).tender? j = _
  rw [State.modTender_tender?, State.modTender_tender?]
  by_cases hij : i = j
  · subst hij
    simp only [if_true, Option.map_map]
    rfl
  · simp [hij, Ne.symm hij]

theorem State.foldl_startCapture_queue (l : List Nat) (s : State) :
    (l.foldl State.startCapture s).aqp.queue
      = s.aqp.queue ++ l.map fun i => ({ tender := i, kind := .capture } : Need) := by
  induction l generalizing s with
  | nil => simp
  | cons i l ih => rw [List.foldl_cons, ih, State.startCapture_queue, List.map_cons, List.append_assoc]; rfl

theorem State.foldl_startCapture_tender? (l : List Nat) (s : State) (j : Nat) :
    (l.foldl State.startCapture s).tender? j
      = (s.tender? j).map fun x => if j ∈ l then x.toCapturing else x := by
  induction l generalizing s with
  | nil => simp
  | cons i l ih =>
    rw [List.foldl_cons, ih, State.startCapture_tender?, Option.map_map]
    congr 1
    funext x
    by_cases hji : j = i <;> by_cases hjl : j ∈ l <;> simp [hji, hjl, Tender.toCapturing]

theorem State.foldl_startCapture_check? (l : List Nat) (s : State) (j : Nat) :
    (l.foldl State.startCapture s).check? j = s.check? j := by
  induction l generalizing s with
  | nil => rfl
  | cons i l ih => rw [List.foldl_cons, ih]; simp [State.startCapture]

/-- A check on its way to its captures (01 R17, R18). -/
def Check.toClosing (c : Check) : Check :=
  { c with version := nextVersion c.version, state := .closing, closeFault := none }

section
variable {s : State} {h : Hdr} {number slot : Nat} {c : Check}

theorem State.startClose_check? (hc : s.check? slot = some c) (l : List Nat) (j : Nat) :
    (s.startClose slot l).check? j = if j = slot then some c.toClosing else s.check? j := by
  rw [State.startClose, State.foldl_startCapture_check?, State.modCheck_check?]
  by_cases hj : slot = j
  · subst hj; simp [hc, Check.toClosing, Check.stepVersion]
  · simp [hj, Ne.symm hj]

theorem State.startClose_queue (l : List Nat) :
    (s.startClose slot l).aqp.queue = s.aqp.queue ++ l.map fun i => ({ tender := i, kind := .capture } : Need) := by
  rw [State.startClose, State.foldl_startCapture_queue, State.modCheck_aqp]

theorem State.startClose_tender? (l : List Nat) (i : Nat) :
    (s.startClose slot l).tender? i = (s.tender? i).map fun x => if i ∈ l then x.toCapturing else x := by
  rw [State.startClose, State.foldl_startCapture_tender?, State.modCheck_tender?]

theorem voidCheck_completes (hj : Judged s h .change) (hn : Named s number slot c)
    (hmay : s.mayChange h.term c = true) (hready : Ready c h) (hserver : s.isServer h.term = false)
    (hpend : (s.hear h.term).anyPending c = false) (hopen : c.orderable = true) :
    exec (.voidCheck h number) s = .next
      (((s.hear h.term).retire slot).finish h 0x15 .taken (be2 number ++ [Config.retiredByte])) := by
  obtain ⟨hstale, hheld⟩ := hready
  show Host.Outcome.next _ = _
  congr 1
  refine request_eq_finish hj ?_
  rw [withCheck_of_named (hn.hear _), judged_of_pass, State.hear_isServer, hserver, if_neg (by simp), retiredBody,
    hn.number_eq]
  simp [judge_eq_none_cons, judge_nil, hmay, hstale, hheld, hserver, hpend, hopen]

/-- An admitted CLOSE CHECK acts on what it has to capture (01 R17). -/
theorem closeCheck_eq {t : State} {body : List Byte} (hj : Judged s h .change) (hn : Named s number slot c)
    (hmay : s.mayChange h.term c = true) (hready : Ready c h) (hpend : (s.hear h.term).anyPending c = false)
    (hclose : c.mayClose = true)
    (hact : (if ((s.hear h.term).toCapture c).isEmpty then
        ((s.hear h.term).retire slot, reply .taken (retiredBody c.number))
      else ((s.hear h.term).startClose slot ((s.hear h.term).toCapture c)).takenSummary slot)
        = (t, reply .taken body)) :
    exec (.closeCheck h number) s = .next (t.finish h 0x16 .taken body) := by
  obtain ⟨hstale, hheld⟩ := hready
  show Host.Outcome.next _ = _
  congr 1
  refine request_eq_finish hj ?_
  rw [withCheck_of_named (hn.hear _), judged_of_pass, hact]
  simp [judge_eq_none_cons, judge_nil, hmay, hstale, hheld, hpend, hclose]

/-- Settles O10: a close with nothing to capture and a void retire the check, and a close with captures takes them
through the wait queue in their order. -/
theorem closingRequestsComplete : Obligations.ClosingRequestsComplete := by
  refine ⟨fun _ _ _ _ _ hj hn hmay hready hserver hpend hopen =>
    voidCheck_completes hj hn hmay hready hserver hpend hopen, ?_, ?_⟩
  · intro s h number slot c hj hn hmay hready hpend hclose hnone
    refine closeCheck_eq hj hn hmay hready hpend hclose ?_
    rw [hnone, List.isEmpty_nil, if_pos rfl, retiredBody, hn.number_eq]
  · intro s h number slot c hj hn hmay hready hpend hclose hsome
    have hcheck : ∀ j, ((s.hear h.term).startClose slot ((s.hear h.term).toCapture c)).check? j
        = if j = slot then some c.toClosing else s.check? j := fun j => by
      rw [State.startClose_check? (hn.hear _).2, State.hear_check?]
    have hself := (hcheck slot).trans (if_pos rfl)
    refine ⟨_, closeCheck_eq hj hn hmay hready hpend hclose ?_, hself, fun j hjs => by rw [hcheck, if_neg hjs], ?_,
      fun i => State.startClose_tender? _ i⟩
    · rw [if_neg (by simpa using hsome), takenSummary_of_check hself, summary_of_fck (v := s) (by simp)]
      rfl
    · rw [State.startClose_queue, State.hear_aqp]

end

/-- Settles O9: no test of the three requests refuses, and each writes its one change. -/
theorem checkRequestsComplete : Obligations.CheckRequestsComplete :=
  ⟨fun _ _ _ _ _ _ _ hj hn hmay hready hopen hc1 hc2 hok =>
      updateCheck_completes hj hn hmay hready hopen hc1 hc2 hok,
    fun _ _ _ _ _ hj hn hmay hready hopen => presentCheck_completes hj hn hmay hready hopen,
    fun _ _ _ _ _ _ _ hj hn hmay hready hclose hany hmoves howns =>
      transferCheck_completes hj hn hmay hready hclose hany hmoves howns⟩

/-! ## Parked changes (08 R150, R151) -/

section
variable {s : State} {slot : Nat} {c : Check}

theorem State.mapLeases_tender? (s : State) (slot : Nat) (f : Lease → Lease) (i : Nat) :
    (s.mapLeases slot f).tender? i = (s.tender? i).map fun x =>
      if x.slot = slot ∧ x.state = .tipWait then { x with lease := f x.lease } else x := by
  simp only [State.tender?, State.mapLeases, List.getElem?_map]
  cases s.tdu.pool[i]? with
  | none => rfl
  | some o => cases o <;> rfl

/-- A check with one hold reason more (08 R144). -/
def Check.heldFor (c : Check) (r : HoldReason) : Check :=
  { c with holds := c.holds.put r true, version := nextVersion c.version }

/-- The first hold reason of a check hands on HELD and pauses its leases (08 R144). -/
theorem State.addHold_of_unheld (hc : s.check? slot = some c) (hheld : c.held = false) (r : HoldReason) :
    s.addHold slot r
      = ((s.modCheck slot fun _ => c.heldFor r).handEvent c.number .held).mapLeases slot (Lease.pause s.now) := by
  have hmod : (s.modCheck slot fun c => { c with holds := c.holds.put r true, version := nextVersion c.version })
      = s.modCheck slot fun _ => c.heldFor r := State.modCheck_congr hc rfl
  simp only [State.addHold, hc, hheld, hmod, Bool.false_eq_true, if_false, State.now, State.modCheck_fck]

/-- The state after a change has been parked, from the state in which the record was made (08 R150). -/
def State.parkedAt (s : State) (slot : Nat) (a : Approval) : State :=
  if s.apu.table = [] then ((s.withRecord a).addHold slot .approval).announceWaiting
  else (s.withRecord a).addHold slot .approval

section
variable (hc : s.check? slot = some c) (hheld : c.held = false) (a : Approval)
include hc hheld

theorem State.withRecord_addHold :
    (s.withRecord a).addHold slot .approval
      = (((s.withRecord a).modCheck slot fun _ => c.heldFor .approval).handEvent c.number .held).mapLeases slot
          (Lease.pause s.now) :=
  (s.withRecord a).addHold_of_unheld hc hheld .approval

theorem State.parkedAt_check? (j : Nat) :
    (s.parkedAt slot a).check? j = if j = slot then some (c.heldFor .approval) else s.check? j := by
  have hhold : ((s.withRecord a).addHold slot .approval).check? j
      = if j = slot then some (c.heldFor .approval) else s.check? j := by
    rw [State.withRecord_addHold hc hheld, State.mapLeases_check?, State.handEvent_check?, State.modCheck_check?]
    have hsame : (s.withRecord a).check? j = s.check? j := rfl
    by_cases hj : slot = j
    · subst hj; simp [hsame, hc]
    · simp [hsame, hj, Ne.symm hj]
  rw [← hhold]
  unfold State.parkedAt
  split <;> simp [State.check?]

theorem State.parkedAt_tender? (i : Nat) :
    (s.parkedAt slot a).tender? i = (s.tender? i).map fun x =>
      if x.slot = slot ∧ x.state = .tipWait then { x with lease := x.lease.pause s.now } else x := by
  have hhold : ((s.withRecord a).addHold slot .approval).tender? i = (s.tender? i).map fun x =>
      if x.slot = slot ∧ x.state = .tipWait then { x with lease := x.lease.pause s.now } else x := by
    rw [State.withRecord_addHold hc hheld, State.mapLeases_tender?, State.handEvent_tender?]
    rfl
  rw [← hhold]
  unfold State.parkedAt
  split <;> simp [State.tender?]

theorem State.parkedAt_hits : (s.parkedAt slot a).wnu.hits = (s.handEvent c.number .held).wnu.hits := by
  have hhold : ((s.withRecord a).addHold slot .approval).wnu.hits = (s.handEvent c.number .held).wnu.hits := by
    rw [State.withRecord_addHold hc hheld]
    exact State.handEvent_hits_congr (s := (s.withRecord a).modCheck slot _) (t := s) rfl rfl c.number .held
  rw [← hhold]
  unfold State.parkedAt
  split <;> simp

/-- Parking makes the record and answers with the check as the hold leaves it (08 R150, R151). -/
theorem State.park_eq (term : Nat) (change : Parked) :
    s.park slot term change
      = (s.parkedAt slot (s.parkRecord slot term change),
          reply .parked (be1 (s.parkRecord slot term change).number ++ be1 change.toNat ++ parkedBytes change
            ++ s.summary (c.heldFor .approval))) := by
  have hfst : (s.park slot term change).1 = s.parkedAt slot (s.parkRecord slot term change) := by
    simp only [State.park_fst, State.parkedAt, List.isEmpty_iff]
  have hsnd : (s.park slot term change).2
      = reply .parked (be1 (s.parkRecord slot term change).number ++ be1 change.toNat ++ parkedBytes change
          ++ (s.park slot term change).1.summaryAt slot) := by
    simp only [State.park, State.parkRecord, List.length_map]
  have hsummary : (s.parkedAt slot (s.parkRecord slot term change)).summaryAt slot
      = s.summary (c.heldFor .approval) := by
    rw [State.summaryAt, State.parkedAt_check? hc hheld, if_pos rfl]
    refine summary_of_fck ?_ _
    unfold State.parkedAt
    split <;> simp [State.withRecord]
  rw [← hsummary, ← hfst, ← hsnd]

end

theorem State.hear_parkRecord (s : State) (t slot term : Nat) (change : Parked) :
    (s.hear t).parkRecord slot term change = s.parkRecord slot term change := by
  simp [State.parkRecord]

end

section
variable {s : State} {h : Hdr} {number slot : Nat} {c : Check}

/-- The tests of the parked changes that concern the approval table pass where a record is free (03 R50, R52). -/
theorem approvalsFull_eq_false (h : s.apu.table.length < 16) : s.approvalsFull = false := by
  simp only [State.approvalsFull, decide_eq_false_iff_not]; exact Nat.not_le_of_lt h

theorem voidCheck_parks (hj : Judged s h .change) (hn : Named s number slot c)
    (hmay : s.mayChange h.term c = true) (hready : Ready c h) (hserver : s.isServer h.term = true)
    (hfree : s.apu.table.length < 16) (hopen : c.orderable = true) (hpend : (s.hear h.term).anyPending c = false)
    {t : State} {body : List Byte}
    (hpark : (s.hear h.term).park slot h.term .voidCheck = (t, reply .parked body)) :
    exec (.voidCheck h number) s = .next (t.finish h 0x15 .parked body) := by
  obtain ⟨hstale, hheld⟩ := hready
  show Host.Outcome.next _ = _
  congr 1
  refine request_eq_finish hj ?_
  rw [withCheck_of_named (hn.hear _), judged_of_pass, State.hear_isServer, hserver, if_pos rfl, hpark]
  simp [judge_eq_none_cons, judge_nil, hmay, hstale, hheld, hpend, hopen, approvalsFull_eq_false hfree]

theorem transferCheck_parks {table owner : Nat} (hj : Judged s h .change) (hn : Named s number slot c)
    (hmay : s.mayChange h.term c = true) (hready : Ready c h) (hserver : s.isServer h.term = true)
    (hfree : s.apu.table.length < 16) (howns : changesOwner c owner = true) (hown : s.mayOwn owner = true)
    (hclose : c.closeRunning = false)
    (hmoves : movesTable c table = true → table ≤ 400 ∧ s.sectionOf table ≠ 0 ∧ (s.tableList table).length < 4
      ∧ s.works h.term (s.sectionOf table) = true)
    {t : State} {body : List Byte}
    (hpark : (s.hear h.term).park slot h.term (.transferCheck (if movesTable c table then table else 0) owner)
      = (t, reply .parked body)) :
    exec (.transferCheck h number table owner) s = .next (t.finish h 0x14 .parked body) := by
  have hpass : judge (transferTests s h c table owner) = none :=
    transferTests_pass hmay hready hclose (by simp [howns])
      (fun hm => by obtain ⟨h1, h2, h3, h4⟩ := hmoves hm; exact ⟨h1, h2, h3, fun _ => h4⟩)
      fun _ => ⟨hown, fun _ => approvalsFull_eq_false hfree⟩
  show Host.Outcome.next _ = _
  congr 1
  refine request_eq_finish hj ?_
  rw [withCheck_of_named (hn.hear _)]
  simp only [State.hear_mayChange, State.hear_isServer, State.hear_works, State.hear_sectionOf, State.hear_mayOwn,
    State.hear_tableFull, State.hear_approvalsFull]
  unfold transferTests at hpass
  rw [judged_of_pass hpass, hserver, howns, Bool.and_self, if_pos rfl, hpark]

theorem voidLine_parks {line : Nat} {l : Line} {c' : Check} (hj : Judged s h .change) (hn : Named s number slot c)
    (hmay : s.mayChange h.term c = true) (hready : Ready c h) (hserver : s.isServer h.term = true)
    (hfree : s.apu.table.length < 16) (hone : s.approvalOf slot = none) (hline : c.line? line = some l)
    (hvoid : l.void = false) (hstate : c.state = .presented)
    (hok : recompute s.sst.work (c.withVoid line) = .ok c') {t : State} {body : List Byte}
    (hpark : (s.hear h.term).park slot h.term (.voidLine line) = (t, reply .parked body)) :
    exec (.voidLine h number line) s = .next (t.finish h 0x21 .parked body) := by
  obtain ⟨hstale, hheld⟩ := hready
  have hopen : c.orderable = true := by simp [Check.orderable, hstate]
  show Host.Outcome.next _ = _
  congr 1
  refine request_eq_finish hj ?_
  rw [withCheck_of_named (hn.hear _)]
  simp only [State.hear_mayChange, hmay, hline, Bool.not_true, Bool.false_eq_true, if_false]
  rw [judged_of_pass, State.hear_isServer, hserver, hstate, if_pos (by simp), hpark]
  simp [judge_eq_none_cons, judge_nil, State.parkTests, hstale, hheld, hopen, hvoid, hok, Tally.test,
    Tally.refusal, hone, approvalsFull_eq_false hfree]

theorem discountLine_parks {line amount : Nat} {l : Line} {c' : Check} (hj : Judged s h .change)
    (hn : Named s number slot c) (hmay : s.mayChange h.term c = true) (hready : Ready c h)
    (hserver : s.isServer h.term = true) (hfree : s.apu.table.length < 16) (hone : s.approvalOf slot = none)
    (hline : c.line? line = some l) (hvoid : l.void = false) (hopen : c.orderable = true) (hamount : amount ≤ 99999999)
    (habove : l.gross * s.setting 14 / 100000 < min amount l.gross)
    (hok : recompute s.sst.work (c.withDiscount line (min amount l.gross)) = .ok c') {t : State} {body : List Byte}
    (hpark : (s.hear h.term).park slot h.term (.discountLine line (min amount l.gross)) = (t, reply .parked body)) :
    exec (.discountLine h number line amount) s = .next (t.finish h 0x22 .parked body) := by
  obtain ⟨hstale, hheld⟩ := hready
  have hparks : discountLimit s.sst.work l.gross < min amount l.gross := habove
  have hmax : ¬ Config.maxAmount < amount := Nat.not_lt_of_le hamount
  show Host.Outcome.next _ = _
  congr 1
  refine request_eq_finish hj ?_
  rw [withCheck_of_named (hn.hear _)]
  simp only [State.hear_mayChange, hmay, hline, Bool.not_true, Bool.false_eq_true, if_false]
  rw [judged_of_pass, State.hear_isServer, hserver, State.hear_sst, if_pos (by simpa using hparks), hpark]
  simp [judge_eq_none_cons, judge_nil, State.parkTests, hstale, hheld, hopen, hvoid, hok, Tally.test,
    Tally.refusal, hone, approvalsFull_eq_false hfree, hmax]

end

/-- Settles O12: each of the four changes passes its tests and is parked. -/
theorem parkedChangesComplete : Obligations.ParkedChangesComplete := by
  intro s h number slot c i kind change hj hn hmay hready hserver hfree hone hcase
  have hheld : c.held = false := hready.2
  have hc : (s.hear h.term).check? slot = some c := (hn.hear _).2
  have hpark := State.park_eq hc hheld h.term change
  rw [State.hear_parkRecord] at hpark
  refine ⟨s.parkRecord slot h.term change, (s.hear h.term).parkedAt slot (s.parkRecord slot h.term change), ?_, rfl, rfl,
    rfl, rfl, rfl, ?_, ?_, fun j hjs => ?_, ?_, fun i => ?_, ?_, ?_, ?_, ?_, ?_⟩
  · rw [State.hear_summary] at hpark
    rcases hcase with ⟨rfl, rfl, rfl, hopen, hpend⟩ | ⟨table, owner, rfl, rfl, rfl, howns, hown, hclose, hmoves⟩
      | ⟨line, l, c', rfl, rfl, rfl, hline, hvoid, hstate, hok⟩
      | ⟨line, amount, l, c', rfl, rfl, rfl, hline, hvoid, hopen, hamount, habove, hok⟩
    · exact voidCheck_parks hj hn hmay hready hserver hfree hopen hpend hpark
    · exact transferCheck_parks hj hn hmay hready hserver hfree howns hown hclose hmoves hpark
    · exact voidLine_parks hj hn hmay hready hserver hfree hone hline hvoid hstate hok hpark
    · exact discountLine_parks hj hn hmay hready hserver hfree hone hline hvoid hopen hamount habove hok hpark
  · unfold State.parkedAt
    split <;> simp [State.withRecord]
  · rw [State.parkedAt_check? hc hheld, if_pos rfl]; rfl
  · rw [State.parkedAt_check? hc hheld, if_neg hjs, State.hear_check?]
  · simp only [State.parkedAt, State.withRecord, State.hear_apu]
  · rw [State.parkedAt_tender? hc hheld, State.hear_now]
    rfl
  · rw [State.parkedAt_hits hc hheld, hn.number_eq]
    exact State.handEvent_hits_congr (by simp) (by simp) number .held
  all_goals
    unfold State.parkedAt
    split <;> simp [State.withRecord]

end Sys2Proof.Machine
end

section
/-! The state at reset, and the invariants it meets (11 R197). -/

namespace Sys2Proof.Machine

theorem State.reset_tender? (i : Nat) : State.reset.tender? i = none := by
  by_cases hi : i < Config.tenderRecords <;> simp [State.tender?, State.reset, hi]

theorem State.reset_liveChecks : State.reset.liveChecks = [] :=
  List.eq_nil_iff_forall_not_mem.mpr fun c hc => by
    obtain ⟨i, hi⟩ := State.mem_liveChecks.mp hc
    simp [State.reset_check?] at hi

/-- An entry of a list of equal entries is that entry (00, Counts and numbering). -/
theorem get1_replicate {α : Type} (n i : Nat) (a : α) : get1 (List.replicate n a) i a = a := by
  unfold get1
  split
  · rfl
  · rw [List.getD_eq_getElem?_getD]
    by_cases hi : i - 1 < n <;> simp [hi]

theorem State.reset_tableList (n : Nat) : State.reset.tableList n = [] := get1_replicate Config.tableCount n []

theorem State.reset_hitSet (n : Nat) : State.reset.hitSet n = [] := get1_replicate Config.terminalCount n []

theorem State.reset_pendCount (n : Nat) : State.reset.pendCount n = 0 := get1_replicate Config.terminalCount n 0

theorem State.reset_entries : State.reset.aqp.entries.filterMap id = [] := by decide

/-- The default of every setting is within its bounds (11 R188). -/
theorem Settings.defaults_value {n : Nat} (h1 : 1 ≤ n) (h2 : n ≤ 23) :
    (settingBounds n).1 ≤ Settings.defaults.value n ∧ Settings.defaults.value n ≤ (settingBounds n).2 := by
  have hall : ∀ k ∈ List.range 24, 1 ≤ k →
      (settingBounds k).1 ≤ get1 defaultValues k 0 ∧ get1 defaultValues k 0 ≤ (settingBounds k).2 := by decide
  exact hall n (List.mem_range.mpr (by omega)) h1

theorem Settings.defaults_inRange : Settings.defaults.InRange :=
  ⟨⟨rfl, fun _ h1 h2 => Settings.defaults_value h1 h2⟩,
    ⟨List.length_replicate, fun x hx => by rw [List.eq_of_mem_replicate hx]; omega⟩,
    List.length_replicate, List.length_replicate⟩

theorem RawCopy.defaults_complete : RawCopy.defaults.Complete :=
  ⟨rfl, List.length_replicate, List.length_replicate, List.length_replicate⟩

theorem State.reset_settingsInRange : SettingsInRange State.reset :=
  ⟨Settings.defaults_inRange, nofun, nofun, fun _ ha => by
    obtain rfl := Option.some.inj ha
    exact RawCopy.defaults_complete⟩

theorem State.reset_countersInRange : CountersInRange State.reset :=
  ⟨fun c hc => by simp [State.reset_liveChecks] at hc, by decide, by decide, by decide, by decide, by decide⟩

theorem State.reset_linesConserved : LinesConserved State.reset := by
  rw [LinesConserved, State.reset_liveChecks]; rfl

theorem State.reset_checksSeated : ChecksSeated State.reset :=
  ⟨⟨List.length_replicate, by decide, by decide⟩,
    ⟨by rw [State.reset_liveChecks]; exact List.nodup_nil, fun c hc => by simp [State.reset_liveChecks] at hc⟩,
    List.length_replicate,
    fun table => ⟨by rw [State.reset_tableList]; exact List.nodup_nil, by simp [State.reset_tableList], fun slot => by
      simp [State.reset_tableList, State.reset_check?]⟩,
    fun _ ha => nomatch ha⟩

theorem State.reset_statusesCounted : StatusesCounted State.reset :=
  ⟨List.length_replicate, List.nodup_nil,
    fun i => ⟨nofun, fun ⟨_, ht, _⟩ => by simp [State.reset_tender?] at ht⟩,
    fun _ _ ht => by simp [State.reset_tender?] at ht,
    fun _ _ _ ht => by simp [State.reset_tender?] at ht,
    fun n _ => by rw [State.reset_pendCount]; rfl⟩

theorem State.reset_exchangesTagged : ExchangesTagged State.reset := by
  refine ⟨List.length_replicate, ?_, ?_, by decide, by decide⟩
  · rw [State.reset_entries]; exact List.nodup_nil
  · rw [State.reset_entries]; exact nofun

theorem State.reset_needsMatched : NeedsMatched State.reset :=
  ⟨by rw [State.needing, State.reset_entries]; exact List.nodup_nil, nofun,
    by rw [State.reset_entries]; exact nofun,
    fun _ _ hx => by simp [State.reset_tender?] at hx⟩

/-- Settles O3: the fields are those the model gives, and no check, tender, record or watch is there to break an
invariant. -/
theorem resetState : Obligations.ResetState := by
  have hcheck := State.reset_check?
  have htender := State.reset_tender?
  refine ⟨rfl, rfl, rfl, rfl, rfl, rfl, rfl, rfl, rfl, rfl, rfl, rfl, rfl, rfl, rfl, rfl, rfl, rfl, rfl, rfl, rfl, rfl,
    rfl, rfl, rfl, nofun, State.reset_settingsInRange, State.reset_countersInRange,
    ⟨by decide, by decide, by decide, rfl⟩, State.reset_linesConserved, State.reset_checksSeated,
    ⟨List.length_replicate, fun _ _ hc => by simp [hcheck] at hc, fun _ _ ht => by simp [htender] at ht⟩,
    State.reset_statusesCounted, State.reset_exchangesTagged,
    ⟨by decide, ⟨List.nodup_nil, nofun⟩, List.nodup_nil, fun slot => ⟨nofun, fun ⟨_, hc, _⟩ => by simp [hcheck] at hc⟩⟩,
    ⟨by decide, List.nodup_nil, fun t => ?_⟩, fun c hc => by simp [State.reset_liveChecks] at hc,
    ⟨fun _ _ hc => by simp [hcheck] at hc, nofun⟩, fun _ _ hc => by simp [hcheck] at hc,
    State.reset_needsMatched, fun _ _ hx => by simp [htender] at hx⟩
  simp only [State.unwatchedHits, State.reset_hitSet]
  exact ⟨List.nodup_nil, Nat.zero_le 8⟩

end Sys2Proof.Machine
end

section
/-! The order in which a request on a check is refused (10 R181; 01 R5, R8; 08 R147). -/

namespace Sys2Proof.Machine

section
variable (u : State) (h : Hdr) (c : Check) (i : Instr)

/-- The request passes the comparison of the version, the hold where it obeys one, and the table of R8. -/
structure Admitted : Prop where
  version : c.isStale h.ver = false
  hold : refusedWhenHeld i = true → c.held = false
  state : admittedIn c i = true

/-- The refusals up to BUSY, each with what it stands for: a later one only where the earlier tests have passed
(10 R181). -/
inductive Refuses : Code → List Byte → Prop
  | denied (body : List Byte) : Refuses .denied body
  | absent (body : List Byte) : Refuses .absent body
  | range (body : List Byte) : Refuses .range body
  | stale (hstale : c.isStale h.ver = true) : Refuses .stale (be2 c.version ++ be1 c.state.toNat)
  | held (hver : c.isStale h.ver = false) (hheld : c.held = true) : Refuses .held []
  | pending (hver : c.isStale h.ver = false) (hhold : refusedWhenHeld i = true → c.held = false)
      (hpend : u.anyPending c = true) : Refuses .pending []
  | claimed (hver : c.isStale h.ver = false) (hhold : refusedWhenHeld i = true → c.held = false)
      (hclaim : ∃ q ∈ c.plan.portions, q.claim.isSome = true) : Refuses .claimed []
  | busy (hver : c.isStale h.ver = false) (hhold : refusedWhenHeld i = true → c.held = false) : Refuses .busy []

/-- A judged request is admitted, or is refused with nothing changed. -/
def Settled (r : State × Reply) : Prop :=
  Admitted h c i ∨ ∃ code body, r = (u, reply code body) ∧ Refuses u h c i code body

/-- A list of tests refuses as the order of R181 says, whatever the request does once it has passed. -/
def Ruled (tests : List (Bool × Reply)) : Prop := ∀ act, Settled u h c i (judged u tests act)

end

section
variable {u : State} {h : Hdr} {c : Check} {i : Instr} {b : Bool} {rest : List (Bool × Reply)}

theorem Ruled.of_admitted (ha : Admitted h c i) {tests : List (Bool × Reply)} : Ruled u h c i tests :=
  fun _ => .inl ha

theorem Ruled.cons {code : Code} {body : List Byte} (hcode : b = true → Refuses u h c i code body)
    (hrest : b = false → Ruled u h c i rest) : Ruled u h c i ((b, reply code body) :: rest) := fun act => by
  cases b with
  | true => exact .inr ⟨code, body, rfl, hcode rfl⟩
  | false => exact hrest rfl act

theorem Ruled.denied (hrest : Ruled u h c i rest) : Ruled u h c i ((b, refuse .denied) :: rest) :=
  .cons (fun _ => .denied []) fun _ => hrest

theorem Ruled.absent (hrest : Ruled u h c i rest) : Ruled u h c i ((b, refuse .absent) :: rest) :=
  .cons (fun _ => .absent []) fun _ => hrest

theorem Ruled.range {body : List Byte} (hrest : Ruled u h c i rest) : Ruled u h c i ((b, reply .range body) :: rest) :=
  .cons (fun _ => .range body) fun _ => hrest

/-- A recomputation refuses with RANGE (04 R62, R66). -/
theorem Tally.test_snd (t : Tally) : ∃ body, t.test.2 = reply .range body := by
  cases t <;> exact ⟨_, rfl⟩

theorem Ruled.figures {t : Tally} (hrest : Ruled u h c i rest) : Ruled u h c i ((b, t.test.2) :: rest) := by
  obtain ⟨body, ht⟩ := t.test_snd
  rw [ht]
  exact .range hrest

theorem Ruled.stale (hrest : c.isStale h.ver = false → Ruled u h c i rest) :
    Ruled u h c i ((c.isStale h.ver, staleReply c) :: rest) :=
  .cons .stale hrest

theorem Ruled.held (hver : c.isStale h.ver = false) (hrest : c.held = false → Ruled u h c i rest) :
    Ruled u h c i ((c.held, refuse .held) :: rest) :=
  .cons (.held hver) hrest

theorem Ruled.pending (hver : c.isStale h.ver = false) (hhold : refusedWhenHeld i = true → c.held = false)
    (hpend : b = true → u.anyPending c = true) (hrest : Ruled u h c i rest) :
    Ruled u h c i ((b, refuse .pending) :: rest) :=
  .cons (fun hb => .pending hver hhold (hpend hb)) fun _ => hrest

theorem Ruled.claimed (hver : c.isStale h.ver = false) (hhold : refusedWhenHeld i = true → c.held = false)
    (hclaim : b = true → ∃ q ∈ c.plan.portions, q.claim.isSome = true) (hrest : Ruled u h c i rest) :
    Ruled u h c i ((b, refuse .claimed) :: rest) :=
  .cons (fun hb => .claimed hver hhold (hclaim hb)) fun _ => hrest

/-- The test of the state: a request that it lets through is one that the table of R8 admits. -/
theorem Ruled.busy (hver : c.isStale h.ver = false) (hhold : refusedWhenHeld i = true → c.held = false)
    (hstate : b = false → admittedIn c i = true) : Ruled u h c i ((b, refuse .busy) :: rest) :=
  .cons (fun _ => .busy hver hhold) fun hb => .of_admitted ⟨hver, hhold, hstate hb⟩

theorem Settled.ite_denied {p : Prop} [Decidable p] {r : State × Reply} (hr : Settled u h c i r) :
    Settled u h c i (if p then (u, refuse .denied) else r) := by
  split
  · exact .inr ⟨.denied, [], rfl, .denied []⟩
  · exact hr

theorem Settled.withTender {n : Nat} {k : Nat → Tender → State × Reply}
    (hk : ∀ j t, NamedTender u c n j t → Settled u h c i (k j t)) : Settled u h c i (u.withTender c n k) := by
  unfold State.withTender
  split
  · exact .inr ⟨.absent, [], rfl, .absent []⟩
  next j hj =>
    split
    · exact .inr ⟨.absent, [], rfl, .absent []⟩
    next t ht => exact hk j t ⟨hj, ht⟩

end

/-! ## The states of the table of R8 -/

theorem Check.orderable_iff {c : Check} : c.orderable = true ↔ c.state = .opened ∨ c.state = .presented := by
  simp [Check.orderable]

theorem Check.closeRunning_eq_false {c : Check} (hc : c.closeRunning = false) :
    c.state = .opened ∨ c.state = .presented ∨ c.state = .settling ∨ c.state = .paid := by
  cases hs : c.state <;> simp_all [Check.closeRunning]

theorem Check.state_of_mayClose {c : Check} (hc : c.mayClose = true) :
    (c.state = .opened ∨ c.state = .presented) ∧ c.totals.total = 0 ∨ c.state = .paid ∨ c.state = .closeFault := by
  simpa [Check.mayClose, Check.orderable, or_assoc] using hc

theorem Check.state_of_not_startBusy {c : Check} (hc : c.startBusy = false) :
    c.state = .opened ∨ c.state = .presented ∨ c.state = .settling := by
  simp only [Check.startBusy, Bool.or_eq_false_iff, decide_eq_false_iff_not] at hc
  obtain ⟨⟨hpaid, hclose⟩, -⟩ := hc
  rcases Check.closeRunning_eq_false hclose with hs | hs | hs | hs
  exacts [.inl hs, .inr (.inl hs), .inr (.inr hs), absurd hs hpaid]

theorem anyPending_of_tender {u : State} {c : Check} {n j : Nat} {t : Tender} (hn : NamedTender u c n j t)
    (ht : t.hasStatus = true) : u.anyPending c = true := by
  obtain ⟨hj, hjt⟩ := hn
  have hmem : j ∈ c.tenders := by
    unfold Check.tenderIndex? at hj
    split at hj
    · simp at hj
    · exact List.mem_of_getElem? hj
  exact List.any_eq_true.mpr ⟨t, List.mem_filterMap.mpr ⟨j, hmem, hjt⟩, ht⟩

theorem Plan.mem_of_portion? {p : Plan} {n : Nat} {q : Portion} (h : p.portion? n = some q) : q ∈ p.portions :=
  List.mem_of_find?_eq_some h

theorem claim_of_claimedByOther {c : Check} {j : Nat} {t : Tender} (h : c.claimedByOther j t = true) :
    ∃ q ∈ c.plan.portions, q.claim.isSome = true := by
  rw [Check.claimedByOther, Option.any_eq_true] at h
  obtain ⟨q, hq, hqc⟩ := h
  rw [Option.any_eq_true] at hqc
  obtain ⟨k, hk, -⟩ := hqc
  exact ⟨q, Plan.mem_of_portion? hq, by rw [hk]; rfl⟩

/-! ## Each request that compares the version -/

section
variable {s : State} {h : Hdr} {kind : Nat} {cls : ReqClass} {number slot : Nat} {c : Check} {i : Instr}

theorem refuses_of_settled {k : State → Nat → Check → State × Reply} (hj : Judged s h cls)
    (hn : Named s number slot c)
    (hexec : exec i s = .next (s.request h kind cls fun u => u.withCheck number (k u)))
    (hk : Settled (s.hear h.term) h c i (k (s.hear h.term) slot c)) :
    Admitted h c i ∨ ∃ code body, exec i s = .next ((s.hear h.term).finish h kind code body)
      ∧ Refuses (s.hear h.term) h c i code body := by
  refine hk.imp_right fun ⟨code, body, hr, hcode⟩ => ⟨code, body, ?_, hcode⟩
  rw [hexec, request_eq_finish hj ((withCheck_of_named (hn.hear _) _).trans hr)]

/-- The requests whose row of R8 is OPEN and PRESENTED: the tests end with the hold and the state. -/
theorem Ruled.of_orderable {u : State} {b : Bool} {rest : List (Bool × Reply)}
    (hrow : admittedIn c i = decide (c.state = .opened ∨ c.state = .presented))
    (hb : b = false → c.orderable = true) :
    Ruled u h c i ((c.isStale h.ver, staleReply c) :: (c.held, refuse .held) :: (b, refuse .busy) :: rest) :=
  .stale fun hver => .held hver fun hheld => .busy hver (fun _ => hheld) fun hfalse => by
    rw [hrow, decide_eq_true_eq]
    exact Check.orderable_iff.mp (hb hfalse)

/-- A request that compares the version is admitted, or refused in the order of R181 with nothing changed. -/
theorem refuses_of_comparesVersion (hi : requestOf i = some (h, kind, cls)) (hwf : i.wf = true) (hj : Judged s h cls)
    (hcmp : comparesVersion i = true) (hname : namedCheck i = some number) (hn : Named s number slot c) :
    Admitted h c i ∨ ∃ code body, exec i s = .next ((s.hear h.term).finish h kind code body)
      ∧ Refuses (s.hear h.term) h c i code body := by
  cases i with
  | updateCheck _ _ covers =>
    cases hi; cases hname
    exact refuses_of_settled hj hn rfl
      (Ruled.denied (.range (.figures (.of_orderable rfl (by simp)))) _)
  | presentCheck _ _ =>
    cases hi; cases hname
    refine refuses_of_settled hj hn rfl
      (Ruled.denied (.stale fun hver => .held hver fun hheld => .busy hver (fun _ => hheld) fun hb => ?_) _)
    simpa [admittedIn] using hb
  | transferCheck _ _ table owner =>
    cases hi; cases hname
    refine refuses_of_settled hj hn rfl
      (Ruled.denied (.denied (.range (.range (.range (.stale fun hver => .held hver fun hheld =>
        .busy hver (fun _ => hheld) fun hb => ?_))))) _)
    rw [Bool.or_eq_false_iff] at hb
    exact decide_eq_true (Check.closeRunning_eq_false hb.1)
  | voidCheck _ _ =>
    cases hi; cases hname
    refine refuses_of_settled hj hn rfl
      (Ruled.denied (.stale fun hver => .held hver fun hheld => .pending hver (fun _ => hheld) id
        (.busy hver (fun _ => hheld) fun hb => ?_)) _)
    exact decide_eq_true (Check.orderable_iff.mp (by simpa using hb))
  | closeCheck _ _ =>
    cases hi; cases hname
    refine refuses_of_settled hj hn rfl
      (Ruled.denied (.stale fun hver => .held hver fun hheld => .pending hver (fun _ => hheld) id
        (.busy hver (fun _ => hheld) fun hb => ?_)) _)
    exact decide_eq_true (Check.state_of_mayClose (by simpa using hb))
  | addLines _ _ entries =>
    cases hi; cases hname
    have hlen : ¬(entries.length = 0 ∨ 8 < entries.length) := by
      simp only [Instr.wf, Bool.and_eq_true, decide_eq_true_eq] at hwf
      omega
    refine refuses_of_settled hj hn (congrArg Host.Outcome.next (if_neg hlen))
      (Ruled.denied (.range (.figures (.of_orderable rfl (by simp)))) _)
  | voidLine _ _ line =>
    cases hi; cases hname
    refine refuses_of_settled hj hn rfl (Settled.ite_denied ?_)
    cases c.line? line with
    | none => exact .inr ⟨_, _, rfl, .absent []⟩
    | some l => exact Ruled.figures (.of_orderable rfl (by simp +contextual)) _
  | discountLine _ _ line amount =>
    cases hi; cases hname
    refine refuses_of_settled hj hn rfl (Settled.ite_denied ?_)
    cases c.line? line with
    | none => exact .inr ⟨_, _, rfl, .absent []⟩
    | some l => exact Ruled.range (.figures (.of_orderable rfl (by simp +contextual))) _
  | setSplit _ _ _ count =>
    cases hi; cases hname
    exact refuses_of_settled hj hn rfl
      (Ruled.denied (.range (.range (.range (.of_orderable rfl (by simp))))) _)
  | setPortion _ _ portion amount =>
    cases hi; cases hname
    refine refuses_of_settled hj hn rfl
      (Ruled.denied (.range (.range (.range (.of_orderable rfl ?_)))) _)
    simp only [Bool.or_eq_false_iff, Bool.not_eq_false']
    exact And.left
  | lockSplit _ _ =>
    cases hi; cases hname
    refine refuses_of_settled hj hn rfl (Settled.ite_denied ?_)
    split
    · cases hadm : (!c.isStale h.ver && !c.held && c.orderable) with
      | false => exact .inr ⟨_, _, rfl, .range _⟩
      | true =>
        simp only [Bool.and_eq_true, Bool.not_eq_true'] at hadm
        obtain ⟨⟨hver, hheld⟩, hopen⟩ := hadm
        exact .inl ⟨hver, fun _ => hheld, decide_eq_true (Check.orderable_iff.mp hopen)⟩
    · refine Ruled.of_orderable rfl ?_ _
      simp only [Bool.or_eq_false_iff, Bool.not_eq_false']
      exact And.left
  | startTender _ _ portion _ asked token =>
    cases hi; cases hname
    have hlen : ¬ token.length ≠ 32 := by
      simp only [Instr.wf, Bool.and_eq_true, decide_eq_true_eq] at hwf
      exact not_not.mpr hwf.2
    refine refuses_of_settled hj hn (congrArg Host.Outcome.next (if_neg hlen))
      (Ruled.denied (.range (.range (.range (.range (.stale fun hver => .held hver fun hheld =>
        .claimed hver (fun _ => hheld) ?_ (.busy hver (fun _ => hheld) fun hb => ?_)))))) _)
    · intro hclaim
      rw [Option.any_eq_true] at hclaim
      obtain ⟨q, hq, hqc⟩ := hclaim
      split at hq
      · exact ⟨q, Plan.mem_of_portion? hq, hqc⟩
      · simp at hq
    · exact decide_eq_true (Check.state_of_not_startBusy hb)
  | submitTip _ _ tender form figure =>
    cases hi; cases hname
    refine refuses_of_settled hj hn rfl (Settled.ite_denied (Settled.withTender fun j t _ =>
      Ruled.absent (.range (.range (.range (.stale fun hver => .held hver fun hheld =>
        .claimed hver (fun _ => hheld) ?_ (.busy hver (fun _ => hheld) fun hb => ?_))))) _))
    · intro hclaim
      rw [Bool.and_eq_true] at hclaim
      exact claim_of_claimedByOther hclaim.2
    · rw [Bool.or_eq_false_iff] at hb
      exact decide_eq_true (Check.closeRunning_eq_false hb.1)
  | withdrawTender _ _ tender =>
    cases hi; cases hname
    refine refuses_of_settled hj hn rfl (Settled.withTender fun j t hnt =>
      Ruled.denied (.absent (.stale fun hver => .pending hver (by simp [refusedWhenHeld]) (anyPending_of_tender hnt)
        (.busy hver (by simp [refusedWhenHeld]) fun hb => ?_))) _)
    exact decide_eq_true (Check.closeRunning_eq_false hb)
  | abandonTender _ _ tender =>
    cases hi; cases hname
    refine refuses_of_settled hj hn rfl (Settled.withTender fun j t _ =>
      Ruled.absent (.stale fun hver => .busy hver (by simp [refusedWhenHeld]) fun hb => ?_) _)
    rw [Bool.or_eq_false_iff] at hb
    simpa [admittedIn] using hb.1
  | holdCheck _ _ =>
    cases hi; cases hname
    refine refuses_of_settled hj hn rfl (Ruled.stale (fun hver => .busy hver (by simp [refusedWhenHeld]) fun hb => ?_) _)
    simpa [admittedIn] using hb
  | releaseCheck _ _ =>
    cases hi; cases hname
    refine refuses_of_settled hj hn rfl (Ruled.stale (fun hver => .busy hver (by simp [refusedWhenHeld]) fun hb => ?_) _)
    simpa [admittedIn] using hb
  | _ => nomatch hcmp

/-- A request that obeys a hold or a row of R8 compares the version too. -/
theorem comparesVersion_of_refusedWhenHeld (hheld : refusedWhenHeld i = true) : comparesVersion i = true := by
  cases i <;> simp_all [refusedWhenHeld, comparesVersion]

theorem comparesVersion_of_not_admittedIn (hrow : admittedIn c i = false) : comparesVersion i = true := by
  cases i <;> simp_all [admittedIn, comparesVersion]

theorem Check.isStale_iff {ver : Nat} : c.isStale ver = true ↔ ver ≠ 65535 ∧ ver ≠ c.version := by
  simp [Check.isStale, Config.anyVersion]

/-- APPROVE of a check that holds MANAGER is refused HELD (08 R153). -/
theorem approve_held {n : Nat} {a : Approval} (hj : Judged s h .manager) (hn : Named s number slot c)
    (ha : s.approvalOf slot = some a) (hnumber : n = 0 ∨ n = a.number) (hown : h.term = 0 ∨ a.requester ≠ some h.term)
    (hmanager : c.holds.manager = true) :
    exec (.approve h number n) s = .next ((s.hear h.term).finish h 0x52 .held []) := by
  have hnamed : a.misnamed n = false := by
    rcases hnumber with rfl | rfl <;> simp [Approval.misnamed]
  have hother : (h.term != 0 && decide (a.requester = some h.term)) = false := by
    rcases hown with hown | hown <;> simp [hown]
  show Host.Outcome.next _ = _
  congr 1
  refine request_eq_finish hj ?_
  rw [State.withApproval, withCheck_of_named (hn.hear _), State.hear_approvalOf, ha]
  exact judged_of_refusal (r := refuse .held) (by simp [judge, hother, hnamed, hmanager]) _

end

/-- Settles O6: what every request that compares the version can be refused for, read off for each of the three
refusals; and the one test of APPROVE that looks at MANAGER. -/
theorem staleAndHeldRefusals : Obligations.StaleAndHeldRefusals := by
  refine ⟨?_, ?_, ?_, fun _ _ _ _ _ _ _ hj hn ha hnumber hown hmanager =>
    approve_held hj hn ha hnumber hown hmanager⟩
  · intro i h kind cls number slot c s hi hwf hj hcmp hname hn hany hver
    have hstale : c.isStale h.ver = true := Check.isStale_iff.mpr ⟨hany, hver⟩
    rcases refuses_of_comparesVersion hi hwf hj hcmp hname hn with ⟨hfresh, -, -⟩ | ⟨code, body, hexec, hr⟩
    · simp [hfresh] at hstale
    · refine ⟨code, body, hexec, ?_⟩
      cases hr <;> simp_all
  · intro i h kind cls number slot c s hi hwf hj hobeys hname hn hheld
    have hcmp := comparesVersion_of_refusedWhenHeld hobeys
    rcases refuses_of_comparesVersion hi hwf hj hcmp hname hn with ⟨-, hfree, -⟩ | ⟨code, body, hexec, hr⟩
    · simp [hfree hobeys] at hheld
    · refine ⟨code, body, hexec, ?_⟩
      cases hr <;> simp_all
  · intro i h kind cls number slot c s hi hwf hj hname hn hrow
    have hcmp := comparesVersion_of_not_admittedIn hrow
    rcases refuses_of_comparesVersion hi hwf hj hcmp hname hn with ⟨-, -, hadm⟩ | ⟨code, body, hexec, hr⟩
    · simp [hrow] at hadm
    · refine ⟨code, body, hexec, ?_⟩
      cases hr with
      | denied | absent | range => simp
      | stale hstale => simpa using Check.isStale_iff.mp hstale
      | held _ hheld => simpa using hheld
      | pending _ _ hpend => simpa using hpend
      | claimed _ _ hclaim => simpa using hclaim
      | busy => simp

end Sys2Proof.Machine
end

section
/-! The settings stay in their ranges, whatever writes, saves or loads them (11 R188 to R193). -/

namespace Sys2Proof.Machine

/-! ## The bounds of a setting (11 R188) -/

/-- The bounds of every setting are in order, and a mask has the lower bound 0 (11 R188, R190). -/
theorem settingBounds_le {n : Nat} (h : n ≤ 23) :
    (settingBounds n).1 ≤ (settingBounds n).2 ∧ (n = 22 ∨ n = 23 → (settingBounds n).1 = 0) := by
  have hall : ∀ k ∈ List.range 24, (settingBounds k).1 ≤ (settingBounds k).2
      ∧ (k = 22 ∨ k = 23 → (settingBounds k).1 = 0) := by decide
  exact hall n (List.mem_range.mpr (by omega))

/-- A written value is clamped to the bounds of its setting (11 R189, R190). -/
theorem clampSetting_inBounds {n : Nat} (h : n ≤ 23) (v : Nat) :
    (settingBounds n).1 ≤ clampSetting n v ∧ clampSetting n v ≤ (settingBounds n).2 := by
  obtain ⟨hle, hmask⟩ := settingBounds_le h
  simp only [clampSetting]
  split
  next hm =>
    have hlt := Nat.mod_lt v (Nat.add_one_pos (settingBounds n).2)
    rw [hmask hm]
    omega
  · omega

theorem Settings.InRange.write {w : Settings} (hw : w.InRange) (n v : Nat) (hn : n ≤ 23) : (w.write n v).InRange := by
  obtain ⟨⟨hlen, hvalues⟩, hrest⟩ := hw
  refine ⟨⟨by rw [Settings.write, set1_length]; exact hlen, fun k h1 h2 => ?_⟩, hrest⟩
  rw [Settings.value, Settings.write, get1_set1]
  split
  next hk => rw [hk.1]; exact clampSetting_inBounds hn v
  · exact hvalues k h1 h2

/-! ## Sections, roles and masks -/

theorem set1_forall {α : Type} {P : α → Prop} {l : List α} (hl : ∀ x ∈ l, P x) (n : Nat) {v : α} (hv : P v) :
    ∀ x ∈ set1 l n v, P x := by
  unfold set1
  split
  · exact hl
  · intro x hx
    rcases List.mem_or_eq_of_mem_set hx with hx | rfl
    exacts [hl x hx, hv]

theorem foldl_set1_inRange {l : List Nat} {sect : Nat} (hsect : sect ≤ 8) (tables : List Nat)
    (hl : l.length = Config.tableCount ∧ ∀ x ∈ l, x ≤ 8) :
    (tables.foldl (fun l t => set1 l t sect) l).length = Config.tableCount
      ∧ ∀ x ∈ tables.foldl (fun l t => set1 l t sect) l, x ≤ 8 := by
  induction tables generalizing l with
  | nil => exact hl
  | cons t tables ih => exact ih ⟨by rw [set1_length]; exact hl.1, set1_forall hl.2 t hsect⟩

/-! ## Stored areas (11 R191) -/

theorem RawCopy.toSettings_value {r : RawCopy} {n : Nat} (h1 : 1 ≤ n) (h2 : n ≤ r.values.length) :
    r.toSettings.value n = clampSetting n (get1 r.values n 0) := by
  have hlt : n - 1 < r.values.length := by omega
  have hne : n ≠ 0 := by omega
  simp [Settings.value, get1, hne, RawCopy.toSettings, List.getD_eq_getElem?_getD, hlt, Nat.sub_add_cancel h1]

/-- The working copy that an area gives is in range, whatever its contents (11 R191). -/
theorem RawCopy.Complete.toSettings {r : RawCopy} (hr : r.Complete) : r.toSettings.InRange := by
  obtain ⟨hvalues, hsections, hroles, hmasks⟩ := hr
  refine ⟨⟨by simp [RawCopy.toSettings, hvalues], fun n h1 h2 => ?_⟩,
    ⟨by simp [RawCopy.toSettings, hsections], fun x hx => ?_⟩, by simp [RawCopy.toSettings, hroles],
    by simp [RawCopy.toSettings, hmasks]⟩
  · rw [RawCopy.toSettings_value h1 (by omega)]
    exact clampSetting_inBounds h2 _
  · obtain ⟨y, -, rfl⟩ := List.mem_map.mp hx
    split <;> omega

theorem Settings.InRange.toArea {w : Settings} (hw : w.InRange) : w.toArea.contents.Complete := by
  obtain ⟨⟨hvalues, -⟩, ⟨hsections, -⟩, hroles, hmasks⟩ := hw
  exact ⟨hvalues, hsections, by simpa [Settings.toArea, Settings.toRaw] using hroles, hmasks⟩

/-- The area that can be used is the one that stands (11 R191). -/
theorem eq_of_usable {o : Option Area} {a : Area} (h : usable o = some a) : o = some a :=
  Option.eq_some_of_filter_eq_some h

/-! ## The Settings Store -/

/-- The settings of a store are in range (11 R188 to R191); SettingsInRange says it of the store of a state. -/
def SettingsStore.InRange (t : SettingsStore) : Prop :=
  t.work.InRange ∧ (∀ w, t.saveCopy = some w → w.InRange)
  ∧ (∀ a, t.site = some a → a.contents.Complete) ∧ (∀ a, t.factory = some a → a.contents.Complete)

theorem settingsInRange_iff {s : State} : SettingsInRange s ↔ s.sst.InRange := Iff.rfl

theorem SettingsStore.InRange.withWork {t : SettingsStore} (ht : t.InRange) {w : Settings} (hw : w.InRange)
    (loaded : LoadedFrom) : SettingsStore.InRange { t with work := w, loaded } :=
  ⟨hw, ht.2⟩

/-- The working copy of a cold start is in range, from whichever area it comes (11 R197). -/
theorem SettingsStore.InRange.fallback {t : SettingsStore} (ht : t.InRange) : t.fallback.1.InRange := by
  obtain ⟨-, -, hsite, hfactory⟩ := ht
  unfold SettingsStore.fallback
  split
  next a ha => exact (hsite a (eq_of_usable ha)).toSettings
  · split
    next a ha => exact (hfactory a (eq_of_usable ha)).toSettings
    · exact Settings.defaults_inRange

theorem SettingsStore.InRange.finishSave {t : SettingsStore} (ht : t.InRange) (matched : Bool) :
    SettingsStore.InRange
      { t with site := if matched then t.saveCopy.map Settings.toArea else none
               save := if matched then .idle else .failed, saveCopy := none } := by
  obtain ⟨hwork, hcopy, -, hfactory⟩ := ht
  refine ⟨hwork, nofun, fun a ha => ?_, hfactory⟩
  cases matched with
  | false => simp at ha
  | true =>
    obtain ⟨w, hw, rfl⟩ := Option.map_eq_some_iff.mp ha
    exact (hcopy w hw).toArea

/-- The consecutive-timeout limit is at most 10 (07 R128, 11 R188). -/
theorem SettingsStore.InRange.timeoutLimit {t : SettingsStore} (ht : t.InRange) : t.work.value 18 ≤ 10 := by
  obtain ⟨⟨⟨-, hvalues⟩, -⟩, -⟩ := ht
  exact (hvalues 18 (by omega) (by omega)).2

end Sys2Proof.Machine
end

section
/-! Counts, clock fields and output lists stay in their ranges (07 R126, R128; 10 R175 to R179, R184; 11 R194). -/

namespace Sys2Proof.Machine

theorem satSucc_le {n : Nat} (h : n ≤ Config.countMax) : satSucc n ≤ Config.countMax := by
  unfold satSucc; split <;> omega

/-! ## Away from the request ports -/

/-- The day, the minute and the second are in range (11 R194). -/
def FloorClock.InRange (c : FloorClock) : Prop := c.day ≤ 65535 ∧ c.minute ≤ 1439 ∧ c.second ≤ 59

theorem FloorClock.advance_inRange (c : FloorClock) (seconds : Nat) : (c.advance seconds).InRange := by
  simp only [FloorClock.InRange, FloorClock.advance]; omega

/-- The settings, the clock and the Acquirer Port are in range. -/
structure Sound (s : State) : Prop where
  settings : s.sst.InRange
  clock : s.fck.InRange
  gateway : s.gwp.crcErrors ≤ Config.countMax ∧ s.gwp.framingErrors ≤ Config.countMax
    ∧ s.gwp.out.length ≤ Config.exchangeEntries
  acquirer : s.aqp.discarded ≤ Config.countMax ∧ s.aqp.timeouts ≤ 10

/-- A change that keeps what lies away from the request ports in range, and leaves these ports and the commands that wait
alone. -/
structure Calm (s t : State) : Prop where
  sound : Sound s → Sound t
  flp : t.flp = s.flp
  fhp : t.fhp = s.fhp
  pending : t.pending = s.pending

theorem Calm.refl (s : State) : Calm s s := ⟨id, rfl, rfl, rfl⟩

theorem Calm.trans {s t u : State} (hst : Calm s t) (htu : Calm t u) : Calm s u :=
  ⟨htu.sound ∘ hst.sound, htu.flp.trans hst.flp, htu.fhp.trans hst.fhp, htu.pending.trans hst.pending⟩

/-- A change that touches none of the parts that have a range. -/
theorem Calm.of_eq {s t : State} (h : t.sst = s.sst ∧ t.fck = s.fck ∧ t.gwp = s.gwp ∧ t.aqp.discarded = s.aqp.discarded
    ∧ t.aqp.timeouts = s.aqp.timeouts ∧ t.flp = s.flp ∧ t.fhp = s.fhp ∧ t.pending = s.pending) : Calm s t := by
  obtain ⟨hsst, hfck, hgwp, hdiscarded, htimeouts, hflp, hfhp, hpending⟩ := h
  refine ⟨fun hs => ?_, hflp, hfhp, hpending⟩
  exact ⟨hsst ▸ hs.settings, hfck ▸ hs.clock, hgwp ▸ hs.gateway, hdiscarded ▸ htimeouts ▸ hs.acquirer⟩

theorem Calm.foldl {α : Type} {f : State → α → State} (h : ∀ s a, Calm s (f s a)) (l : List α) (s : State) :
    Calm s (l.foldl f s) := by
  induction l generalizing s with
  | nil => exact .refl s
  | cons a l ih => exact (h s a).trans (ih _)

/-- A new Settings Store in range. -/
theorem Calm.of_sst {s t : State} (hsst : s.sst.InRange → t.sst.InRange) (h : t.fck = s.fck ∧ t.gwp = s.gwp
    ∧ t.aqp = s.aqp ∧ t.flp = s.flp ∧ t.fhp = s.fhp ∧ t.pending = s.pending) : Calm s t := by
  obtain ⟨hfck, hgwp, haqp, hflp, hfhp, hpending⟩ := h
  exact ⟨fun hs => ⟨hsst hs.settings, hfck ▸ hs.clock, hgwp ▸ hs.gateway, haqp ▸ hs.acquirer⟩, hflp, hfhp, hpending⟩

/-! ## The request ports -/

/-- The counts and the output lists of the request ports are in range (10 R175, R176, R179). -/
structure PortsInRange (p : FloorPort) (q : HousePort) : Prop where
  floor : p.crcErrors ≤ Config.countMax ∧ p.framingErrors ≤ Config.countMax ∧ p.overruns ≤ Config.countMax
    ∧ p.pushDrops ≤ Config.countMax
  house : q.crcErrors ≤ Config.countMax ∧ q.framingErrors ≤ Config.countMax ∧ q.overruns ≤ Config.countMax
  floorOut : p.out.length ≤ Config.outputPlaces
  houseOut : q.out.length ≤ Config.outputPlaces

/-- A pushed frame takes a place, or is dropped and counted (10 R179, R183). -/
theorem PortsInRange.place {p : FloorPort} {q : HousePort} (h : PortsInRange p q) (f : Frame) :
    PortsInRange (p.place f) q := by
  obtain ⟨⟨hcrc, hframing, hoverruns, hdrops⟩, hhouse, hout, hhouseOut⟩ := h
  unfold FloorPort.place
  split
  next hroom =>
    refine ⟨⟨hcrc, hframing, hoverruns, hdrops⟩, hhouse, ?_, hhouseOut⟩
    rw [List.length_append]
    exact hroom
  · exact ⟨⟨hcrc, hframing, hoverruns, satSucc_le hdrops⟩, hhouse, hout, hhouseOut⟩

theorem PortsInRange.foldl_place {q : HousePort} (frame : Push → Frame) (l : List Push) {p : FloorPort}
    (h : PortsInRange p q) : PortsInRange (l.foldl (fun p push => p.place (frame push)) p) q := by
  induction l generalizing p with
  | nil => exact h
  | cons push l ih => exact ih (h.place (frame push))

/-- Everything that has a range is in it, but for the versions, and no push is left over. -/
structure Fit (s : State) : Prop where
  sound : Sound s
  ports : PortsInRange s.flp s.fhp
  pushes : s.wnu.pushes = []

/-- A command that keeps all this, and the commands that wait. -/
def Keeps (s t : State) : Prop := Fit s → Fit t ∧ t.pending = s.pending

theorem Keeps.refl (s : State) : Keeps s s := fun hs => ⟨hs, rfl⟩

/-- A change away from the request ports that raises no push. -/
theorem Calm.keeps {s t : State} (h : Calm s t) (hpushes : t.wnu.pushes = s.wnu.pushes) : Keeps s t := fun hs =>
  ⟨⟨h.sound hs.sound, by rw [h.flp, h.fhp]; exact hs.ports, hpushes.trans hs.pushes⟩, h.pending⟩

theorem Sound.flushPushes {s : State} (h : Sound s) : Sound s.flushPushes :=
  ⟨h.settings, h.clock, h.gateway, h.acquirer⟩

/-- The pushes of an event find their places, and none is left over (09 R166). -/
theorem Calm.keeps_flushPushes {s t : State} (h : Calm s t) : Keeps s t.flushPushes := fun hs =>
  ⟨⟨(h.sound hs.sound).flushPushes, by
    have hports : PortsInRange t.flp t.fhp := by rw [h.flp, h.fhp]; exact hs.ports
    exact hports.foldl_place t.pushFrame t.wnu.pushes, rfl⟩, h.pending⟩

/-- A command that touches the request ports alone. -/
theorem keeps_of_ports {s t : State} (hports : PortsInRange s.flp s.fhp → PortsInRange t.flp t.fhp)
    (h : t.sst = s.sst ∧ t.fck = s.fck ∧ t.gwp = s.gwp ∧ t.aqp = s.aqp ∧ t.wnu = s.wnu ∧ t.pending = s.pending) :
    Keeps s t := fun hs => by
  obtain ⟨hsst, hfck, hgwp, haqp, hwnu, hpending⟩ := h
  refine ⟨⟨⟨hsst ▸ hs.sound.settings, hfck ▸ hs.sound.clock, hgwp ▸ hs.sound.gateway, haqp ▸ hs.sound.acquirer⟩,
    hports hs.ports, hwnu ▸ hs.pushes⟩, hpending⟩

theorem State.countFraming_keeps (s : State) (p : ReqPort) : Keeps s (s.countFraming p) := by
  cases p <;> refine keeps_of_ports ?_ ⟨rfl, rfl, rfl, rfl, rfl, rfl⟩
  · rintro ⟨⟨hcrc, hframing, hoverruns, hdrops⟩, hhouse, hout, hhouseOut⟩
    exact ⟨⟨hcrc, satSucc_le hframing, hoverruns, hdrops⟩, hhouse, hout, hhouseOut⟩
  · rintro ⟨hfloor, ⟨hcrc, hframing, hoverruns⟩, hout, hhouseOut⟩
    exact ⟨hfloor, ⟨hcrc, satSucc_le hframing, hoverruns⟩, hout, hhouseOut⟩

theorem State.countOverrun_keeps (s : State) (p : ReqPort) : Keeps s (s.countOverrun p) := by
  cases p <;> refine keeps_of_ports ?_ ⟨rfl, rfl, rfl, rfl, rfl, rfl⟩
  · rintro ⟨⟨hcrc, hframing, hoverruns, hdrops⟩, hhouse, hout, hhouseOut⟩
    exact ⟨⟨hcrc, hframing, satSucc_le hoverruns, hdrops⟩, hhouse, hout, hhouseOut⟩
  · rintro ⟨hfloor, ⟨hcrc, hframing, hoverruns⟩, hout, hhouseOut⟩
    exact ⟨hfloor, ⟨hcrc, hframing, satSucc_le hoverruns⟩, hout, hhouseOut⟩

/-! ## Answers -/

theorem Reply.frames_length (r : Reply) (h : Hdr) (kind : Nat) : (r.frames h kind).length = r.bodies.length := by
  simp [Reply.frames]

/-- An answer fits behind the frames that wait where there is room for its frames (10 R179). -/
theorem PortsInRange.answer {s : State} (hs : PortsInRange s.flp s.fhp) (h : Hdr) (kind : Nat) {r : Reply}
    (hroom : (s.outList h.port).length + r.bodies.length ≤ Config.outputPlaces) :
    PortsInRange (s.answer h kind r).flp (s.answer h kind r).fhp := by
  obtain ⟨hfloor, hhouse, hout, hhouseOut⟩ := hs
  unfold State.answer State.putOut
  cases hp : h.port with
  | flp =>
    rw [hp] at hroom
    refine ⟨hfloor, hhouse, ?_, hhouseOut⟩
    rw [List.length_append, Reply.frames_length]
    exact hroom
  | fhp =>
    rw [hp] at hroom
    refine ⟨hfloor, hhouse, hout, ?_⟩
    rw [List.length_append, Reply.frames_length]
    exact hroom

/-- A request that is judged finds room for 12 frames (10 R179). -/
theorem State.room_of_takes {s : State} {h : Hdr} (ht : s.takes h = .badRequester ∨ s.takes h = .taken) :
    (s.outList h.port).length + 12 ≤ Config.outputPlaces := by
  unfold State.takes at ht
  split at ht
  · simp at ht
  · split at ht
    · simp at ht
    · split at ht
      · simp at ht
      next hroom => exact Nat.not_lt.mp hroom

/-- What a request does, with an answer of at most 12 frames (10 R179). -/
structure Modest (s : State) (r : State × Reply) : Prop where
  calm : Calm s r.1
  short : r.2.bodies.length ≤ 12

theorem State.frame_keeps {s : State} {h : Hdr} {kind : Nat} {act : State → State × Reply}
    (hact : ∀ u, Modest u (act u)) : Keeps s (s.frame h kind act) := by
  unfold State.frame
  split
  · exact .refl s
  · exact s.countFraming_keeps h.port
  · exact s.countOverrun_keeps h.port
  next ht =>
    refine keeps_of_ports (fun hs => hs.answer h kind ?_) (by simp)
    have hroom := State.room_of_takes (.inl ht)
    simp only [malformedReply, reply, List.length_singleton]
    omega
  next ht =>
    intro hs
    obtain ⟨hcalm, hshort⟩ := hact (s.hear h.term)
    have hheard : Calm s (act (s.hear h.term)).1 := Calm.trans (.of_eq (by simp)) hcalm
    have hroom := State.room_of_takes (.inr ht)
    have hsame : ((act (s.hear h.term)).1.outList h.port) = s.outList h.port := by
      cases hp : h.port
      · exact congrArg FloorPort.out hheard.flp
      · exact congrArg HousePort.out hheard.fhp
    have hports : PortsInRange (act (s.hear h.term)).1.flp (act (s.hear h.term)).1.fhp := by
      rw [hheard.flp, hheard.fhp]; exact hs.ports
    have hanswer := hports.answer h kind (r := (act (s.hear h.term)).2) (by rw [hsame]; omega)
    have hsound := hheard.sound hs.sound
    refine ⟨⟨⟨?_, ?_, ?_, ?_⟩, hanswer.foldl_place _ _, rfl⟩, ?_⟩
    · simpa using hsound.settings
    · simpa using hsound.clock
    · simpa using hsound.gateway
    · simpa using hsound.acquirer
    · simpa using hheard.pending

theorem Modest.of_reply {s : State} {code : Code} {body : List Byte} {t : State} (h : Calm s t) :
    Modest s (t, reply code body) := ⟨h, by simp [reply]⟩

theorem Modest.refusal (s : State) (code : Code) (body : List Byte) : Modest s (s, reply code body) :=
  .of_reply (.refl s)

theorem State.request_keeps {s : State} {h : Hdr} {kind : Nat} {cls : ReqClass} {act : State → State × Reply}
    (hact : ∀ u, Modest u (act u)) : Keeps s (s.request h kind cls act) := by
  refine State.frame_keeps fun u => ?_
  split
  · exact hact u
  · exact .refusal u _ _

/-- Every refusal among the tests is an answer in one frame. -/
def InOneFrame (tests : List (Bool × Reply)) : Prop := ∀ x ∈ tests, x.2.bodies.length = 1

theorem judge_bodies {tests : List (Bool × Reply)} (ht : InOneFrame tests) {r : Reply} (hr : judge tests = some r) :
    r.bodies.length = 1 := by
  induction tests with
  | nil => simp [judge] at hr
  | cons x tests ih =>
    obtain ⟨hx, htests⟩ := List.forall_mem_cons.mp ht
    obtain ⟨b, q⟩ := x
    cases b with
    | true => exact Option.some.inj hr ▸ hx
    | false => exact ih htests hr

theorem judged_modest {s : State} {tests : List (Bool × Reply)} {act : State × Reply} (ht : InOneFrame tests)
    (hact : judge tests = none → Modest s act) : Modest s (judged s tests act) := by
  unfold judged
  split
  next r hr => exact ⟨.refl s, by rw [judge_bodies ht hr]; omega⟩
  next hr => exact hact hr

@[simp] theorem inOneFrame_nil : InOneFrame [] := nofun

@[simp] theorem inOneFrame_cons {x : Bool × Reply} {tests : List (Bool × Reply)} :
    InOneFrame (x :: tests) ↔ x.2.bodies.length = 1 ∧ InOneFrame tests := List.forall_mem_cons

@[simp] theorem refuse_bodies (code : Code) : (refuse code).bodies.length = 1 := rfl
@[simp] theorem staleReply_bodies (c : Check) : (staleReply c).bodies.length = 1 := rfl
@[simp] theorem rangeField_bodies (n : Nat) : (rangeField n).bodies.length = 1 := rfl
@[simp] theorem rangeEntry_bodies (e n : Nat) : (rangeEntry e n).bodies.length = 1 := rfl
@[simp] theorem rangeSeats_bodies (n : Nat) : (rangeSeats n).bodies.length = 1 := rfl
@[simp] theorem rangeTip_bodies (n : Nat) : (rangeTip n).bodies.length = 1 := rfl
@[simp] theorem rangeBalance_bodies (n : Nat) : (rangeBalance n).bodies.length = 1 := rfl
@[simp] theorem fullReply_bodies (n : Nat) : (fullReply n).bodies.length = 1 := rfl
@[simp] theorem Tally.test_bodies (t : Tally) : t.test.2.bodies.length = 1 := by cases t <;> rfl

theorem State.withCheck_modest {s : State} {n : Nat} {k : Nat → Check → State × Reply}
    (hk : ∀ slot c, Modest s (k slot c)) : Modest s (s.withCheck n k) := by
  unfold State.withCheck
  split
  · exact .refusal s _ _
  · split
    · exact .refusal s _ _
    · exact hk _ _

theorem State.withTender_modest {s : State} {c : Check} {n : Nat} {k : Nat → Tender → State × Reply}
    (hk : ∀ i t, Modest s (k i t)) : Modest s (s.withTender c n k) := by
  unfold State.withTender
  split
  · exact .refusal s _ _
  · split
    · exact .refusal s _ _
    · exact hk _ _

theorem State.withApproval_modest {s : State} {n : Nat} {k : Nat → Check → Approval → State × Reply}
    (hk : ∀ slot c a, Modest s (k slot c a)) : Modest s (s.withApproval n k) := by
  refine State.withCheck_modest fun slot c => ?_
  split
  · exact .refusal s _ _
  · exact hk _ _ _

theorem ite_denied_modest {s : State} {p : Prop} [Decidable p] {r : State × Reply} (hr : Modest s r) :
    Modest s (if p then (s, refuse .denied) else r) := by
  split
  · exact .refusal s _ _
  · exact hr

/-! ## Requests on checks, lines and plans -/

/-- A meaning whose outcome is a next state keeps the ranges. -/
def KeepsNext (s : State) (o : Out) : Prop := ∀ t, o = .next t → Keeps s t

theorem keeps_next {s t : State} (h : Keeps s t) : KeepsNext s (.next t) := fun _ ht =>
  Host.Outcome.next.inj ht ▸ h

section
variable (s : State) (h : Hdr)

theorem State.takenSummary_modest {u : State} (hu : Calm s u) (slot : Nat) : Modest s (u.takenSummary slot) :=
  .of_reply hu

theorem State.writeFigures_calm (slot : Nat) (t : Tally) : Calm s (s.writeFigures slot t) := .of_eq (by simp)

theorem execHello_keeps : KeepsNext s (execHello h s) :=
  keeps_next (State.request_keeps fun u => .of_reply (.refl u))

theorem execOpenCheck_keeps (table covers owner : Nat) : KeepsNext s (execOpenCheck h table covers owner s) :=
  keeps_next (State.request_keeps fun u => judged_modest (by simp) fun _ => u.takenSummary_modest (.of_eq (by simp)) _)

theorem execReadCheck_keeps (check : Nat) : KeepsNext s (execReadCheck h check s) :=
  keeps_next (State.request_keeps fun _ => State.withCheck_modest fun _ _ => judged_modest (by simp) fun _ =>
    State.takenSummary_modest _ (.refl _) _)

theorem execUpdateCheck_keeps (check covers : Nat) : KeepsNext s (execUpdateCheck h check covers s) :=
  keeps_next (State.request_keeps fun u => State.withCheck_modest fun _ _ => judged_modest (by simp) fun _ =>
    u.takenSummary_modest (u.writeFigures_calm _ _) _)

theorem execPresentCheck_keeps (check : Nat) : KeepsNext s (execPresentCheck h check s) :=
  keeps_next (State.request_keeps fun u => State.withCheck_modest fun _ _ => judged_modest (by simp) fun _ =>
    u.takenSummary_modest (.of_eq (by simp)) _)

/-- Parking a change touches no part that has a range, and is answered in one frame (08 R150, R151). -/
theorem State.park_modest (slot term : Nat) (change : Parked) : Modest s (s.park slot term change) :=
  ⟨.of_eq (by simp), Nat.one_le_ofNat⟩

theorem execTransferCheck_keeps (check table owner : Nat) : KeepsNext s (execTransferCheck h check table owner s) := by
  refine keeps_next (State.request_keeps fun u => State.withCheck_modest fun slot c => judged_modest (by simp) fun _ => ?_)
  split
  · exact u.park_modest _ _ _
  · exact u.takenSummary_modest (.of_eq (by simp)) _

theorem execVoidCheck_keeps (check : Nat) : KeepsNext s (execVoidCheck h check s) := by
  refine keeps_next (State.request_keeps fun u => State.withCheck_modest fun slot c => judged_modest (by simp) fun _ => ?_)
  split
  · exact u.park_modest _ _ _
  · exact .of_reply (.of_eq (by simp))

theorem execCloseCheck_keeps (check : Nat) : KeepsNext s (execCloseCheck h check s) := by
  refine keeps_next (State.request_keeps fun u => State.withCheck_modest fun slot c => judged_modest (by simp) fun _ => ?_)
  split
  · exact .of_reply (.of_eq (by simp))
  · exact u.takenSummary_modest (.of_eq (by simp)) _

theorem State.malformedFrame_keeps (kind reason : Nat) : Keeps s (s.malformedFrame h kind reason) :=
  State.frame_keeps fun u => .refusal u _ _

theorem execAddLines_keeps (check : Nat) (entries : List LineEntry) : KeepsNext s (execAddLines h check entries s) := by
  refine keeps_next ?_
  split
  · exact s.malformedFrame_keeps h _ _
  · exact State.request_keeps fun u => State.withCheck_modest fun slot c => judged_modest (by simp) fun _ =>
      .of_reply (.of_eq (by simp))

theorem execVoidLine_keeps (check line : Nat) : KeepsNext s (execVoidLine h check line s) := by
  refine keeps_next (State.request_keeps fun u => State.withCheck_modest fun slot c => ite_denied_modest ?_)
  split
  · exact .refusal u _ _
  · refine judged_modest (by simp [State.parkTests]) fun _ => ?_
    split
    · exact u.park_modest _ _ _
    · exact .of_reply (u.writeFigures_calm _ _)

theorem execDiscountLine_keeps (check line amount : Nat) : KeepsNext s (execDiscountLine h check line amount s) := by
  refine keeps_next (State.request_keeps fun u => State.withCheck_modest fun slot c => ite_denied_modest ?_)
  split
  · exact .refusal u _ _
  · refine judged_modest (by simp [State.parkTests]) fun _ => ?_
    split
    · exact u.park_modest _ _ _
    · exact .of_reply (u.writeFigures_calm _ _)

theorem chunks_length_le {α : Type} (n fuel : Nat) (l : List α) : (chunks n fuel l).length ≤ fuel := by
  induction fuel generalizing l with
  | zero => simp [chunks]
  | succ fuel ih =>
    unfold chunks
    split
    · simp
    · exact Nat.succ_le_succ (ih _)

theorem execReadLines_keeps (check first last : Nat) : KeepsNext s (execReadLines h check first last s) :=
  keeps_next (State.request_keeps fun u => State.withCheck_modest fun _ c => judged_modest (by simp) fun _ =>
    ⟨.refl u, by rw [Check.lineFrames, List.length_map]; exact chunks_length_le _ _ _⟩)

theorem execSetSplit_keeps (check kind count : Nat) : KeepsNext s (execSetSplit h check kind count s) :=
  keeps_next (State.request_keeps fun u => State.withCheck_modest fun _ _ => judged_modest (by simp) fun _ =>
    u.takenSummary_modest (.of_eq (by simp)) _)

theorem execSetPortion_keeps (check portion amount : Nat) : KeepsNext s (execSetPortion h check portion amount s) :=
  keeps_next (State.request_keeps fun u => State.withCheck_modest fun _ _ => judged_modest (by simp) fun _ =>
    .of_reply (.of_eq (by simp)))

theorem execLockSplit_keeps (check : Nat) : KeepsNext s (execLockSplit h check s) := by
  refine keeps_next (State.request_keeps fun u => State.withCheck_modest fun slot c => ite_denied_modest ?_)
  split
  · refine .of_reply ?_
    split
    · exact .of_eq (by simp)
    · exact .refl u
  · exact judged_modest (by simp) fun _ => u.takenSummary_modest (.of_eq (by simp)) _

/-! ## Requests on tenders, holds and approvals -/

theorem execStartTender_keeps (check portion kind amount : Nat) (token : List Byte) :
    KeepsNext s (execStartTender h check portion kind amount token s) := by
  refine keeps_next ?_
  split
  · exact s.malformedFrame_keeps h _ _
  · exact State.request_keeps fun u => State.withCheck_modest fun slot c => judged_modest (by simp) fun _ =>
      .of_reply (.of_eq (by simp))

theorem execSubmitTip_keeps (check tender form figure : Nat) :
    KeepsNext s (execSubmitTip h check tender form figure s) :=
  keeps_next (State.request_keeps fun u => State.withCheck_modest fun slot c => ite_denied_modest
    (State.withTender_modest fun i t => judged_modest (by simp) fun _ => .of_reply (.of_eq (by simp))))

theorem execWithdrawTender_keeps (check tender : Nat) : KeepsNext s (execWithdrawTender h check tender s) := by
  refine keeps_next (State.request_keeps fun u => State.withCheck_modest fun slot c =>
    State.withTender_modest fun i t => judged_modest (by simp) fun _ => ?_)
  split
  · exact .of_reply (.of_eq (by simp))
  · exact .of_reply (.of_eq (by simp))

theorem execFetchStatus_keeps (check tender : Nat) : KeepsNext s (execFetchStatus h check tender s) :=
  keeps_next (State.request_keeps fun u => State.withCheck_modest fun slot c =>
    State.withTender_modest fun i t => judged_modest (by simp) fun _ => .of_reply (.of_eq (by simp)))

theorem execAbandonTender_keeps (check tender : Nat) : KeepsNext s (execAbandonTender h check tender s) :=
  keeps_next (State.request_keeps fun u => State.withCheck_modest fun slot c =>
    State.withTender_modest fun i t => judged_modest (by simp) fun _ => .of_reply (.of_eq (by simp)))

theorem execHoldCheck_keeps (check : Nat) : KeepsNext s (execHoldCheck h check s) := by
  refine keeps_next (State.request_keeps fun u => State.withCheck_modest fun slot c => judged_modest (by simp) fun _ =>
    u.takenSummary_modest ?_ _)
  split
  · exact .refl u
  · exact .of_eq (by simp)

theorem execReleaseCheck_keeps (check : Nat) : KeepsNext s (execReleaseCheck h check s) :=
  keeps_next (State.request_keeps fun u => State.withCheck_modest fun slot c => judged_modest (by simp) fun _ =>
    u.takenSummary_modest (.of_eq (by simp)) _)

theorem State.applyLine_calm (slot : Nat) (l : Line) (c : Check) : Calm s ((s.applyLine slot l c).state s) := by
  unfold State.applyLine
  split
  · split
    · exact .refl s
    · exact .of_eq (by simp [Evaluation.state])
  · exact .refl s

theorem State.evaluate_calm (slot : Nat) (c : Check) (change : Parked) :
    Calm s ((s.evaluate slot c change).state s) := by
  cases change with
  | voidLine n =>
    simp only [State.evaluate]
    split
    · exact .refl s
    · exact s.applyLine_calm _ _ _
  | discountLine n d =>
    simp only [State.evaluate]
    split
    · exact .refl s
    · exact s.applyLine_calm _ _ _
  | voidCheck =>
    simp only [State.evaluate]
    split
    · exact .refl s
    · split
      · exact .refl s
      · exact .of_eq (by simp [Evaluation.state])
  | transferCheck table owner =>
    simp only [State.evaluate, State.applyTransfer]
    split
    · exact .refl s
    · split
      · exact .refl s
      · split
        · exact .refl s
        · exact .of_eq (by simp [Evaluation.state])

theorem State.approveRecord_calm (a : Approval) (c : Check) : Calm s (s.approveRecord a c).1 := by
  have heval : Calm s (((s.dropApproval a).evaluate a.slot c a.change).state (s.dropApproval a)) :=
    Calm.trans (.of_eq (by simp)) ((s.dropApproval a).evaluate_calm _ _ _)
  unfold State.approveRecord
  simp only
  cases he : (s.dropApproval a).evaluate a.slot c a.change with
  | refused code | applied t | retired t =>
    rw [he] at heval
    exact heval.trans (.of_eq (by simp [Evaluation.state]))

theorem execApprove_keeps (check number : Nat) : KeepsNext s (execApprove h check number s) :=
  keeps_next (State.request_keeps fun u => State.withApproval_modest fun slot c a => judged_modest (by simp) fun _ =>
    .of_reply (u.approveRecord_calm a c))

theorem execReject_keeps (check number : Nat) : KeepsNext s (execReject h check number s) :=
  keeps_next (State.request_keeps fun u => State.withApproval_modest fun slot c a => judged_modest (by simp) fun _ =>
    .of_reply (.of_eq (by simp)))

/-! ## Requests on watches, the floor map and the settings -/

theorem execSetWatch_keeps (check mask : Nat) : KeepsNext s (execSetWatch h check mask s) :=
  keeps_next (State.request_keeps fun u => State.withCheck_modest fun slot c => judged_modest (by simp) fun _ =>
    .of_reply (.of_eq (by simp)))

theorem execDropWatch_keeps (check : Nat) : KeepsNext s (execDropWatch h check s) :=
  keeps_next (State.request_keeps fun u => judged_modest (by simp) fun _ => .of_reply (.of_eq (by simp)))

theorem execFetchHits_keeps : KeepsNext s (execFetchHits h s) :=
  keeps_next (State.request_keeps fun u => .of_reply (.of_eq (by simp)))

theorem execFetchNextPending_keeps : KeepsNext s (execFetchNextPending h s) := by
  refine keeps_next (State.request_keeps fun u => ?_)
  split
  · exact .refusal u _ _
  · exact .of_reply (.of_eq (by simp))

theorem execAckNoticeStartup_keeps (source : Nat) : KeepsNext s (execAckNoticeStartup h source s) :=
  keeps_next (State.request_keeps fun u => judged_modest (by simp) fun _ => .of_reply (.of_eq (by simp)))

theorem execAckNoticeAged_keeps : KeepsNext s (execAckNoticeAged h s) :=
  keeps_next (State.request_keeps fun u => .of_reply (.of_eq (by simp)))

theorem execSetTable_keeps (first last sect : Nat) : KeepsNext s (execSetTable h first last sect s) := by
  refine keeps_next (State.request_keeps fun u => judged_modest (by simp) fun ht => .of_reply ?_)
  simp only [judge_eq_none_cons, decide_eq_false_iff_not] at ht
  obtain ⟨-, -, -, hsect, -⟩ := ht
  refine .of_sst (fun ⟨⟨hvalues, hsections, hrest⟩, hstore⟩ => ⟨⟨hvalues, ?_, hrest⟩, hstore⟩) (by simp)
  exact foldl_set1_inRange (Nat.not_lt.mp hsect) _ hsections

theorem State.writeTerminal_calm (t : Nat) (role : Role) (mask : BitVec 8) : Calm s (s.writeTerminal t role mask) :=
  .of_sst (fun ⟨⟨hvalues, hsections, hroles, hmasks⟩, hstore⟩ => ⟨⟨hvalues, hsections,
    (set1_length _ _ _).trans hroles, (set1_length _ _ _).trans hmasks⟩, hstore⟩) (by simp)

theorem execSetTerminal_keeps (terminal role mask : Nat) : KeepsNext s (execSetTerminal h terminal role mask s) :=
  keeps_next (State.request_keeps fun u => judged_modest (by simp) fun _ =>
    .of_reply ((u.writeTerminal_calm terminal ((Role.ofNat? role).getD .off) (BitVec.ofNat 8 mask)).trans
      (.of_eq (by simp))))

theorem execForgetTerminal_keeps (terminal : Nat) : KeepsNext s (execForgetTerminal h terminal s) :=
  keeps_next (State.request_keeps fun u => judged_modest (by simp) fun _ => .of_reply (.of_eq (by simp)))

theorem execReadTable_keeps (table : Nat) : KeepsNext s (execReadTable h table s) :=
  keeps_next (State.request_keeps fun u => judged_modest (by simp) fun _ => .refusal u _ _)

theorem execSetSetting_keeps (number value : Nat) : KeepsNext s (execSetSetting h number value s) := by
  refine keeps_next (State.request_keeps fun u => judged_modest (by simp) fun ht => .of_reply ?_)
  simp only [judge_eq_none_cons, settingExists, Bool.not_eq_false', Bool.and_eq_true, decide_eq_true_eq] at ht
  obtain ⟨⟨-, hle⟩, -⟩ := ht
  exact .of_sst (fun ⟨hwork, hstore⟩ => ⟨hwork.write _ _ hle, hstore⟩) (by simp)

theorem execReadSetting_keeps (number : Nat) : KeepsNext s (execReadSetting h number s) :=
  keeps_next (State.request_keeps fun u => judged_modest (by simp) fun _ => .refusal u _ _)

theorem execSaveSettings_keeps : KeepsNext s (execSaveSettings h s) := by
  refine keeps_next (State.request_keeps fun u => judged_modest (by simp) fun _ => .of_reply ?_)
  refine .of_sst (fun ⟨hwork, _, _, hfactory⟩ => ⟨hwork, fun w hw => ?_, nofun, hfactory⟩) (by simp)
  exact Option.some.inj hw ▸ hwork

theorem State.loadCopy_calm {w : Settings} (hw : s.sst.InRange → w.InRange) (loaded : LoadedFrom) :
    Calm s (s.loadCopy w loaded) :=
  Calm.trans (.of_sst (t := { s with sst := { s.sst with work := w, loaded } })
      (fun hs => hs.withWork (hw hs) loaded) ⟨rfl, rfl, rfl, rfl, rfl, rfl⟩)
    (Calm.foldl (f := fun u t => (u.releaseTerminal t).1) (fun u t => .of_eq (by simp)) _ _)

/-- The contents of the area that a source names are complete (11 R191, R193). -/
theorem SettingsStore.InRange.sourceArea {t : SettingsStore} (ht : t.InRange) {u : State} (hu : u.sst = t)
    {source : Nat} {area : Option Area} {loaded : LoadedFrom} (h : u.sourceArea source = some (area, loaded))
    {a : Area} (ha : usable area = some a) : a.contents.Complete := by
  subst hu
  obtain ⟨-, -, hsite, hfactory⟩ := ht
  unfold State.sourceArea at h
  split at h
  · cases h; exact hsite a (eq_of_usable ha)
  · cases h; exact hfactory a (eq_of_usable ha)
  · simp at h

theorem execLoadSettings_keeps (source : Nat) : KeepsNext s (execLoadSettings h source s) := by
  refine keeps_next (State.request_keeps fun u => ?_)
  split
  · exact .refusal u _ _
  next area loaded harea =>
    split
    · exact .refusal u _ _
    next a ha =>
      exact judged_modest (by simp) fun _ => .of_reply
        (u.loadCopy_calm (fun hu => (hu.sourceArea rfl harea ha).toSettings) loaded)

theorem execSetClock_keeps {day : Nat} (hday : day ≤ 65535) (minute : Nat) :
    KeepsNext s (execSetClock h day minute s) := by
  refine keeps_next (State.request_keeps fun u => judged_modest (by simp) fun ht => .of_reply ?_)
  simp only [judge_eq_none_cons, decide_eq_false_iff_not] at ht
  obtain ⟨hminute, -⟩ := ht
  exact ⟨fun hu => ⟨hu.settings, ⟨hday, Nat.not_lt.mp hminute, Nat.zero_le _⟩, hu.gateway, hu.acquirer⟩, rfl, rfl, rfl⟩

theorem execReadPartStatus_keeps : KeepsNext s (execReadPartStatus h s) :=
  keeps_next (State.request_keeps fun u => ⟨.refl u, by simp⟩)

theorem State.clearFault_calm : Calm s s.clearFault :=
  ⟨fun hs => ⟨by simpa using hs.settings, by simpa using hs.clock, by simpa using hs.gateway, by
    obtain ⟨hdiscarded, -⟩ := hs.acquirer
    unfold State.clearFault
    simp only
    split
    · exact ⟨hdiscarded, Nat.zero_le _⟩
    · exact ⟨hdiscarded, Nat.zero_le _⟩⟩, by simp, by simp, by simp⟩

theorem execClearLinkFault_keeps : KeepsNext s (execClearLinkFault h s) :=
  keeps_next (State.request_keeps fun u => .of_reply u.clearFault_calm)

/-! ## Requests from either port -/

theorem execMalformedRequest_keeps (kind bodyLen : Nat) : KeepsNext s (execMalformedRequest h kind bodyLen s) := by
  refine keeps_next ?_
  split
  · exact .refl s
  · exact s.malformedFrame_keeps h _ _

theorem execTagZeroFrame_keeps (port : ReqPort) : KeepsNext s (execTagZeroFrame port s) := by
  refine keeps_next ?_
  split
  · exact s.countFraming_keeps port
  · exact .refl s

/-- The day that a SET CLOCK asks for fits the clock (11 R195). -/
def DayFits (i : Instr) : Prop := ∀ h day minute, i = .setClock h day minute → day ≤ 65535

theorem execRequest_keeps {i : Instr} (hday : DayFits i) : KeepsNext s (execRequest i s) := by
  cases i with
  | hello h => exact execHello_keeps s h
  | openCheck h table covers owner => exact execOpenCheck_keeps s h table covers owner
  | readCheck h check => exact execReadCheck_keeps s h check
  | updateCheck h check covers => exact execUpdateCheck_keeps s h check covers
  | presentCheck h check => exact execPresentCheck_keeps s h check
  | transferCheck h check table owner => exact execTransferCheck_keeps s h check table owner
  | voidCheck h check => exact execVoidCheck_keeps s h check
  | closeCheck h check => exact execCloseCheck_keeps s h check
  | addLines h check entries => exact execAddLines_keeps s h check entries
  | voidLine h check line => exact execVoidLine_keeps s h check line
  | discountLine h check line amount => exact execDiscountLine_keeps s h check line amount
  | readLines h check first last => exact execReadLines_keeps s h check first last
  | setSplit h check kind count => exact execSetSplit_keeps s h check kind count
  | setPortion h check portion amount => exact execSetPortion_keeps s h check portion amount
  | lockSplit h check => exact execLockSplit_keeps s h check
  | startTender h check portion kind amount token => exact execStartTender_keeps s h check portion kind amount token
  | submitTip h check tender form figure => exact execSubmitTip_keeps s h check tender form figure
  | withdrawTender h check tender => exact execWithdrawTender_keeps s h check tender
  | fetchStatus h check tender => exact execFetchStatus_keeps s h check tender
  | abandonTender h check tender => exact execAbandonTender_keeps s h check tender
  | holdCheck h check => exact execHoldCheck_keeps s h check
  | releaseCheck h check => exact execReleaseCheck_keeps s h check
  | approve h check number => exact execApprove_keeps s h check number
  | reject h check number => exact execReject_keeps s h check number
  | setWatch h check mask => exact execSetWatch_keeps s h check mask
  | dropWatch h check => exact execDropWatch_keeps s h check
  | fetchHits h => exact execFetchHits_keeps s h
  | fetchNextPending h => exact execFetchNextPending_keeps s h
  | ackNoticeStartup h source => exact execAckNoticeStartup_keeps s h source
  | ackNoticeAged h => exact execAckNoticeAged_keeps s h
  | setTable h first last sect => exact execSetTable_keeps s h first last sect
  | setTerminal h terminal role mask => exact execSetTerminal_keeps s h terminal role mask
  | forgetTerminal h terminal => exact execForgetTerminal_keeps s h terminal
  | readTable h table => exact execReadTable_keeps s h table
  | setSetting h number value => exact execSetSetting_keeps s h number value
  | readSetting h number => exact execReadSetting_keeps s h number
  | saveSettings h => exact execSaveSettings_keeps s h
  | loadSettings h source => exact execLoadSettings_keeps s h source
  | setClock h day minute => exact execSetClock_keeps s h (hday h day minute rfl) minute
  | readPartStatus h => exact execReadPartStatus_keeps s h
  | clearLinkFault h => exact execClearLinkFault_keeps s h
  | malformedRequest h kind bodyLen => exact execMalformedRequest_keeps s h kind bodyLen
  | tagZeroFrame port => exact execTagZeroFrame_keeps s port
  | crcErrorFrame _ | frameLenError _ _ | frameIdleTimeout _ _ | requestOverrun _ | fhpTransaction _
  | outputFrameSent _ | result _ _ | nonResultFrame _ | exchangeTimeout _ | grant | noLinkCompletion
  | linkOkFall | linkOkRise | leaseExpiry _ _ | approvalExpiry _ | terminalSilence _ | checkAged _
  | secondTick | minuteTick | saveEnd _ | resetAssert _ | coldStart _ | warmStart _
  | clockAdvanceWithoutPower _ | retentionIndicatorLost => exact keeps_next (.refl s)

end

/-! ## The Front-of-House transaction (10 R177) -/

/-- A field of n bytes is below 256 to the n (10 R185). -/
theorem ofBe_lt (bs : List Byte) : ofBe bs < 256 ^ bs.length := by
  have hfold : ∀ (l : List Byte) (acc : Nat),
      l.foldl (fun acc b => acc * 256 + b.toNat) acc < (acc + 1) * 256 ^ l.length := by
    intro l
    induction l with
    | nil => simp
    | cons b l ih =>
      intro acc
      have hb : b.toNat < 256 := b.isLt
      calc List.foldl _ (acc * 256 + b.toNat) l
        _ < (acc * 256 + b.toNat + 1) * 256 ^ l.length := ih _
        _ ≤ ((acc + 1) * 256) * 256 ^ l.length := Nat.mul_le_mul_right _ (by omega)
        _ = (acc + 1) * 256 ^ (b :: l).length := by rw [List.length_cons, Nat.pow_succ]; ring
  simpa [ofBe] using hfold bs 0

theorem fields_cons {n : Nat} {ns vs : List Nat} {body : List Byte} (h : fields (n :: ns) body = some vs) :
    ∃ v vs', vs = v :: vs' ∧ v < 256 ^ n ∧ fields ns (body.drop n) = some vs' := by
  rw [fields] at h
  split at h
  · simp at h
  next hlen =>
    obtain ⟨vs', hrest, rfl⟩ := Option.map_eq_some_iff.mp h
    have hlt := ofBe_lt (body.take n)
    rw [List.length_take, Nat.min_eq_left (Nat.not_lt.mp hlen)] at hlt
    exact ⟨_, vs', rfl, hlt, hrest⟩

/-- The command is SET CLOCK. -/
def isSetClock : Instr → Bool
  | .setClock _ _ _ => true
  | _ => false

/-- Among the kinds of one byte, a list of fields spells SET CLOCK under 0x84 alone; 0x69, whose command its field
chooses, is left out. -/
def ClockKind (h : Hdr) (vs : List Nat) : Prop :=
  ((List.range 16).all fun q => (List.range 16).all fun r =>
    16 * q + r == 0x84 || 16 * q + r == 0x69 || !(decodeFields h (16 * q + r) vs).any isSetClock) = true

/-- The table of 10.6 read off kind by kind. -/
theorem clockKind (h : Hdr) : ∀ vs, ClockKind h vs
  | [] => rfl
  | [_] => rfl
  | [_, _] => rfl
  | [_, _, _] => rfl
  | [_, _, _, _] => rfl
  | _ :: _ :: _ :: _ :: _ :: _ => rfl

theorem decodeFields_setClock_kind {h h' : Hdr} {kind d m : Nat} {vs : List Nat} (hkind : kind < 256)
    (hd : decodeFields h kind vs = some (.setClock h' d m)) : kind = 0x84 := by
  have hall := clockKind h vs
  simp only [ClockKind, List.all_eq_true, List.mem_range] at hall
  have hcase := hall (kind / 16) (by omega) (kind % 16) (Nat.mod_lt _ (by omega))
  rw [Nat.div_add_mod, hd] at hcase
  by_cases hack : kind = 0x69
  · subst hack
    rcases vs with _ | ⟨source, _ | ⟨_, _⟩⟩
    · cases hd
    · have hone : some (if source = 12 then .ackNoticeAged h else .ackNoticeStartup h source)
          = some (Instr.setClock h' d m) := hd
      split at hone <;> cases hone
    · cases hd
  · simpa [isSetClock, hack] using hcase

/-- SET CLOCK is spelled by two fields of two bytes (10.6). -/
theorem decodeBody_setClock {h h' : Hdr} {kind d m : Nat} {body : List Byte} (hkind : kind < 256)
    (hd : decodeBody h kind body = some (.setClock h' d m)) : d ≤ 65535 := by
  unfold decodeBody at hd
  split at hd
  · split at hd
    · split at hd <;> simp at hd
    · simp at hd
  · split at hd
    · split at hd
      · split at hd <;> simp at hd
      · simp at hd
    · split at hd
      next vs hvs =>
        obtain rfl := decodeFields_setClock_kind hkind hd
        obtain ⟨v, vs', rfl, hv, hrest⟩ := fields_cons hvs
        obtain ⟨v', vs'', rfl, -, hrest⟩ := fields_cons hrest
        cases vs'' with
        | nil => cases hd; omega
        | cons _ _ => cases hd
      · simp at hd

theorem decodeRequest_dayFits {port : ReqPort} {content : List Byte} {i : Instr}
    (hi : decodeRequest port content = some i) : DayFits i := by
  rintro h day minute rfl
  unfold decodeRequest at hi
  split at hi
  next term tag kind ver hfields =>
    obtain ⟨_, _, hvs, -, hrest⟩ := fields_cons hfields
    obtain ⟨-, rfl⟩ := List.cons.inj hvs
    obtain ⟨_, _, hvs, -, hrest⟩ := fields_cons hrest
    obtain ⟨-, rfl⟩ := List.cons.inj hvs
    obtain ⟨_, _, hvs, hkind, -⟩ := fields_cons hrest
    obtain ⟨rfl, -⟩ := List.cons.inj hvs
    simp only at hi
    split at hi
    · simp at hi
    · cases hbody : decodeBody { port, term, tag, ver } kind (content.drop 5) with
      | none => simp [hbody] at hi
      | some j =>
        rw [hbody, Option.getD_some] at hi
        obtain rfl := Option.some.inj hi
        exact decodeBody_setClock (by simpa using hkind) hbody
  · simp at hi

theorem KeepsNext.orElse {s : State} {o : Out} (h : KeepsNext s o) : Keeps s (Out.orElse o s) := by
  cases o with
  | next t => exact h t rfl
  | fault _ | refused _ => exact .refl s

theorem Keeps.trans {s t u : State} (hst : Keeps s t) (htu : Keeps t u) : Keeps s u := fun hs => by
  obtain ⟨ht, hpending⟩ := hst hs
  obtain ⟨hu, hpending'⟩ := htu ht
  exact ⟨hu, hpending'.trans hpending⟩

theorem State.countCrc_keeps (s : State) (p : Port) : Keeps s (s.countCrc p) := by
  cases p with
  | flp =>
    refine keeps_of_ports ?_ ⟨rfl, rfl, rfl, rfl, rfl, rfl⟩
    rintro ⟨⟨hcrc, hframing, hoverruns, hdrops⟩, hhouse, hout, hhouseOut⟩
    exact ⟨⟨satSucc_le hcrc, hframing, hoverruns, hdrops⟩, hhouse, hout, hhouseOut⟩
  | fhp =>
    refine keeps_of_ports ?_ ⟨rfl, rfl, rfl, rfl, rfl, rfl⟩
    rintro ⟨hfloor, ⟨hcrc, hframing, hoverruns⟩, hout, hhouseOut⟩
    exact ⟨hfloor, ⟨satSucc_le hcrc, hframing, hoverruns⟩, hout, hhouseOut⟩
  | aqp =>
    refine Calm.keeps ⟨fun ⟨hsettings, hclock, ⟨hcrc, hframing, hout⟩, hacquirer⟩ => ?_, rfl, rfl, rfl⟩ rfl
    exact ⟨hsettings, hclock, ⟨satSucc_le hcrc, hframing, hout⟩, hacquirer⟩

theorem State.takeIncoming_keeps (s : State) (bytes : List Byte) : Keeps s (s.takeIncoming bytes) := by
  unfold State.takeIncoming
  split
  · exact .refl s
  · exact s.countFraming_keeps .fhp
  · exact s.countCrc_keeps .fhp
  · split
    · exact .refl s
    next i hi => exact (execRequest_keeps s (decodeRequest_dayFits hi)).orElse

theorem State.leaveHead_keeps (s : State) (n : Nat) (presented : Option Frame) : Keeps s (s.leaveHead n presented) := by
  unfold State.leaveHead
  split
  · exact .refl s
  · split
    · refine keeps_of_ports (fun ⟨hfloor, hhouse, hout, hhouseOut⟩ => ⟨hfloor, hhouse, hout, ?_⟩)
        ⟨rfl, rfl, rfl, rfl, rfl, rfl⟩
      rw [List.length_tail]
      omega
    · exact .refl s

theorem execFhpTransaction_keeps (s : State) (bytes : List Byte) : KeepsNext s (execFhpTransaction bytes s) := by
  refine keeps_next ?_
  split
  · exact .refl s
  · split
    · exact keeps_of_ports (fun ⟨hfloor, hhouse, hout, hhouseOut⟩ => ⟨hfloor, hhouse, hout, hhouseOut⟩)
        ⟨rfl, rfl, rfl, rfl, rfl, rfl⟩
    · have hleft := (s.takeIncoming_keeps bytes).trans (State.leaveHead_keeps _ bytes.length s.fhp.out.head?)
      exact hleft.trans (keeps_of_ports (fun ⟨hfloor, hhouse, hout, hhouseOut⟩ => ⟨hfloor, hhouse, hout, hhouseOut⟩)
        ⟨rfl, rfl, rfl, rfl, rfl, rfl⟩)

/-! ## The assemblers and the frames that leave (10 R175, R179, R184) -/

section
variable (s : State)

theorem execCrcErrorFrame_keeps (port : Port) : KeepsNext s (execCrcErrorFrame port s) := by
  refine keeps_next ?_
  split
  · exact s.countCrc_keeps port
  · exact .refl s

theorem State.framingError_keeps (p : StreamPort) (a : Assembler) : Keeps s (s.framingError p a) := by
  cases p with
  | flp =>
    refine keeps_of_ports ?_ ⟨rfl, rfl, rfl, rfl, rfl, rfl⟩
    rintro ⟨⟨hcrc, hframing, hoverruns, hdrops⟩, hhouse, hout, hhouseOut⟩
    exact ⟨⟨hcrc, satSucc_le hframing, hoverruns, hdrops⟩, hhouse, hout, hhouseOut⟩
  | aqp =>
    refine Calm.keeps ⟨fun ⟨hsettings, hclock, ⟨hcrc, hframing, hout⟩, hacquirer⟩ => ?_, rfl, rfl, rfl⟩ rfl
    exact ⟨hsettings, hclock, ⟨hcrc, satSucc_le hframing, hout⟩, hacquirer⟩

theorem State.assemblerIdle_keeps (p : StreamPort) : Keeps s (s.assemblerIdle p) := by
  cases p with
  | flp =>
    refine keeps_of_ports ?_ ⟨rfl, rfl, rfl, rfl, rfl, rfl⟩
    rintro ⟨hfloor, hhouse, hout, hhouseOut⟩
    exact ⟨hfloor, hhouse, hout, hhouseOut⟩
  | aqp => exact Calm.keeps ⟨fun hs => ⟨hs.settings, hs.clock, hs.gateway, hs.acquirer⟩, rfl, rfl, rfl⟩ rfl

theorem execFrameLenError_keeps (port : StreamPort) (len : Nat) : KeepsNext s (execFrameLenError port len s) := by
  refine keeps_next ?_
  split
  · exact s.framingError_keeps port _
  · exact .refl s

theorem execFrameIdleTimeout_keeps (port : StreamPort) (count : Nat) :
    KeepsNext s (execFrameIdleTimeout port count s) := by
  refine keeps_next ?_
  split
  · exact .refl s
  · split
    · exact s.assemblerIdle_keeps port
    · split
      · exact .refl s
      · exact s.framingError_keeps port _
    · exact s.framingError_keeps port _
    · exact s.framingError_keeps port _

theorem execRequestOverrun_keeps (port : ReqPort) : KeepsNext s (execRequestOverrun port s) := by
  refine keeps_next ?_
  split
  · exact s.countOverrun_keeps port
  · exact .refl s

theorem execOutputFrameSent_keeps (port : StreamPort) : KeepsNext s (execOutputFrameSent port s) := by
  refine keeps_next ?_
  split
  · exact .refl s
  · cases port with
    | flp =>
      dsimp only
      split
      · exact .refl s
      next f fs hout =>
        refine keeps_of_ports (fun ⟨hfloor, hhouse, hlen, hhouseOut⟩ => ⟨hfloor, hhouse, ?_, hhouseOut⟩)
          ⟨rfl, rfl, rfl, rfl, rfl, rfl⟩
        rw [hout, List.length_cons] at hlen
        exact Nat.le_of_succ_le hlen
    | aqp =>
      refine Calm.keeps ⟨fun ⟨hsettings, hclock, ⟨hcrc, hframing, hout⟩, hacquirer⟩ => ?_, rfl, rfl, rfl⟩ rfl
      refine ⟨hsettings, hclock, ⟨by simpa using hcrc, by simpa using hframing, ?_⟩, hacquirer⟩
      rw [GatewayPort.sendHead_out, List.length_tail]
      omega

/-! ## The Acquirer Port (07) -/

theorem State.clearTimeouts_calm : Calm s s.clearTimeouts :=
  ⟨fun hs => ⟨hs.settings, hs.clock, hs.gateway, ⟨hs.acquirer.1, Nat.zero_le _⟩⟩, rfl, rfl, rfl⟩

theorem State.discardFrame_calm : Calm s s.discardFrame :=
  ⟨fun hs => ⟨hs.settings, hs.clock, hs.gateway, ⟨satSucc_le hs.acquirer.1, hs.acquirer.2⟩⟩, rfl, rfl, rfl⟩

theorem State.departUp_calm : Calm s s.departUp := Calm.foldl (fun u n => .of_eq (by simp)) _ _

/-- The timeout count stops at its setting, which is at most 10 (07 R128). -/
theorem State.raiseTimeouts_calm : Calm s s.raiseTimeouts := by
  simp only [State.raiseTimeouts]
  split
  next hlt =>
    refine ⟨fun hs => ⟨hs.settings, hs.clock, hs.gateway, ⟨hs.acquirer.1, ?_⟩⟩, rfl, rfl, rfl⟩
    have hlimit : s.setting 18 ≤ 10 := hs.settings.timeoutLimit
    show s.aqp.timeouts + 1 ≤ 10
    omega
  · have hfailed : Calm s { s with aqp := { s.aqp with timeouts := s.setting 18, link := .failed } } :=
      ⟨fun hs => ⟨hs.settings, hs.clock, hs.gateway, ⟨hs.acquirer.1, hs.settings.timeoutLimit⟩⟩, rfl, rfl, rfl⟩
    split
    · exact hfailed.trans (State.departUp_calm _)
    · exact hfailed

theorem execResult_keeps (tag : Nat) (body : List Byte) : KeepsNext s (execResult tag body s) := by
  refine keeps_next ?_
  have hclear := s.clearTimeouts_calm
  have hdiscard := hclear.trans (State.discardFrame_calm _)
  split
  · exact .refl s
  · split
    · exact hdiscard.keeps rfl
    · unfold State.matchResult
      split
      · exact hdiscard.keeps rfl
      · split
        · exact hdiscard.keeps rfl
        · split
          · exact hdiscard.keeps rfl
          · exact (hclear.trans (.of_eq (by simp))).keeps_flushPushes

theorem execNonResultFrame_keeps (kind : Nat) : KeepsNext s (execNonResultFrame kind s) := by
  refine keeps_next ?_
  split
  · exact s.discardFrame_calm.keeps rfl
  · exact .refl s

theorem execExchangeTimeout_keeps (tag : Nat) : KeepsNext s (execExchangeTimeout tag s) := by
  refine keeps_next ?_
  split
  · exact .refl s
  next j _ =>
    split
    · exact .refl s
    · split
      · have hfreed : Calm s ((s.doneExchange tag).setEntry j none) := .of_eq (by simp)
        exact ((hfreed.trans (State.raiseTimeouts_calm _)).trans (.of_eq (by simp))).keeps_flushPushes
      · exact .refl s

theorem State.grantNeed_keeps (j : Nat) (n : Need) (t : Tender) : Keeps s (s.grantNeed j n t) := by
  refine Calm.keeps ⟨fun ⟨hsettings, hclock, ⟨hcrc, hframing, hout⟩, hacquirer⟩ => ?_, rfl, rfl, rfl⟩ rfl
  exact ⟨hsettings, hclock, ⟨by simpa [State.grantNeed] using hcrc, by simpa [State.grantNeed] using hframing,
    GatewayPort.sendMessage_length_le _ _ hout⟩, hacquirer⟩

theorem execGrant_keeps : KeepsNext s (execGrant s) := by
  refine keeps_next ?_
  split
  · split
    · exact .refl s
    · split
      · exact .refl s
      · exact s.grantNeed_keeps _ _ _
  · exact .refl s

theorem execNoLinkCompletion_keeps : KeepsNext s (execNoLinkCompletion s) := by
  refine keeps_next ?_
  split
  · split
    · exact .refl s
    · exact Calm.keeps_flushPushes (.of_eq (by simp))
  · exact .refl s

theorem execLinkOkFall_keeps : KeepsNext s (execLinkOkFall s) := by
  refine keeps_next ?_
  simp only
  split
  · have hdown : Calm s ((s.setLinkOk false).setLink .down) := .of_eq (by simp)
    exact (hdown.trans (State.departUp_calm _)).keeps_flushPushes
  · exact Calm.keeps (.of_eq (by simp)) rfl

theorem execLinkOkRise_keeps : KeepsNext s (execLinkOkRise s) := by
  refine keeps_next ?_
  simp only
  split
  · exact Calm.keeps (.of_eq (by simp)) rfl
  · exact Calm.keeps (.of_eq (by simp)) rfl

/-! ## What the ticks find, and the ticks (11 R194) -/

theorem execLeaseExpiry_keeps (check tender : Nat) : KeepsNext s (execLeaseExpiry check tender s) := by
  refine keeps_next ?_
  split
  · exact .refl s
  · split
    · exact .refl s
    · split
      · exact Calm.keeps_flushPushes (.of_eq (by simp))
      · exact .refl s

theorem execApprovalExpiry_keeps (number : Nat) : KeepsNext s (execApprovalExpiry number s) := by
  refine keeps_next ?_
  split
  · exact .refl s
  · split
    · exact Calm.keeps_flushPushes (.of_eq (by simp))
    · exact .refl s

theorem execTerminalSilence_keeps (terminal : Nat) : KeepsNext s (execTerminalSilence terminal s) := by
  refine keeps_next ?_
  split
  · exact Calm.keeps (.of_eq (by simp)) (by simp)
  · exact .refl s

theorem execCheckAged_keeps (check : Nat) : KeepsNext s (execCheckAged check s) := by
  refine keeps_next ?_
  split
  · exact .refl s
  · split
    · exact .refl s
    · split
      · exact Calm.keeps (.of_eq (by simp)) (by simp)
      · exact .refl s

/-- A new reading of the clock, in range. -/
theorem Calm.of_clock {t : State} (hclock : t.fck.InRange) (h : t.sst = s.sst ∧ t.gwp = s.gwp ∧ t.aqp = s.aqp
    ∧ t.flp = s.flp ∧ t.fhp = s.fhp ∧ t.pending = s.pending) : Calm s t := by
  obtain ⟨hsst, hgwp, haqp, hflp, hfhp, hpending⟩ := h
  exact ⟨fun hs => ⟨hsst ▸ hs.settings, hclock, hgwp ▸ hs.gateway, haqp ▸ hs.acquirer⟩, hflp, hfhp, hpending⟩

theorem execSecondTick_keeps : KeepsNext s (execSecondTick s) := by
  refine keeps_next ?_
  split
  · have hclock : s.fck.tick.InRange := s.fck.advance_inRange 1
    simp only
    split
    · exact Calm.keeps (.of_clock s hclock (by simp)) (by simp)
    · exact Calm.keeps (.of_clock s hclock ⟨rfl, rfl, rfl, rfl, rfl, rfl⟩) rfl
  · exact .refl s

theorem execMinuteTick_keeps : KeepsNext s (execMinuteTick s) := by
  refine keeps_next ?_
  split
  · exact Calm.keeps (.of_clock s (s.fck.advance_inRange 1) (by simp)) (by simp)
  · exact .refl s

theorem State.passMinutes_calm (n : Nat) : Calm s (State.passMinutes n s) ∧ (State.passMinutes n s).wnu = s.wnu := by
  induction n generalizing s with
  | zero => exact ⟨.refl s, rfl⟩
  | succ n ih =>
    obtain ⟨hcalm, hwnu⟩ := ih ({ s with fck := s.fck.advance 60 } : State).minuteTested
    have hminute : Calm s ({ s with fck := s.fck.advance 60 } : State).minuteTested :=
      .of_clock s (s.fck.advance_inRange 60) ⟨rfl, rfl, rfl, rfl, rfl, rfl⟩
    exact ⟨hminute.trans hcalm, hwnu⟩

theorem execClockAdvanceWithoutPower_keeps (seconds : Nat) :
    KeepsNext s (execClockAdvanceWithoutPower seconds s) := by
  refine keeps_next ?_
  split
  · have hclock := s.fck.advance_inRange seconds
    simp only
    split
    · obtain ⟨hcalm, hwnu⟩ := s.passMinutes_calm ((s.fck.second + seconds) / 60)
      have hset : Calm (State.passMinutes ((s.fck.second + seconds) / 60) s)
          { State.passMinutes ((s.fck.second + seconds) / 60) s with fck := s.fck.advance seconds } :=
        .of_clock _ hclock ⟨rfl, rfl, rfl, rfl, rfl, rfl⟩
      exact (hcalm.trans hset).keeps (congrArg WatchUnit.pushes hwnu)
    · exact Calm.keeps (.of_clock s hclock ⟨rfl, rfl, rfl, rfl, rfl, rfl⟩) rfl
  · exact .refl s

theorem execSaveEnd_keeps (matched : Bool) : KeepsNext s (execSaveEnd matched s) := by
  refine keeps_next ?_
  split
  · exact Calm.keeps (.of_sst (fun hs => hs.finishSave matched) (by simp)) rfl
  · exact .refl s

end

/-! ## The starts (11 R196, R197) -/

/-- No terminal is PRESENT, so that no push is raised, and none is left over (09 R165). -/
structure Hushed (s : State) : Prop where
  silent : ∀ n, s.isPresent n = false
  pushes : s.wnu.pushes = []

theorem Hushed.of_eq {s t : State} (hs : Hushed s) (h : t.fmp = s.fmp ∧ t.wnu.pushes = s.wnu.pushes) : Hushed t :=
  ⟨fun n => (congrArg (fun f : FloorMap => get1 f.present n false) h.1).trans (hs.silent n), h.2.trans hs.pushes⟩

theorem Hushed.raise {s : State} (hs : Hushed s) (p : Push) : Hushed (s.raise p) := by
  rw [State.raise, hs.silent, if_neg (by simp)]
  exact hs

theorem Hushed.foldl {α : Type} {f : State → α → State} (hf : ∀ s a, Hushed s → Hushed (f s a)) (l : List α)
    {s : State} (hs : Hushed s) : Hushed (l.foldl f s) := by
  induction l generalizing s with
  | nil => exact hs
  | cons a l ih => exact ih (hf s a hs)

theorem Hushed.recordHit {s : State} (hs : Hushed s) (t n : Nat) (k : EventKind) : Hushed (s.recordHit t n k) := by
  have hhits : Hushed (s.setHits t (joinHit n k (s.hitSet t))) := hs.of_eq (by simp)
  unfold State.recordHit
  simp only
  split
  · exact hhits.raise _
  · exact hhits

theorem Hushed.handEvent {s : State} (hs : Hushed s) (n : Nat) (k : EventKind) : Hushed (s.handEvent n k) := by
  unfold State.handEvent
  refine Hushed.foldl (fun u w hu => ?_) _ hs
  split
  · exact hu.recordHit _ _ _
  · exact hu

theorem Hushed.setStatus {s : State} (hs : Hushed s) (i : Nat) (st : Status) : Hushed (s.setStatus i st) := by
  unfold State.setStatus
  split
  · exact hs
  next t _ =>
    split
    · exact hs.of_eq (by simp)
    · simp only
      cases t.holder with
      | none => exact hs.of_eq (by simp [State.raiseCount])
      | some n =>
        simp only [State.raiseCount]
        split
        · exact Hushed.raise (hs.of_eq (by simp)) _
        · exact hs.of_eq (by simp)

theorem Hushed.derive {s : State} (hs : Hushed s) (b : Bool) (slot : Nat) : Hushed (s.derive b slot) := by
  unfold State.derive
  split
  · exact hs
  · simp only
    split
    · exact Hushed.handEvent (hs.of_eq (by simp)) _ _
    · exact hs

theorem Hushed.recoverTender {s : State} (hs : Hushed s) (i : Nat) : Hushed (s.recoverTender i) := by
  have hmoved : Hushed (s.moveTender i Tender.recover) := hs.of_eq (by simp)
  unfold State.recoverTender
  split
  · exact hs
  · split
    · simp only
      split
      · exact hmoved.setStatus _ _
      · exact hmoved
    · exact hs.of_eq (by simp)

theorem Hushed.settleStart {s : State} (hs : Hushed s) (changed : List Nat) (slot : Nat) :
    Hushed (s.settleStart changed slot) := by
  unfold State.settleStart
  split
  · exact hs
  · split
    · exact Hushed.handEvent (hs.of_eq (by simp)) _ _
    · split
      · exact Hushed.derive (hs.of_eq (by simp)) _ _
      · exact hs

theorem Hushed.recoverAll {s : State} (hs : Hushed s) : Hushed s.recoverAll := by
  rw [State.recoverAll_eq]
  have htenders : Hushed s.tendersRecovered := Hushed.foldl (fun _ i hu => hu.recoverTender i) _ hs
  have hchecks : Hushed (s.tendersRecovered.checksSettled s.recovering) :=
    Hushed.foldl (fun _ slot hu => hu.settleStart _ slot) _ htenders
  have hrecords : Hushed (s.tendersRecovered.checksSettled s.recovering).restartLeases.restartApprovals :=
    hchecks.of_eq ⟨rfl, rfl⟩
  exact Hushed.foldl (fun _ i hu => hu.of_eq (by simp)) _ hrecords

section
variable (s : State)

theorem State.recoverTender_calm (i : Nat) : Calm s (s.recoverTender i) := by
  unfold State.recoverTender
  split
  · exact .refl s
  · split
    · simp only
      split
      · exact .of_eq (by simp)
      · exact .of_eq (by simp)
    · exact .of_eq (by simp)

theorem State.settleStart_calm (changed : List Nat) (slot : Nat) : Calm s (s.settleStart changed slot) := by
  unfold State.settleStart
  split
  · exact .refl s
  · split
    · exact .of_eq (by simp)
    · split
      · exact .of_eq (by simp)
      · exact .refl s

theorem State.recoverAll_calm : Calm s s.recoverAll := by
  rw [State.recoverAll_eq]
  have htenders : Calm s s.tendersRecovered := Calm.foldl State.recoverTender_calm _ s
  have hchecks : Calm s.tendersRecovered (s.tendersRecovered.checksSettled s.recovering) :=
    Calm.foldl (fun u slot => u.settleStart_calm s.recovering slot) _ _
  have hrecords : Calm (s.tendersRecovered.checksSettled s.recovering)
      (s.tendersRecovered.checksSettled s.recovering).restartLeases.restartApprovals :=
    .of_eq ⟨rfl, rfl, rfl, rfl, rfl, rfl, rfl, rfl⟩
  exact ((htenders.trans hchecks).trans hrecords).trans (Calm.foldl (fun u i => .of_eq (by simp)) _ _)

/-- What both kinds of start do sets every count and list to an empty value, and leaves the settings and the clock in
range (10 R187, 11 R197). -/
theorem State.started_fit (selLow : Bool) (k : StartKind) (hsettings : s.sst.InRange) (hclock : s.fck.InRange) :
    Fit ((s.startCommon selLow).latchStart k) := by
  obtain ⟨hwork, -, hareas⟩ := hsettings
  exact ⟨⟨⟨hwork, nofun, hareas⟩, hclock, ⟨Nat.zero_le _, Nat.zero_le _, Nat.zero_le _⟩, ⟨Nat.zero_le _, Nat.zero_le _⟩⟩,
    ⟨⟨Nat.zero_le _, Nat.zero_le _, Nat.zero_le _, Nat.zero_le _⟩, ⟨Nat.zero_le _, Nat.zero_le _, Nat.zero_le _⟩,
      Nat.zero_le _, Nat.zero_le _⟩, rfl⟩

theorem State.started_hushed (selLow : Bool) (k : StartKind) : Hushed ((s.startCommon selLow).latchStart k) :=
  ⟨fun n => get1_replicate Config.terminalCount n false, rfl⟩

theorem execColdStart_keeps (selLow : Bool) : KeepsNext s (execColdStart selLow s) := by
  refine keeps_next ?_
  split
  · intro hs
    refine ⟨State.started_fit _ selLow .cold ?_ ⟨Nat.zero_le _, Nat.zero_le _, Nat.zero_le _⟩, rfl⟩
    exact hs.sound.settings.withWork hs.sound.settings.fallback _
  · exact .refl s

theorem execWarmStart_keeps (selLow : Bool) : KeepsNext s (execWarmStart selLow s) := by
  refine keeps_next ?_
  split
  · intro hs
    have hstarted := s.started_fit selLow .warm hs.sound.settings hs.sound.clock
    have hcalm := State.recoverAll_calm ((s.startCommon selLow).latchStart .warm)
    have hhushed := (s.started_hushed selLow .warm).recoverAll
    exact ⟨⟨hcalm.sound hstarted.sound, by rw [hcalm.flp, hcalm.fhp]; exact hstarted.ports, hhushed.pushes⟩,
      hcalm.pending⟩
  · exact .refl s

theorem execResetAssert_keeps (cause : HaltCause) : KeepsNext s (execResetAssert cause s) := by
  cases cause <;> exact keeps_next (Calm.keeps (.of_eq ⟨rfl, rfl, rfl, rfl, rfl, rfl, rfl, rfl⟩) rfl)

theorem execRetentionIndicatorLost_keeps : KeepsNext s (execRetentionIndicatorLost s) := by
  refine keeps_next ?_
  split
  · intro hs
    obtain ⟨⟨⟨-, hareas⟩, -, hgateway, hacquirer⟩, hports, -⟩ := hs
    exact ⟨⟨⟨⟨Settings.defaults_inRange, hareas⟩, ⟨Nat.zero_le _, Nat.zero_le _, Nat.zero_le _⟩, hgateway, hacquirer⟩,
      hports, rfl⟩, rfl⟩
  · exact .refl s

/-! ## Every command -/

theorem dayFits_of_wf {i : Instr} (hwf : i.wf = true) : DayFits i := by
  rintro h day minute rfl
  simp only [Instr.wf, fits, Bool.and_eq_true, decide_eq_true_eq] at hwf
  obtain ⟨⟨-, hday⟩, -⟩ := hwf
  omega

theorem exec_keeps {i : Instr} (hwf : i.wf = true) : KeepsNext s (exec i s) := by
  by_cases hi : (requestOf i).isSome = true
  · rw [exec_eq_execRequest hi]
    exact execRequest_keeps s (dayFits_of_wf hwf)
  cases i with
  | malformedRequest h kind bodyLen => exact execMalformedRequest_keeps s h kind bodyLen
  | tagZeroFrame port => exact execTagZeroFrame_keeps s port
  | crcErrorFrame port => exact execCrcErrorFrame_keeps s port
  | frameLenError port len => exact execFrameLenError_keeps s port len
  | frameIdleTimeout port count => exact execFrameIdleTimeout_keeps s port count
  | requestOverrun port => exact execRequestOverrun_keeps s port
  | fhpTransaction bytes => exact execFhpTransaction_keeps s bytes
  | outputFrameSent port => exact execOutputFrameSent_keeps s port
  | result tag body => exact execResult_keeps s tag body
  | nonResultFrame kind => exact execNonResultFrame_keeps s kind
  | exchangeTimeout tag => exact execExchangeTimeout_keeps s tag
  | grant => exact execGrant_keeps s
  | noLinkCompletion => exact execNoLinkCompletion_keeps s
  | linkOkFall => exact execLinkOkFall_keeps s
  | linkOkRise => exact execLinkOkRise_keeps s
  | leaseExpiry check tender => exact execLeaseExpiry_keeps s check tender
  | approvalExpiry number => exact execApprovalExpiry_keeps s number
  | terminalSilence terminal => exact execTerminalSilence_keeps s terminal
  | checkAged check => exact execCheckAged_keeps s check
  | secondTick => exact execSecondTick_keeps s
  | minuteTick => exact execMinuteTick_keeps s
  | saveEnd matched => exact execSaveEnd_keeps s matched
  | resetAssert cause => exact execResetAssert_keeps s cause
  | coldStart selLow => exact execColdStart_keeps s selLow
  | warmStart selLow => exact execWarmStart_keeps s selLow
  | clockAdvanceWithoutPower seconds => exact execClockAdvanceWithoutPower_keeps s seconds
  | retentionIndicatorLost => exact execRetentionIndicatorLost_keeps s
  | _ => exact absurd rfl hi

end

/-- Every step keeps the ranges, and takes the front command off the queue (10 R179, R184). -/
theorem step_fit {s t : State} (hstep : step s = .next t) (hwf : CommandsFit s) (hs : Fit s) :
    Fit t ∧ t.pending = s.pending.tail := by
  unfold step at hstep
  split at hstep
  next hnone =>
    obtain rfl := Host.Outcome.next.inj hstep
    exact ⟨hs, by rw [hnone]; rfl⟩
  next c rest hcons =>
    have hc : c.wf = true := hwf c (by rw [hcons]; exact List.mem_cons_self)
    have hfront : Fit { s with pending := rest } :=
      ⟨⟨hs.sound.settings, hs.sound.clock, hs.sound.gateway, hs.sound.acquirer⟩, hs.ports, hs.pushes⟩
    obtain ⟨ht, hpending⟩ := exec_keeps _ hc t hstep hfront
    exact ⟨ht, by rw [hpending, hcons]; rfl⟩

theorem fit_of_ranges {s : State} (hset : SettingsInRange s) (hcount : CountersInRange s) (hout : OutputsBounded s) :
    Fit s := by
  obtain ⟨-, hfloor, hhouse, ⟨hgcrc, hgframing, hdiscarded⟩, htimeouts, hclock⟩ := hcount
  obtain ⟨hfloorOut, hhouseOut, hgout, hpushes⟩ := hout
  exact ⟨⟨hset, hclock, ⟨hgcrc, hgframing, hgout⟩, ⟨hdiscarded, htimeouts⟩⟩, ⟨hfloor, hhouse, hfloorOut, hhouseOut⟩,
    hpushes⟩

/-- Settles O48: the versions by the moves, all else by the ranges that every command keeps. -/
theorem rangesKept : Obligations.RangesKept := by
  intro s t hstep hwf hset hcount hout
  have hversions : VersionsInRange t := (step_moves hstep).keeps (P := VersionsInRange)
    (fun _ _ hm => hm.versionsInRange) (versionsInRange_iff.mpr hcount.1)
  obtain ⟨ht, hpending⟩ := step_fit hstep hwf (fit_of_ranges hset hcount hout)
  obtain ⟨⟨hset', hclock, ⟨hgcrc, hgframing, hgout⟩, hdiscarded, htimeouts⟩, ⟨hfloor, hhouse, hfloorOut, hhouseOut⟩,
    hpushes⟩ := ht
  exact ⟨fun i hi => hwf i (List.mem_of_mem_tail (hpending ▸ hi)), hset',
    ⟨versionsInRange_iff.mp hversions, hfloor, hhouse, ⟨hgcrc, hgframing, hdiscarded⟩, htimeouts, hclock⟩,
    hfloorOut, hhouseOut, hgout, hpushes⟩

end Sys2Proof.Machine
end

section
/-! The recovery of a warm start (06 R124, 01 R23, 05 R95, 08 R150, 07 R143). -/

namespace Sys2Proof.Machine

/-- A fold over distinct indexes, each step of which changes the record at its own index alone. -/
theorem foldl_at {α : Type} {get : State → Nat → Option α} {f : State → Nat → State} {g : Nat → α → α}
    {P : State → Prop} (hP : ∀ u i, P u → P (f u i))
    (hf : ∀ u i j, P u → get (f u i) j = if j = i then (get u j).map (g j) else get u j) {l : List Nat} (hl : l.Nodup)
    {u : State} (hu : P u) (j : Nat) :
    get (l.foldl f u) j = if j ∈ l then (get u j).map (g j) else get u j := by
  induction l generalizing u with
  | nil => simp
  | cons i l ih =>
    obtain ⟨hil, hl⟩ := List.nodup_cons.mp hl
    rw [List.foldl_cons, ih hl (hP u i hu), hf u i j hu]
    by_cases hji : j = i
    · subst hji; simp [hil]
    · simp [hji]

/-! ## The tenders (06 R124) -/

/-- A tender after its recovery, with its status (06 R124). -/
def Tender.recovered (x : Tender) : Tender :=
  if x.restarts then x.recover.withStatus .restart else x.recover

/-- The status of a recovered tender joins the pending-status list (06 R119, R124). -/
def Tender.joins (x : Tender) : Bool := x.restarts && !x.hasStatus

/-- The recovery leaves the primary status, the holder, the place and the amount of a tender alone (06 R124). -/
theorem Tender.recover_kept (x : Tender) :
    x.recover.primary = x.primary ∧ x.recover.holder = x.holder ∧ x.recover.slot = x.slot
      ∧ x.recover.portion = x.portion ∧ x.recover.amount = x.amount := by
  unfold Tender.recover
  split
  · split <;> exact ⟨rfl, rfl, rfl, rfl, rfl⟩
  · split <;> exact ⟨rfl, rfl, rfl, rfl, rfl⟩
  · exact ⟨rfl, rfl, rfl, rfl, rfl⟩
  · exact ⟨rfl, rfl, rfl, rfl, rfl⟩
  · exact ⟨rfl, rfl, rfl, rfl, rfl⟩

section
variable (s : State)

theorem State.moveTender_tender? (i : Nat) (f : Tender → Tender) (j : Nat) :
    (s.moveTender i f).tender? j = if j = i then (s.tender? j).map f else s.tender? j := by
  unfold State.moveTender
  split
  next hnone => by_cases hji : j = i <;> simp [hji, hnone]
  · rw [State.modCheck_tender?, State.modTender_tender?]
    simp only [eq_comm]

theorem State.setStatus_tender? (i : Nat) (st : Status) (j : Nat) :
    (s.setStatus i st).tender? j = if j = i then (s.tender? j).map (Tender.withStatus · st) else s.tender? j := by
  unfold State.setStatus
  split
  next hnone => by_cases hji : j = i <;> simp [hji, hnone]
  next t ht =>
    have hmod : ∀ f : Tender → Tender, f t = t.withStatus st →
        (s.modTender i f).tender? j = if j = i then (s.tender? j).map (Tender.withStatus · st) else s.tender? j := by
      intro f hf
      rw [State.modTender_tender?]
      by_cases hji : j = i
      · subst hji; simp [ht, hf]
      · simp [hji, Ne.symm hji]
    split
    next hs => exact hmod _ (by simp [Tender.withStatus, hs])
    next hs =>
      simp only [State.raiseCount_tender?]
      exact hmod _ (by simp [Tender.withStatus, hs])

/-- The recovery of a tender changes its own record alone (06 R124). -/
theorem State.recoverTender_tender? (i j : Nat) :
    (s.recoverTender i).tender? j = if j = i then (s.tender? j).map Tender.recovered else s.tender? j := by
  unfold State.recoverTender
  split
  next hnone => by_cases hji : j = i <;> simp [hji, hnone]
  next t ht =>
    by_cases hji : j = i
    · subst hji
      cases hrestarts : t.restarts <;> cases hrecovers : t.recovers <;>
        simp [State.setStatus_tender?, State.moveTender_tender?, ht, hrestarts, Tender.recovered]
      simp [Tender.recovers, hrestarts] at hrecovers
    · cases hrestarts : t.restarts <;> cases hrecovers : t.recovers <;>
        simp [State.setStatus_tender?, State.moveTender_tender?, State.modTender_tender?, hji, Ne.symm hji]

theorem State.tendersRecovered_tender? (j : Nat) : s.tendersRecovered.tender? j = (s.tender? j).map Tender.recovered := by
  rw [State.tendersRecovered, foldl_at (get := State.tender?) (g := fun _ => Tender.recovered) (P := fun _ => True)
    (fun _ _ _ => trivial) (fun u i j _ => u.recoverTender_tender? i j) List.nodup_range trivial]
  split
  · rfl
  next hj =>
    have hnone : s.tender? j = none := by
      rw [State.tender?, List.getElem?_eq_none (by simpa using hj), Option.join_none]
    rw [hnone, Option.map_none]

/-- The pending-status list after the recovery of one tender (06 R119). -/
theorem State.recoverTender_pendingList (i : Nat) :
    (s.recoverTender i).tdu.pendingList
      = s.tdu.pendingList ++ if (s.tender? i).any Tender.joins then [i] else [] := by
  unfold State.recoverTender
  split
  next hnone => simp [hnone]
  next t ht =>
    cases hrestarts : t.restarts with
    | false =>
      have hjoins : t.joins = false := by simp [Tender.joins, hrestarts]
      cases hrecovers : t.recovers <;> simp [ht, hjoins]
    | true =>
      have hmoved : (s.moveTender i Tender.recover).tender? i = some t.recover := by
        rw [State.moveTender_tender?, if_pos rfl, ht, Option.map_some]
      have hstatus : t.recover.hasStatus = t.hasStatus := by rw [Tender.hasStatus, t.recover_kept.1, Tender.hasStatus]
      have hrecovers : t.recovers = true := by simp [Tender.recovers, hrestarts]
      simp only [hrecovers, if_true, State.setStatus, hmoved, hstatus, ht, Option.any_some, Tender.joins, hrestarts,
        Bool.true_and]
      cases hs : t.hasStatus <;> simp

/-- The tenders whose status joins the list, in the order of a list of distinct indexes (06 R119, log entry 32). -/
theorem State.foldl_recoverTender_pendingList {l : List Nat} (hl : l.Nodup) :
    (l.foldl State.recoverTender s).tdu.pendingList
      = s.tdu.pendingList ++ l.filter fun i => (s.tender? i).any Tender.joins := by
  induction l generalizing s with
  | nil => simp
  | cons i l ih =>
    obtain ⟨hil, hl⟩ := List.nodup_cons.mp hl
    have hcongr : (l.filter fun j => ((s.recoverTender i).tender? j).any Tender.joins)
        = l.filter fun j => (s.tender? j).any Tender.joins :=
      List.filter_congr fun j hj => by rw [State.recoverTender_tender?, if_neg (by rintro rfl; exact hil hj)]
    rw [List.foldl_cons, ih _ hl, hcongr, State.recoverTender_pendingList, List.append_assoc, List.filter_cons]
    split <;> simp

theorem State.recoverTender_pendCounts_length (i : Nat) :
    (s.recoverTender i).wnu.pendCounts.length = s.wnu.pendCounts.length := by
  unfold State.recoverTender
  split
  · rfl
  · split
    · simp only
      split
      · unfold State.setStatus
        split
        · simp
        next t _ =>
          split
          · simp
          · cases t.holder with
            | none => simp [State.raiseCount]
            | some n => simp only [State.raiseCount]; split <;> simp [State.setPendCount]
      · simp
    · simp

/-- A pending count after one more pending status for a holder (06 R120). -/
theorem State.raiseCount_pendCount (hlen : s.wnu.pendCounts.length = 48) (o : Option Nat) {n : Nat}
    (hn : terminalExists n = true) : (s.raiseCount o).pendCount n = s.pendCount n + if o = some n then 1 else 0 := by
  simp only [terminalExists, Bool.and_eq_true, decide_eq_true_eq] at hn
  obtain ⟨h1, h2⟩ := hn
  have h48 : n ≤ 48 := h2
  cases o with
  | none => simp [State.raiseCount]
  | some t =>
    have hset : ∀ m, get1 (set1 s.wnu.pendCounts t m) n 0 = if n = t then m else get1 s.wnu.pendCounts n 0 := by
      intro m
      rw [get1_set1]
      by_cases hnt : n = t
      · subst hnt; rw [if_pos ⟨rfl, h1, by omega⟩, if_pos rfl]
      · rw [if_neg fun h => hnt h.1, if_neg hnt]
    simp only [State.raiseCount]
    have hraise : ∀ u : State, (if s.pendCount t = 0 then u.raise (.statusReady t) else u).pendCount n = u.pendCount n := by
      intro u; split <;> simp [State.pendCount]
    rw [hraise]
    show get1 (set1 s.wnu.pendCounts t (s.pendCount t + 1)) n 0 = _
    rw [hset]
    by_cases hnt : n = t
    · subst hnt; simp [State.pendCount]
    · simp [hnt, Ne.symm hnt, State.pendCount]

theorem State.recoverTender_pendCount (hlen : s.wnu.pendCounts.length = 48) (i : Nat) {n : Nat}
    (hn : terminalExists n = true) :
    (s.recoverTender i).pendCount n
      = s.pendCount n + if (s.tender? i).any fun x => x.joins && decide (x.holder = some n) then 1 else 0 := by
  unfold State.recoverTender
  split
  next hnone => simp [hnone]
  next t ht =>
    have hkeep : ∀ u : State, u.wnu = s.wnu → u.pendCount n = s.pendCount n := fun u hu => by
      rw [State.pendCount, State.pendCount, hu]
    cases hrestarts : t.restarts with
    | false =>
      have hjoins : t.joins = false := by simp [Tender.joins, hrestarts]
      have hsame : (s.moveTender i Tender.recover).wnu = s.wnu ∧ (s.modTender i Tender.recover).wnu = s.wnu := by simp
      cases hrecovers : t.recovers <;> simp [ht, hjoins, hkeep _ hsame.1, hkeep _ hsame.2]
    | true =>
      have hmoved : (s.moveTender i Tender.recover).tender? i = some t.recover := by
        rw [State.moveTender_tender?, if_pos rfl, ht, Option.map_some]
      have hstatus : t.recover.hasStatus = t.hasStatus := by rw [Tender.hasStatus, t.recover_kept.1, Tender.hasStatus]
      have hrecovers : t.recovers = true := by simp [Tender.recovers, hrestarts]
      simp only [hrecovers, if_true, State.setStatus, hmoved, hstatus, ht, Option.any_some, Tender.joins, hrestarts,
        Bool.true_and]
      cases hs : t.hasStatus with
      | true => simp [hkeep]
      | false =>
        simp only [Bool.false_eq_true, if_false, Bool.not_false, Bool.true_and, decide_eq_true_eq]
        rw [State.raiseCount_pendCount _ (by simpa using hlen) _ hn, t.recover_kept.2.1]
        congr 1
        exact hkeep _ (by simp)

theorem State.foldl_recoverTender_pendCount {l : List Nat} (hl : l.Nodup) (hlen : s.wnu.pendCounts.length = 48) {n : Nat}
    (hn : terminalExists n = true) :
    (l.foldl State.recoverTender s).pendCount n
      = s.pendCount n + l.countP fun i => (s.tender? i).any fun x => x.joins && decide (x.holder = some n) := by
  induction l generalizing s with
  | nil => simp
  | cons i l ih =>
    obtain ⟨hil, hl⟩ := List.nodup_cons.mp hl
    have hcongr : (l.countP fun j => ((s.recoverTender i).tender? j).any fun x => x.joins && decide (x.holder = some n))
        = l.countP fun j => (s.tender? j).any fun x => x.joins && decide (x.holder = some n) :=
      List.countP_congr fun j hj => by rw [State.recoverTender_tender?, if_neg (by rintro rfl; exact hil hj)]
    rw [List.foldl_cons, ih _ hl (by rw [State.recoverTender_pendCounts_length]; exact hlen), hcongr,
      State.recoverTender_pendCount s hlen i hn, List.countP_cons]
    omega

/-- The pool read by its indexes. -/
theorem State.pool_eq : s.tdu.pool = (List.range s.tdu.pool.length).map s.tender? := by
  refine List.ext_getElem (by simp) fun i h1 h2 => ?_
  simp [State.tender?, List.getElem?_eq_getElem h1]

/-- Counting over the indexes of the pool counts its records. -/
theorem State.countP_pool (p : Tender → Bool) :
    ((List.range s.tdu.pool.length).countP fun i => (s.tender? i).any p) = s.tdu.pool.countP fun o => o.any p := by
  conv_rhs => rw [s.pool_eq, List.countP_map]
  rfl

end

/-! ## The portions of the recovered tenders (05 R87, R90) -/

/-- A portion with an amount uncounted and some claims released (05 R87, R90). -/
def Portion.less (q : Portion) (amount : Nat) (freed : Nat → Bool) : Portion :=
  { q with counted := q.counted - amount, claim := q.claim.filter fun k => !freed k }

/-- A check with each of its portions changed. -/
def Check.mapPortions (c : Check) (f : Portion → Portion) : Check :=
  { c with plan := { c.plan with portions := c.plan.portions.map f } }

/-- What the recovery of a tender uncounts against a portion: its amount, where an unsent AUTH is withdrawn (06 R124). -/
def Tender.lossFor (slot n : Nat) (x : Tender) : Nat :=
  if x.slot = slot ∧ x.portion = n ∧ x.state = .authorizing .auth ∧ x.sent = false then x.amount else 0

/-- The recovery of a tender releases its claim on a portion (05 R90, 06 R124). -/
def Tender.frees (slot n : Nat) (x : Tender) : Bool :=
  decide (x.slot = slot ∧ x.portion = n
    ∧ (x.state = .authorizing .auth ∨ x.state = .authorizing .increment ∨ x.state = .capturing))

theorem Tender.recovers_iff {x : Tender} :
    x.recovers = true ↔ x.state = .authorizing .auth ∨ x.state = .authorizing .increment ∨ x.state = .capturing := by
  unfold Tender.recovers Tender.restarts
  cases hs : x.state with
  | authorizing sub => cases sub <;> simp
  | _ => simp

theorem Tender.frees_eq {slot n : Nat} {x : Tender} :
    x.frees slot n = (decide (x.slot = slot) && decide (x.portion = n) && x.recovers) := by
  rw [Bool.eq_iff_iff]
  simp only [Tender.frees, decide_eq_true_eq, Bool.and_eq_true, Tender.recovers_iff, and_assoc]

theorem Tender.lossFor_of_not_recovers {slot n : Nat} {x : Tender} (h : x.recovers = false) : x.lossFor slot n = 0 := by
  refine if_neg fun ⟨_, _, hstate, _⟩ => ?_
  have := Tender.recovers_iff.mpr (.inl hstate)
  simp [h] at this

theorem Portion.less_eq_self (q : Portion) {freed : Nat → Bool} (h : ∀ k, q.claim = some k → freed k = false) :
    q.less 0 freed = q := by
  have hclaim : (q.claim.filter fun k => !freed k) = q.claim := by
    cases hc : q.claim with
    | none => rfl
    | some k => simp [h k hc]
  simp only [Portion.less, hclaim, Nat.sub_zero]

theorem Portion.less_less (q : Portion) (a b : Nat) (f g : Nat → Bool) :
    (q.less a f).less b g = q.less (a + b) fun k => f k || g k := by
  simp only [Portion.less, Option.filter_filter, Nat.sub_sub, Bool.not_or]

theorem Check.mapPortions_mapPortions (c : Check) (f g : Portion → Portion) :
    (c.mapPortions f).mapPortions g = c.mapPortions fun q => g (f q) := by
  simp [Check.mapPortions, Function.comp_def]

theorem Check.mapPortions_congr {c : Check} {f g : Portion → Portion} (h : ∀ q ∈ c.plan.portions, f q = g q) :
    c.mapPortions f = c.mapPortions g := by
  simp only [Check.mapPortions, List.map_congr_left h]

theorem Check.mapPortions_eq_self {c : Check} {f : Portion → Portion} (h : ∀ q ∈ c.plan.portions, f q = q) :
    c.mapPortions f = c := by
  rw [Check.mapPortions, List.map_congr_left h, List.map_id']

/-- What the recovery of a tender makes of its counting and of its claim (06 R124). -/
theorem Tender.recover_counts {x : Tender} (hx : x.recovers = true) :
    x.state.counts = true ∧ x.recover.state.claims = false
      ∧ x.recover.state.counts = !decide (x.state = .authorizing .auth ∧ x.sent = false) := by
  unfold Tender.recover
  rcases Tender.recovers_iff.mp hx with hs | hs | hs
  · cases hsent : x.sent <;> simp [hs, Tender.toReversing, Tender.finish, TenderState.counts, TenderState.claims]
  · cases hw : x.withdrawRequested <;>
      simp [hs, Tender.toReversing, Tender.toAuthorized, TenderState.counts, TenderState.claims]
  · simp [hs, Tender.toAuthorized, TenderState.counts, TenderState.claims]

/-- The portion of a tender that recovers follows it (05 R87, R90; 06 R124). -/
theorem Plan.follow_recover {x : Tender} (hx : x.recovers = true) (i : Nat) (p : Plan) :
    p.follow i x x.recover
      = { p with portions := p.portions.map fun q =>
            q.less (x.lossFor x.slot q.number) fun k => k == i && x.frees x.slot q.number } := by
  obtain ⟨hcounts, hclaims, hcounts'⟩ := Tender.recover_counts hx
  rw [Plan.follow, if_pos hcounts]
  congr 1
  refine List.map_congr_left fun q _ => ?_
  by_cases hq : q.number = x.portion
  · have hfrees : x.frees x.slot q.number = true := by simp [Tender.frees_eq, hq, hx]
    have hclaim : (if q.claim = some i then none else q.claim) = q.claim.filter fun k => !(k == i) := by
      cases hc : q.claim with
      | none => rfl
      | some k => by_cases hk : k = i <;> simp [Option.filter, hk]
    have hloss : x.lossFor x.slot q.number
        = if x.state = .authorizing .auth ∧ x.sent = false then x.amount else 0 := by simp [Tender.lossFor, hq]
    rw [if_pos hq]
    simp only [Portion.follow, hcounts, hclaims, hcounts', Bool.not_not, Bool.true_and, decide_eq_true_eq,
      Bool.false_eq_true, if_false, hclaim, Portion.less, hfrees, hloss, Bool.and_true]
    split <;> rfl
  · have hfrees : x.frees x.slot q.number = false := by simp [Tender.frees_eq, Ne.symm hq]
    rw [if_neg hq, Tender.lossFor, if_neg fun h => hq h.2.1.symm, q.less_eq_self (by simp [hfrees])]

/-- What the record with an index makes of a portion of a check when it recovers. -/
def State.recoverPortion (s : State) (slot i : Nat) (q : Portion) : Portion :=
  q.less (((s.tender? i).map (Tender.lossFor slot q.number)).getD 0)
    fun k => k == i && (s.tender? i).any (Tender.frees slot q.number)

section
variable (s : State)

theorem State.recoverTender_check? (i slot : Nat) :
    (s.recoverTender i).check? slot = (s.check? slot).map (Check.mapPortions · (s.recoverPortion slot i)) := by
  have hself : (∀ x, s.tender? i = some x → x.slot = slot → x.recovers = false) →
      s.check? slot = (s.check? slot).map (Check.mapPortions · (s.recoverPortion slot i)) := by
    intro hnot
    cases s.check? slot with
    | none => rfl
    | some c =>
      rw [Option.map_some, Check.mapPortions_eq_self]
      intro q _
      unfold State.recoverPortion
      cases hx : s.tender? i with
      | none => exact q.less_eq_self (by simp)
      | some x =>
        have hfrees : x.frees slot q.number = false := by
          by_cases hslot : x.slot = slot
          · simp [Tender.frees_eq, hnot x hx hslot]
          · simp [Tender.frees_eq, hslot]
        have hloss : x.lossFor slot q.number = 0 := by
          by_cases hslot : x.slot = slot
          · exact Tender.lossFor_of_not_recovers (hnot x hx hslot)
          · exact if_neg fun h => hslot h.1
        rw [Option.map_some, Option.getD_some, hloss, Option.any_some, hfrees]
        exact q.less_eq_self (by simp)
  unfold State.recoverTender
  split
  next hnone => exact hself (by simp [hnone])
  next x hx =>
    cases hrecovers : x.recovers with
    | false =>
      have hnot := hself (by simpa [hx] using fun _ => hrecovers)
      simpa using hnot
    | true =>
      have hmoved : (s.moveTender i Tender.recover).check? slot
          = (s.check? slot).map (Check.mapPortions · (s.recoverPortion slot i)) := by
        simp only [State.moveTender, hx]
        rw [State.modCheck_check?, State.modTender_check?]
        split
        next hslot =>
          subst hslot
          have hportion : s.recoverPortion x.slot i = fun q =>
              q.less (x.lossFor x.slot q.number) fun k => k == i && x.frees x.slot q.number := by
            funext q
            rw [State.recoverPortion, hx, Option.map_some, Option.getD_some, Option.any_some]
          simp only [Plan.follow_recover hrecovers, Check.mapPortions, hportion]
        next hslot => exact hself (by simpa [hx] using fun h => absurd h hslot)
      rw [← hmoved]
      cases x.restarts <;> simp

/-- What the recovery of the tenders with the indexes of a list makes of a portion. -/
def State.recoverPortions (s : State) (slot : Nat) (l : List Nat) (q : Portion) : Portion :=
  q.less (l.map fun i => ((s.tender? i).map (Tender.lossFor slot q.number)).getD 0).sum
    fun k => decide (k ∈ l) && (s.tender? k).any (Tender.frees slot q.number)

theorem State.foldl_recoverTender_check? {l : List Nat} (hl : l.Nodup) (slot : Nat) :
    (l.foldl State.recoverTender s).check? slot
      = (s.check? slot).map (Check.mapPortions · (s.recoverPortions slot l)) := by
  induction l generalizing s with
  | nil =>
    have hself : ∀ c : Check, c.mapPortions (s.recoverPortions slot []) = c := fun c =>
      Check.mapPortions_eq_self fun q _ => q.less_eq_self (by simp)
    simp only [List.foldl_nil, hself, Option.map_id']
  | cons i l ih =>
    obtain ⟨hil, hl⟩ := List.nodup_cons.mp hl
    have hother : ∀ j ∈ l, (s.recoverTender i).tender? j = s.tender? j := fun j hj => by
      rw [State.recoverTender_tender?, if_neg (by rintro rfl; exact hil hj)]
    have hportion : ∀ q, (s.recoverTender i).recoverPortions slot l (s.recoverPortion slot i q)
        = s.recoverPortions slot (i :: l) q := by
      intro q
      have hsum : (l.map fun j => (((s.recoverTender i).tender? j).map (Tender.lossFor slot q.number)).getD 0)
          = l.map fun j => ((s.tender? j).map (Tender.lossFor slot q.number)).getD 0 :=
        List.map_congr_left fun j hj => by rw [hother j hj]
      have hfreed : (fun k => (k == i && (s.tender? i).any (Tender.frees slot q.number))
            || (decide (k ∈ l) && ((s.recoverTender i).tender? k).any (Tender.frees slot q.number)))
          = fun k => decide (k ∈ i :: l) && (s.tender? k).any (Tender.frees slot q.number) := by
        funext k
        by_cases hki : k = i
        · subst hki; simp [hil]
        · by_cases hkl : k ∈ l
          · simp [hki, hkl, hother k hkl]
          · simp [hki, hkl]
      rw [State.recoverPortion, State.recoverPortions]
      show (Portion.less _ _ _).less (l.map fun j =>
        (((s.recoverTender i).tender? j).map (Tender.lossFor slot q.number)).getD 0).sum _ = _
      rw [hsum, Portion.less_less]
      exact congrArg (q.less _) hfreed
    rw [List.foldl_cons, ih _ hl, State.recoverTender_check?, Option.map_map]
    congr 1
    funext c
    rw [Function.comp_apply, Check.mapPortions_mapPortions]
    exact Check.mapPortions_congr fun q _ => hportion q

/-- Summing over the indexes of the pool sums over its records. -/
theorem State.sum_pool (g : Tender → Nat) :
    ((List.range s.tdu.pool.length).map fun i => ((s.tender? i).map g).getD 0).sum
      = ((s.tdu.pool.filterMap id).map g).sum := by
  have hsum : ∀ l : List (Option Tender), (l.map fun o => (o.map g).getD 0).sum = ((l.filterMap id).map g).sum := by
    intro l
    induction l with
    | nil => rfl
    | cons o l ih => cases o <;> simp [ih]
  conv_rhs => rw [s.pool_eq, ← hsum, List.map_map]
  rfl

/-- A check once its tenders have been recovered (06 R124). -/
def Check.unclaimed (c : Check) (s : State) (slot : Nat) : Check :=
  c.mapPortions fun q => q.less ((s.tdu.pool.filterMap id).map (Tender.lossFor slot q.number)).sum
    fun k => (s.tender? k).any (Tender.frees slot q.number)

theorem State.tendersRecovered_check? (slot : Nat) :
    s.tendersRecovered.check? slot = (s.check? slot).map (Check.unclaimed · s slot) := by
  rw [State.tendersRecovered, State.foldl_recoverTender_check? s List.nodup_range]
  congr 1
  funext c
  refine Check.mapPortions_congr fun q _ => ?_
  rw [State.recoverPortions, s.sum_pool]
  congr 1
  funext k
  by_cases hk : k < s.tdu.pool.length
  · simp [hk]
  · have hnone : s.tender? k = none := by rw [State.tender?, List.getElem?_eq_none (by omega), Option.join_none]
    simp [hnone]

end

/-! ## The checks (01 R23) -/

/-- A check at the end of the recovery: a CLOSING one in CLOSE_FAULT, any other with a recovered tender derived anew
(01 R23). -/
def Check.settled (c : Check) (changed : Bool) (ts : List Tender) : Check :=
  if c.state = .closing then
    { c with version := nextVersion c.version, state := .closeFault, closeFault := some (ts.countP Tender.faulted) }
  else if changed then
    { c with version := nextVersion c.version
             state := if c.state = .settling ∨ c.state = .paid then derivedState c.plan ts else c.state }
  else c

/-- The event that a check hands on when the recovery has changed its state (01 R10). -/
def settledEvent (c c' : Check) : Option (Nat × EventKind) :=
  if c'.state = c.state then none
  else some (c.number, if c'.state = .closeFault then EventKind.closeFault else derivedEvent c'.state)

section
variable (s : State)

theorem derivedState_ne_closeFault (p : Plan) (ts : List Tender) : derivedState p ts ≠ .closeFault := by
  unfold derivedState
  split
  · simp
  · split <;> simp

/-- An event, where there is one. -/
def State.handEvent? (s : State) : Option (Nat × EventKind) → State
  | none => s
  | some e => s.handEvent e.1 e.2

theorem State.modCheck_eq_self {s : State} {slot : Nat} {c : Check} (hc : s.check? slot = some c) {f : Check → Check}
    (hf : f c = c) : s.modCheck slot f = s := by
  have hslots : s.ckt.slots.modify slot (Option.map fun c => c) = s.ckt.slots := by
    refine List.ext_getElem? fun j => ?_
    simp
  rw [State.modCheck_congr hc (g := fun c => c) hf, State.modCheck, hslots]

/-- The recovery of a check writes it and hands on its event. -/
theorem State.settleStart_eq (changed : List Nat) {slot : Nat} {c : Check} (hc : s.check? slot = some c) :
    s.settleStart changed slot
      = (s.modCheck slot fun _ => c.settled (decide (slot ∈ changed)) (s.tendersOf c)).handEvent?
          (settledEvent c (c.settled (decide (slot ∈ changed)) (s.tendersOf c))) := by
  unfold State.settleStart
  split
  next hnone => simp [hc] at hnone
  next d hd =>
    obtain rfl : c = d := by rw [hc] at hd; exact Option.some.inj hd
    by_cases hclosing : c.state = .closing
    · simp only [hclosing, if_true, Check.settled, settledEvent, State.handEvent?]
      rw [State.modCheck_congr hc]
      · rfl
      · rfl
    · rw [if_neg hclosing]
      by_cases hch : slot ∈ changed
      · rw [if_pos hch]
        have hstep : (s.modCheck slot Check.stepVersion).check? slot = some c.stepVersion := by simp [hc]
        have htenders : (s.modCheck slot Check.stepVersion).tendersOf c.stepVersion = s.tendersOf c := rfl
        unfold State.derive
        rw [hstep]
        simp only [htenders, State.modCheck_modCheck]
        have hstate : c.stepVersion.state = c.state := rfl
        have hplan : c.stepVersion.plan = c.plan := rfl
        by_cases happlies : (c.state = .settling ∨ c.state = .paid) ∧ derivedState c.plan (s.tendersOf c) ≠ c.state
        · have hsettled : c.settled (decide (slot ∈ changed)) (s.tendersOf c)
              = { c.stepVersion with state := derivedState c.plan (s.tendersOf c) } := by
            simp [Check.settled, hclosing, hch, happlies.1, Check.stepVersion]
          have hevent : settledEvent c (c.settled (decide (slot ∈ changed)) (s.tendersOf c))
              = some (c.number, derivedEvent (derivedState c.plan (s.tendersOf c))) := by
            simp [hsettled, settledEvent, happlies.2, derivedState_ne_closeFault]
          rw [hevent, hsettled, State.modCheck_congr hc (g := fun _ => { c.stepVersion with
            state := derivedState c.plan (s.tendersOf c) }) rfl]
          simp [hstate, hplan, happlies, State.handEvent?]
          rfl
        · have hsettled : c.settled (decide (slot ∈ changed)) (s.tendersOf c) = c.stepVersion := by
            have hsame : (if c.state = .settling ∨ c.state = .paid then derivedState c.plan (s.tendersOf c) else c.state)
                = c.state := by
              split
              next hs => exact not_not.mp fun hne => happlies ⟨hs, hne⟩
              · rfl
            rw [Check.settled, if_neg hclosing, if_pos (decide_eq_true hch), hsame]
            rfl
          rw [hsettled, State.modCheck_congr hc (g := fun _ => c.stepVersion) rfl,
            if_neg (by simpa [hstate, hplan] using happlies)]
          simp [settledEvent, hstate, State.handEvent?]
      · have hsame : c.settled (decide (slot ∈ changed)) (s.tendersOf c) = c := by simp [Check.settled, hclosing, hch]
        rw [if_neg hch, hsame, State.modCheck_eq_self hc rfl]
        simp [settledEvent, State.handEvent?]

theorem State.tendersOf_congr {s u : State} (h : s.tdu = u.tdu) (c : Check) : s.tendersOf c = u.tendersOf c := by
  have htender : s.tender? = u.tender? := by funext i; rw [State.tender?, State.tender?, h]
  rw [State.tendersOf, State.tendersOf, htender]

theorem State.handEvent?_kept (e : Option (Nat × EventKind)) :
    (s.handEvent? e).ckt = s.ckt ∧ (s.handEvent? e).tdu = s.tdu ∧ (s.handEvent? e).wnu.watches = s.wnu.watches := by
  cases e <;> simp [State.handEvent?]

theorem State.settleStart_tdu (changed : List Nat) (slot : Nat) : (s.settleStart changed slot).tdu = s.tdu := by
  unfold State.settleStart
  split
  · rfl
  · split
    · simp
    · split <;> simp

theorem State.settleStart_watches (changed : List Nat) (slot : Nat) :
    (s.settleStart changed slot).wnu.watches = s.wnu.watches := by
  unfold State.settleStart
  split
  · rfl
  · split
    · simp
    · split <;> simp

theorem State.settleStart_check? (changed : List Nat) (slot j : Nat) :
    (s.settleStart changed slot).check? j
      = if j = slot then (s.check? j).map fun c => c.settled (decide (j ∈ changed)) (s.tendersOf c) else s.check? j := by
  cases hc : s.check? slot with
  | none =>
    by_cases hj : j = slot
    · subst hj; simp [State.settleStart, hc]
    · simp [State.settleStart, hc, hj]
  | some c =>
    rw [State.settleStart_eq s changed hc, State.check?, (State.handEvent?_kept _ _).1, ← State.check?,
      State.modCheck_check?]
    by_cases hj : j = slot
    · subst hj; simp [hc]
    · simp [hj, Ne.symm hj]

/-- The events of the recovery of the checks, in slot order (01 R10, log entry 32). -/
def State.settledEvent? (s : State) (changed : List Nat) (slot : Nat) : Option (Nat × EventKind) :=
  (s.check? slot).bind fun c => settledEvent c (c.settled (decide (slot ∈ changed)) (s.tendersOf c))

theorem State.settleStart_hits (changed : List Nat) (slot : Nat) :
    (s.settleStart changed slot).wnu.hits = (s.handEvent? (s.settledEvent? changed slot)).wnu.hits := by
  cases hc : s.check? slot with
  | none => simp [State.settleStart, State.settledEvent?, hc, State.handEvent?]
  | some c =>
    rw [State.settleStart_eq s changed hc, State.settledEvent?, hc, Option.bind_some]
    cases settledEvent c (c.settled (decide (slot ∈ changed)) (s.tendersOf c)) with
    | none => rfl
    | some e =>
      unfold State.handEvent?
      exact State.handEvent_hits_congr (by simp) (by simp) e.1 e.2

/-- The hits after the recovery of the checks with the indexes of a list. -/
theorem State.foldl_settleStart_hits (changed : List Nat) {l : List Nat} (hl : l.Nodup) {s v : State}
    (hw : s.wnu.watches = v.wnu.watches) (hh : s.wnu.hits = v.wnu.hits) :
    (l.foldl (fun u slot => u.settleStart changed slot) s).wnu.hits
      = ((l.filterMap (s.settledEvent? changed)).foldl (fun (u : State) e => u.handEvent e.1 e.2) v).wnu.hits := by
  induction l generalizing s v with
  | nil => exact hh
  | cons slot l ih =>
    obtain ⟨hnot, hl⟩ := List.nodup_cons.mp hl
    have hcongr : l.filterMap ((s.settleStart changed slot).settledEvent? changed)
        = l.filterMap (s.settledEvent? changed) := by
      refine List.filterMap_congr fun j hj => ?_
      have htdu := State.settleStart_tdu s changed slot
      rw [State.settledEvent?, State.settleStart_check?, if_neg (by rintro rfl; exact hnot hj), State.settledEvent?]
      simp only [State.tendersOf_congr htdu]
    have hhits : (s.settleStart changed slot).wnu.hits = (v.handEvent? (s.settledEvent? changed slot)).wnu.hits := by
      rw [State.settleStart_hits]
      cases s.settledEvent? changed slot with
      | none => exact hh
      | some e => exact State.handEvent_hits_congr hw hh e.1 e.2
    have hwatches : (s.settleStart changed slot).wnu.watches
        = (v.handEvent? (s.settledEvent? changed slot)).wnu.watches := by
      rw [State.settleStart_watches, (State.handEvent?_kept _ _).2.2, hw]
    rw [List.foldl_cons, ih hl hwatches hhits, hcongr, List.filterMap_cons]
    cases s.settledEvent? changed slot <;> rfl

/-- The recovery of the checks changes each of them alone (01 R23). -/
theorem State.checksSettled_check? (changed : List Nat) (slot : Nat) :
    (s.checksSettled changed).check? slot
      = (s.check? slot).map fun c => c.settled (decide (slot ∈ changed)) (s.tendersOf c) := by
  have hat : ∀ (u : State) (i j : Nat), u.tdu = s.tdu → (u.settleStart changed i).check? j
      = if j = i then (u.check? j).map fun c => c.settled (decide (j ∈ changed)) (s.tendersOf c) else u.check? j := by
    intro u i j hu
    rw [State.settleStart_check?]
    simp only [State.tendersOf_congr hu]
  rw [State.checksSettled, foldl_at (get := State.check?)
    (g := fun j c => c.settled (decide (j ∈ changed)) (s.tendersOf c)) (P := fun u => u.tdu = s.tdu)
    (fun u i hu => (u.settleStart_tdu changed i).trans hu) hat List.nodup_range rfl]
  split
  · rfl
  next hslot =>
    have hnone : s.check? slot = none := by
      rw [State.check?, List.getElem?_eq_none (by simpa using hslot), Option.join_none]
    rw [hnone, Option.map_none]

theorem Check.settled_kept (c : Check) (changed : Bool) (ts : List Tender) :
    (c.settled changed ts).plan = c.plan ∧ (c.settled changed ts).tenders = c.tenders
      ∧ (c.settled changed ts).holds = c.holds := by
  unfold Check.settled
  split
  · exact ⟨rfl, rfl, rfl⟩
  · split <;> exact ⟨rfl, rfl, rfl⟩

/-- The slots of the recovered tenders (06 R124). -/
theorem State.mem_recovering {slot : Nat} :
    slot ∈ s.recovering ↔ ∃ i x, s.tender? i = some x ∧ x.slot = slot ∧ x.recovers = true := by
  have hmem : ∀ x, some x ∈ s.tdu.pool ↔ ∃ i, s.tender? i = some x := by
    intro x
    conv_lhs => rw [s.pool_eq, List.mem_map]
    refine ⟨fun ⟨i, _, hi⟩ => ⟨i, hi⟩, fun ⟨i, hi⟩ => ⟨i, List.mem_range.mpr ?_, hi⟩⟩
    by_contra hlt
    rw [State.tender?, List.getElem?_eq_none (by omega), Option.join_none] at hi
    cases hi
  simp only [State.recovering, List.mem_filterMap, id_eq, exists_eq_right, Option.ite_none_right_eq_some,
    Option.some.injEq]
  constructor
  · rintro ⟨x, hx, hrecovers, hslot⟩
    obtain ⟨i, hi⟩ := (hmem x).mp hx
    exact ⟨i, x, hi, hslot, hrecovers⟩
  · rintro ⟨i, x, hi, hslot, hrecovers⟩
    exact ⟨x, (hmem x).mpr ⟨i, hi⟩, hrecovers, hslot⟩

/-! ## The leases, the approval records and the wait queue (05 R95, 08 R150, 07 R143) -/

/-- A tender after the restart of its lease (05 R95). -/
def Tender.leased (x : Tender) (deadline : Nat) (held : Nat → Bool) : Tender :=
  if x.state = .tipWait then { x with lease := x.lease.restart deadline (held x.slot) } else x

theorem Tender.leased_kept (x : Tender) (deadline : Nat) (held : Nat → Bool) :
    (x.leased deadline held).state = x.state ∧ (x.leased deadline held).faulted = x.faulted := by
  unfold Tender.leased
  split <;> exact ⟨rfl, rfl⟩

theorem State.restartLeases_tender? (i : Nat) :
    s.restartLeases.tender? i = (s.tender? i).map
      (Tender.leased · (s.now + s.setting 15) fun slot => (s.check? slot).any Check.held) := by
  simp only [State.tender?, State.restartLeases, List.getElem?_map]
  cases s.tdu.pool[i]? with
  | none => rfl
  | some o => cases o <;> rfl

theorem State.tendersWhere_congr {s u : State} (hlen : s.tdu.pool.length = u.tdu.pool.length) {p q : Tender → Bool}
    (h : ∀ i, (s.tender? i).any p = (u.tender? i).any q) : s.tendersWhere p = u.tendersWhere q := by
  rw [State.tendersWhere, State.tendersWhere, hlen]
  exact List.filter_congr fun i _ => h i

theorem State.foldl_placeNeed_queue (k : NeedKind) (l : List Nat) :
    (l.foldl (fun u i => u.placeNeed i k) s).aqp.queue
      = s.aqp.queue ++ l.map fun i => ({ tender := i, kind := k } : Need) := by
  induction l generalizing s with
  | nil => simp
  | cons i l ih =>
    rw [List.foldl_cons, ih, List.map_cons]
    show (s.aqp.queue ++ [_]) ++ _ = _
    rw [List.append_assoc]
    rfl

theorem State.foldl_placeNeed_tender? (k : NeedKind) (l : List Nat) (j : Nat) :
    (l.foldl (fun u i => u.placeNeed i k) s).tender? j
      = (s.tender? j).map fun x => if j ∈ l then { x with sent := false } else x := by
  induction l generalizing s with
  | nil => simp
  | cons i l ih =>
    have hplace : (s.placeNeed i k).tender? j
        = (s.tender? j).map fun x => if j = i then { x with sent := false } else x := by
      show (s.modTender i _).tender? j = _
      rw [State.modTender_tender?]
      by_cases hij : i = j
      · simp [hij]
      · simp [hij, Ne.symm hij]
    rw [List.foldl_cons, ih, hplace, Option.map_map]
    congr 1
    funext x
    by_cases hji : j = i <;> by_cases hjl : j ∈ l <;> simp [hji, hjl]

/-- Placing the needs of tenders that have none in flight changes no record (07 R143). -/
theorem State.rebuildQueue_tender? (hsent : ∀ i x, s.tender? i = some x → x.state = .reversing → x.sent = false)
    (j : Nat) : s.rebuildQueue.tender? j = s.tender? j := by
  rw [State.rebuildQueue, State.foldl_placeNeed_tender?]
  cases hx : s.tender? j with
  | none => rfl
  | some x =>
    rw [Option.map_some]
    split
    next hj =>
      have hstate : x.state = .reversing := by simpa [State.tendersWhere, hx] using (List.mem_filter.mp hj).2
      rw [← hsent j x hx hstate]
    · rfl

/-! ## The recovery as a whole -/

/-- What the recovery of a tender or of a check never touches (11 R197). -/
def State.unrecovered (s : State) :=
  ((s.fmp, s.aqp, s.apu, s.sst, s.fck), (s.flp, s.fhp, s.gwp, s.power, s.due),
    (s.freeLines, s.ckt.nextNumber, s.ckt.slots.length, s.tdu.pool.length),
    s.wnu.watches, s.wnu.startup, s.wnu.startKind)

theorem State.modTender_unrecovered (i : Nat) (f : Tender → Tender) : (s.modTender i f).unrecovered = s.unrecovered := by
  simp [State.unrecovered, State.modTender]

theorem State.modCheck_unrecovered (i : Nat) (f : Check → Check) : (s.modCheck i f).unrecovered = s.unrecovered := by
  simp [State.unrecovered, State.modCheck]

theorem State.moveTender_unrecovered (i : Nat) (f : Tender → Tender) :
    (s.moveTender i f).unrecovered = s.unrecovered := by
  unfold State.moveTender
  split
  · rfl
  · rw [State.modCheck_unrecovered, State.modTender_unrecovered]

theorem State.raiseCount_unrecovered (o : Option Nat) : (s.raiseCount o).unrecovered = s.unrecovered := by
  simp [State.unrecovered]

theorem State.setStatus_unrecovered (i : Nat) (st : Status) : (s.setStatus i st).unrecovered = s.unrecovered := by
  unfold State.setStatus
  split
  · rfl
  · split
    · rw [State.modTender_unrecovered]
    · rw [State.raiseCount_unrecovered]
      show (s.modTender i _).unrecovered = _
      rw [State.modTender_unrecovered]

theorem State.recoverTender_unrecovered (i : Nat) : (s.recoverTender i).unrecovered = s.unrecovered := by
  unfold State.recoverTender
  split
  · rfl
  · split
    · simp only
      split
      · rw [State.setStatus_unrecovered, State.moveTender_unrecovered]
      · rw [State.moveTender_unrecovered]
    · rw [State.modTender_unrecovered]

theorem State.handEvent_unrecovered (n : Nat) (k : EventKind) : (s.handEvent n k).unrecovered = s.unrecovered := by
  simp [State.unrecovered]

theorem State.settleStart_unrecovered (changed : List Nat) (slot : Nat) :
    (s.settleStart changed slot).unrecovered = s.unrecovered := by
  cases hc : s.check? slot with
  | none => simp [State.settleStart, hc]
  | some c =>
    rw [State.settleStart_eq s changed hc]
    cases settledEvent c (c.settled (decide (slot ∈ changed)) (s.tendersOf c)) with
    | none => exact State.modCheck_unrecovered _ _ _
    | some e => exact (State.handEvent_unrecovered _ _ _).trans (State.modCheck_unrecovered _ _ _)

/-- The state after the recovery of the tenders and the checks. -/
def State.recordsRecovered (s : State) : State := s.tendersRecovered.checksSettled s.recovering

theorem State.recordsRecovered_unrecovered : s.recordsRecovered.unrecovered = s.unrecovered :=
  (foldl_keeps State.unrecovered _ (fun u slot => u.settleStart_unrecovered s.recovering slot) _ _).trans
    (foldl_keeps State.unrecovered _ State.recoverTender_unrecovered _ _)

theorem State.tendersRecovered_unrecovered : s.tendersRecovered.unrecovered = s.unrecovered :=
  foldl_keeps State.unrecovered _ State.recoverTender_unrecovered _ _

theorem State.recordsRecovered_tdu : s.recordsRecovered.tdu = s.tendersRecovered.tdu :=
  foldl_keeps State.tdu _ (fun u slot => u.settleStart_tdu s.recovering slot) _ _

theorem State.recordsRecovered_tender? (i : Nat) : s.recordsRecovered.tender? i = (s.tender? i).map Tender.recovered := by
  rw [State.tender?, State.recordsRecovered_tdu, ← State.tender?, State.tendersRecovered_tender?]

theorem State.recoverTender_hits (i : Nat) : (s.recoverTender i).wnu.hits = s.wnu.hits := by
  have hmoved : (s.moveTender i Tender.recover).wnu = s.wnu := by simp
  unfold State.recoverTender
  split
  · rfl
  · split
    · simp only
      split
      · unfold State.setStatus
        split
        · rw [hmoved]
        · split
          · simp
          · simp
      · rw [hmoved]
    · simp

theorem Tender.recovered_kept (x : Tender) :
    x.recovered.slot = x.slot ∧ (x.recovered.state = .reversing → x.recovered.sent = false) := by
  have hsent : x.recover.state = .reversing → x.recover.sent = false := by
    unfold Tender.recover
    split
    · split <;> simp [Tender.toReversing, Tender.finish]
    · split <;> simp [Tender.toReversing, Tender.toAuthorized]
    · simp
    · simp [Tender.toAuthorized]
    next hnot _ => exact fun hx => absurd hx hnot
  have hstatus : ∀ st, (x.recover.withStatus st).slot = x.recover.slot
      ∧ (x.recover.withStatus st).state = x.recover.state ∧ (x.recover.withStatus st).sent = x.recover.sent := by
    intro st
    unfold Tender.withStatus
    split <;> exact ⟨rfl, rfl, rfl⟩
  unfold Tender.recovered
  split
  · obtain ⟨hslot, hstate, hsame⟩ := hstatus .restart
    exact ⟨hslot.trans x.recover_kept.2.2.1, fun h => hsame.trans (hsent (hstate ▸ h))⟩
  · exact ⟨x.recover_kept.2.2.1, hsent⟩

/-- A check after the recovery of its tenders and of its state (01 R23, 06 R124). -/
theorem State.recordsRecovered_check? (slot : Nat) :
    s.recordsRecovered.check? slot = (s.check? slot).map fun c =>
      (c.unclaimed s slot).settled (decide (slot ∈ s.recovering)) (s.recordsRecovered.tendersOf c) := by
  rw [State.recordsRecovered, State.checksSettled_check?, State.tendersRecovered_check?, Option.map_map]
  congr 1
  funext c
  show Check.settled _ _ (s.tendersRecovered.tendersOf c) = _
  rw [State.tendersOf_congr s.recordsRecovered_tdu.symm]
  rfl

theorem State.recordsRecovered_held (slot : Nat) :
    (s.recordsRecovered.check? slot).any Check.held = (s.check? slot).any Check.held := by
  rw [State.recordsRecovered_check?]
  cases s.check? slot with
  | none => rfl
  | some c =>
    show Check.held (Check.settled _ _ _) = c.held
    rw [Check.held, (Check.settled_kept _ _ _).2.2]
    rfl

/-- The state before the wait queue is rebuilt. -/
def State.clocksRestarted (s : State) : State := s.recordsRecovered.restartLeases.restartApprovals

theorem State.recoverAll_eq_rebuildQueue : s.recoverAll = s.clocksRestarted.rebuildQueue := rfl

theorem State.clocksRestarted_tender? (i : Nat) :
    s.clocksRestarted.tender? i = (s.tender? i).map fun x =>
      x.recovered.leased (s.now + s.setting 15) fun slot => (s.check? slot).any Check.held := by
  have hclock : s.recordsRecovered.now + s.recordsRecovered.setting 15 = s.now + s.setting 15 := by
    have hkept := s.recordsRecovered_unrecovered
    simp only [State.unrecovered, Prod.mk.injEq] at hkept
    rw [State.now, State.setting, hkept.1.2.2.2.2, hkept.1.2.2.2.1]
    rfl
  show s.recordsRecovered.restartLeases.tender? i = _
  rw [State.restartLeases_tender?, State.recordsRecovered_tender?, Option.map_map, hclock]
  simp only [State.recordsRecovered_held]
  rfl

/-- The rebuilding of the wait queue finds every REVERSING tender unsent already (06 R124, 07 R143). -/
theorem State.recoverAll_tender?_eq (i : Nat) : s.recoverAll.tender? i = s.clocksRestarted.tender? i := by
  rw [s.recoverAll_eq_rebuildQueue]
  refine State.rebuildQueue_tender? _ (fun j y hy hstate => ?_) i
  rw [State.clocksRestarted_tender?, Option.map_eq_some_iff] at hy
  obtain ⟨x, -, rfl⟩ := hy
  have hrec : x.recovered.state = .reversing := (Tender.leased_kept _ _ _).1 ▸ hstate
  rw [Tender.leased, if_neg (by simp [hrec])]
  exact x.recovered_kept.2 hrec

/-- A tender after the whole recovery (05 R95, 06 R124). -/
theorem State.recoverAll_tender? (i : Nat) :
    s.recoverAll.tender? i = (s.tender? i).map fun x =>
      x.recovered.leased (s.now + s.setting 15) fun slot => (s.check? slot).any Check.held := by
  rw [State.recoverAll_tender?_eq, State.clocksRestarted_tender?]

/-- The events of the recovery come from the checks before and after it, in slot order (01 R10, log entry 32). -/
theorem State.recordsRecovered_hits :
    s.recordsRecovered.wnu.hits = (((List.range s.ckt.slots.length).filterMap fun slot =>
      (s.check? slot).bind fun c => (s.recordsRecovered.check? slot).bind fun c' => settledEvent c c').foldl
        (fun (u : State) e => u.handEvent e.1 e.2) s).wnu.hits := by
  have hkept := s.tendersRecovered_unrecovered
  simp only [State.unrecovered, Prod.mk.injEq] at hkept
  have hhits : s.tendersRecovered.wnu.hits = s.wnu.hits :=
    foldl_keeps (fun u : State => u.wnu.hits) _ State.recoverTender_hits _ _
  have hevents : ∀ slot, s.tendersRecovered.settledEvent? s.recovering slot
      = (s.check? slot).bind fun c => (s.recordsRecovered.check? slot).bind fun c' => settledEvent c c' := by
    intro slot
    rw [State.recordsRecovered, State.settledEvent?, State.checksSettled_check?, State.tendersRecovered_check?]
    cases s.check? slot <;> rfl
  rw [← funext hevents, ← hkept.2.2.1.2.2.1]
  exact State.foldl_settleStart_hits _ List.nodup_range hkept.2.2.2.1 hhits

theorem State.rebuildQueue_check? (slot : Nat) : s.rebuildQueue.check? slot = s.check? slot :=
  foldl_keeps (State.check? · slot) _ (fun u i => u.placeNeed_check? i .reverse slot) _ _

theorem State.recoverAll_tendersOf (c : Check) :
    s.recoverAll.tendersOf c = (s.recordsRecovered.tendersOf c).map
      (Tender.leased · (s.now + s.setting 15) fun slot => (s.check? slot).any Check.held) := by
  rw [State.tendersOf, State.tendersOf, List.map_filterMap]
  refine List.filterMap_congr fun i _ => ?_
  rw [State.recoverAll_tender?, State.recordsRecovered_tender?, Option.map_map]
  rfl

theorem derivedState_map {p : Plan} {ts : List Tender} {f : Tender → Tender} (hf : ∀ x, (f x).state = x.state) :
    derivedState p (ts.map f) = derivedState p ts := by
  have hflight : someInFlight (ts.map f) = someInFlight ts := by
    simp only [someInFlight, List.any_map, Function.comp_def, hf]
  have hcounted : someCounted (ts.map f) = someCounted ts := by
    simp only [someCounted, List.any_map, Function.comp_def, hf]
  rw [derivedState, hflight, hcounted, derivedState]

theorem Check.settled_map (c : Check) (changed : Bool) {ts : List Tender} {f : Tender → Tender}
    (hf : ∀ x, (f x).state = x.state ∧ (f x).faulted = x.faulted) :
    c.settled changed (ts.map f) = c.settled changed ts := by
  have hcount : (ts.map f).countP Tender.faulted = ts.countP Tender.faulted := by
    rw [List.countP_map]
    exact List.countP_congr fun x _ => by rw [Function.comp_apply, (hf x).2]
  simp only [Check.settled, hcount, derivedState_map fun x => (hf x).1]

/-- A check after the whole recovery (01 R23, 06 R124). -/
theorem State.recoverAll_check? (slot : Nat) :
    s.recoverAll.check? slot = (s.check? slot).map fun c =>
      (c.unclaimed s slot).settled (decide (slot ∈ s.recovering)) (s.recoverAll.tendersOf c) := by
  rw [s.recoverAll_eq, State.rebuildQueue_check?]
  show s.recordsRecovered.check? slot = _
  rw [State.recordsRecovered_check?]
  congr 1
  funext c
  rw [← s.recoverAll_eq, State.recoverAll_tendersOf,
    Check.settled_map _ _ fun x => x.leased_kept (s.now + s.setting 15) fun slot => (s.check? slot).any Check.held]

/-- No tender of a check has been recovered: its plan stays (06 R124). -/
theorem Check.unclaimed_eq_self {c : Check} {slot : Nat} (h : slot ∉ s.recovering) : c.unclaimed s slot = c := by
  have hnot : ∀ i x, s.tender? i = some x → x.slot = slot → x.recovers = false := by
    intro i x hx hslot
    by_contra hrec
    exact h (s.mem_recovering.mpr ⟨i, x, hx, hslot, by simpa using hrec⟩)
  refine Check.mapPortions_eq_self fun q _ => ?_
  have hsum : ((s.tdu.pool.filterMap id).map (Tender.lossFor slot q.number)).sum = 0 := by
    rw [← s.sum_pool, List.sum_eq_zero_iff_forall_eq_nat]
    intro n hn
    obtain ⟨i, -, rfl⟩ := List.mem_map.mp hn
    cases hx : s.tender? i with
    | none => rfl
    | some x =>
      rw [Option.map_some, Option.getD_some]
      by_cases hslot : x.slot = slot
      · exact Tender.lossFor_of_not_recovers (hnot i x hx hslot)
      · exact if_neg fun hloss => hslot hloss.1
  rw [hsum]
  refine q.less_eq_self fun k _ => ?_
  cases hx : s.tender? k with
  | none => rfl
  | some x =>
    rw [Option.any_some, Tender.frees_eq]
    by_cases hslot : x.slot = slot
    · simp [hnot k x hx hslot]
    · simp [hslot]

theorem Tender.joins_eq (x : Tender) :
    x.joins = ((decide (x.state = .authorizing .auth) || decide (x.state = .authorizing .increment)) && !x.hasStatus) := by
  unfold Tender.joins Tender.restarts
  cases x.state with
  | authorizing sub => cases sub <;> simp
  | _ => simp

/-- The table of the recovery, row by row (06 R124, 05 R95). -/
theorem Tender.recovered_leased (x : Tender) (deadline : Nat) (held : Nat → Bool) :
    x.recovered.leased deadline held = match x.state with
      | .tipWait =>
        { x with lease := match x.lease with
            | .absent => .absent
            | .running _ => .running deadline
            | .paused n => if held x.slot then .paused n else .running deadline }
      | .authorizing .auth => Tender.withStatus
        (if x.sent then
          { x with state := .reversing, attempts := 0, withdrawRequested := false, sent := false, heldTip := none }
        else { x with state := .done .withdrawn, lease := .absent, sent := false, withdrawRequested := false })
        .restart
      | .authorizing .increment => Tender.withStatus
        (if x.withdrawRequested then
          { x with state := .reversing, attempts := 0, withdrawRequested := false, sent := false, heldTip := none }
        else { x with state := .authorized, sent := false, heldTip := none })
        .restart
      | .reversing => { x with sent := false, withdrawRequested := false }
      | .capturing => { x with
          state := .authorized, captureFault := true, sent := false, heldTip := none, withdrawRequested := false }
      | .authorized | .done _ => x := by
  have hstatus : ∀ (y : Tender) st, y.state ≠ .tipWait → (y.withStatus st).leased deadline held = y.withStatus st := by
    intro y st hy
    refine if_neg ?_
    unfold Tender.withStatus
    split <;> exact hy
  unfold Tender.recovered Tender.restarts Tender.recover
  cases hs : x.state with
  | tipWait =>
    simp only [Bool.false_eq_true, if_false, Tender.leased, hs, if_true]
    cases x.lease <;> rfl
  | authorizing sub =>
    cases sub with
    | auth =>
      simp only [if_true]
      rw [hstatus]
      · rfl
      · split <;> simp [Tender.toReversing, Tender.finish]
    | increment =>
      simp only [if_true]
      rw [hstatus]
      · rfl
      · split <;> simp [Tender.toReversing, Tender.toAuthorized]
  | capturing => simp [Tender.leased, Tender.toAuthorized]
  | _ => simp [Tender.leased, hs]

/-- What placing a need never touches (07 R143). -/
def State.unplaced (s : State) :=
  ((s.fmp, { s.aqp with queue := [] }, s.apu, s.wnu, s.sst), (s.fck, s.flp, s.fhp, s.gwp, s.power, s.due),
    s.freeLines, s.ckt, s.tdu.pendingList, s.tdu.pool.length)

theorem State.placeNeed_unplaced (i : Nat) (k : NeedKind) : (s.placeNeed i k).unplaced = s.unplaced := by
  simp [State.unplaced, State.placeNeed, State.modTender]

theorem State.recoverAll_unplaced : s.recoverAll.unplaced = s.clocksRestarted.unplaced :=
  foldl_keeps State.unplaced _ (fun u i => u.placeNeed_unplaced i .reverse) _ _

/-- The whole recovery keeps what R197 keeps (11 R197). -/
theorem State.recoverAll_kept :
    (s.recoverAll.fmp = s.fmp ∧ s.recoverAll.sst = s.sst ∧ s.recoverAll.fck = s.fck ∧ s.recoverAll.flp = s.flp
      ∧ s.recoverAll.fhp = s.fhp ∧ s.recoverAll.gwp = s.gwp ∧ s.recoverAll.power = s.power
      ∧ s.recoverAll.due = s.due ∧ s.recoverAll.freeLines = s.freeLines
      ∧ s.recoverAll.ckt.nextNumber = s.ckt.nextNumber)
      ∧ s.recoverAll.wnu.watches = s.wnu.watches ∧ s.recoverAll.wnu.startup = s.wnu.startup
      ∧ s.recoverAll.wnu.startKind = s.wnu.startKind := by
  have hplaced := s.recoverAll_unplaced
  have hkept := s.recordsRecovered_unrecovered
  simp only [State.unplaced, State.clocksRestarted, State.restartApprovals, State.restartLeases, Prod.mk.injEq] at hplaced
  simp only [State.unrecovered, Prod.mk.injEq] at hkept
  obtain ⟨⟨hfmp, -, -, hwnu, hsst⟩, ⟨hfck, hflp, hfhp, hgwp, hpower, hdue⟩, hlines, hckt, -, -⟩ := hplaced
  obtain ⟨⟨kfmp, -, -, ksst, kfck⟩, ⟨kflp, kfhp, kgwp, kpower, kdue⟩, ⟨klines, knext, -, -⟩, kwatches, kstartup, kkind⟩ :=
    hkept
  rw [hfmp, hsst, hfck, hflp, hfhp, hgwp, hpower, hdue, hlines, hckt, hwnu]
  exact ⟨⟨kfmp, ksst, kfck, kflp, kfhp, kgwp, kpower, kdue, klines, knext⟩, kwatches, kstartup, kkind⟩

theorem State.recoverAll_hits : s.recoverAll.wnu.hits = s.recordsRecovered.wnu.hits := by
  have hplaced := s.recoverAll_unplaced
  simp only [State.unplaced, Prod.mk.injEq] at hplaced
  rw [hplaced.1.2.2.2.1]
  rfl

/-- Every approval record starts its deadline anew (08 R150). -/
theorem State.recoverAll_apu :
    s.recoverAll.apu
      = { s.apu with table := s.apu.table.map fun a => { a with deadline := s.now + s.setting 19 } } := by
  have hplaced := s.recoverAll_unplaced
  have hkept := s.recordsRecovered_unrecovered
  simp only [State.unplaced, Prod.mk.injEq] at hplaced
  simp only [State.unrecovered, Prod.mk.injEq] at hkept
  obtain ⟨⟨-, -, kapu, ksst, kfck⟩, -⟩ := hkept
  have hapu := hplaced.1.2.2.1
  simp only [State.clocksRestarted, State.restartApprovals, State.restartLeases, State.now, State.setting,
    kapu, ksst, kfck] at hapu
  exact hapu

/-- The statuses that join the list, in pool index order (06 R119, log entry 32). -/
theorem State.recoverAll_pendingList :
    s.recoverAll.tdu.pendingList = s.tdu.pendingList ++ s.tendersWhere Tender.joins := by
  have hplaced := s.recoverAll_unplaced
  simp only [State.unplaced, Prod.mk.injEq] at hplaced
  obtain ⟨-, -, -, -, hlist, -⟩ := hplaced
  rw [hlist]
  show s.recordsRecovered.tdu.pendingList = _
  rw [State.recordsRecovered_tdu, State.tendersRecovered, State.foldl_recoverTender_pendingList s List.nodup_range]
  rfl

theorem State.settleStart_pendCounts (changed : List Nat) (slot : Nat) :
    (s.settleStart changed slot).wnu.pendCounts = s.wnu.pendCounts := by
  unfold State.settleStart
  split
  · rfl
  · split
    · simp
    · split <;> simp

theorem State.recoverAll_pendCount (hlen : s.wnu.pendCounts.length = 48) {n : Nat} (hn : terminalExists n = true) :
    s.recoverAll.pendCount n
      = s.pendCount n + s.tdu.pool.countP fun o => o.any fun x => x.joins && decide (x.holder = some n) := by
  have hplaced := s.recoverAll_unplaced
  simp only [State.unplaced, Prod.mk.injEq] at hplaced
  have hcounts : s.recoverAll.wnu.pendCounts = s.tendersRecovered.wnu.pendCounts := by
    rw [hplaced.1.2.2.2.1]
    exact foldl_keeps (fun u : State => u.wnu.pendCounts) _ (fun u slot => u.settleStart_pendCounts s.recovering slot) _ _
  rw [State.pendCount, hcounts, ← State.pendCount, State.tendersRecovered,
    State.foldl_recoverTender_pendCount s List.nodup_range hlen hn, State.countP_pool]

/-- The wait queue after the recovery (07 R143). -/
theorem State.recoverAll_queue :
    s.recoverAll.aqp.queue = s.aqp.queue ++ (s.recoverAll.tendersWhere fun x => decide (x.state = .reversing)).map
      fun i => ({ tender := i, kind := .reverse } : Need) := by
  have hplaced := s.recoverAll_unplaced
  have hkept := s.recordsRecovered_unrecovered
  simp only [State.unplaced, Prod.mk.injEq] at hplaced
  simp only [State.unrecovered, Prod.mk.injEq] at hkept
  have hqueue : s.clocksRestarted.aqp.queue = s.aqp.queue := congrArg Acquirer.queue hkept.1.2.1
  have hwhere : s.recoverAll.tendersWhere (fun x => decide (x.state = .reversing))
      = s.clocksRestarted.tendersWhere fun x => decide (x.state = .reversing) :=
    State.tendersWhere_congr hplaced.2.2.2.2.2 fun i => by rw [State.recoverAll_tender?_eq]
  rw [hwhere, s.recoverAll_eq_rebuildQueue, State.rebuildQueue, State.foldl_placeNeed_queue, hqueue]

/-- The recovery leaves the Acquirer Port alone but for its wait queue (07 R143). -/
theorem State.recoverAll_aqp : s.recoverAll.aqp = { s.aqp with queue := s.recoverAll.aqp.queue } := by
  have hplaced := s.recoverAll_unplaced
  have hkept := s.recordsRecovered_unrecovered
  simp only [State.unplaced, Prod.mk.injEq] at hplaced
  simp only [State.unrecovered, Prod.mk.injEq] at hkept
  have haqp : s.clocksRestarted.aqp = s.aqp := hkept.1.2.1
  have hrest := hplaced.1.2.1
  rw [haqp] at hrest
  calc s.recoverAll.aqp
      = { ({ s.recoverAll.aqp with queue := [] } : _) with queue := s.recoverAll.aqp.queue } := rfl
    _ = _ := by rw [hrest]

end

/-! ## The obligation -/

/-- What the whole recovery makes of a check, case by case (01 R23). -/
theorem State.recoverAll_check (s : State) {slot : Nat} {c : Check} (hc : s.check? slot = some c) :
    ∃ c', s.recoverAll.check? slot = some c' ∧ c'.plan = (c.unclaimed s slot).plan
      ∧ (c.state = .closing → c' = { c with
          plan := c'.plan
          version := nextVersion c.version
          state := .closeFault
          closeFault := some ((s.recoverAll.tendersOf c').countP Tender.faulted) })
      ∧ (c.state ≠ .closing → slot ∈ s.recovering → c' = { c with
          plan := c'.plan
          version := nextVersion c.version
          state := if c.state = .settling ∨ c.state = .paid then derivedState c'.plan (s.recoverAll.tendersOf c')
            else c.state })
      ∧ (c.state ≠ .closing → slot ∉ s.recovering → c' = c) := by
  set d := c.unclaimed s slot with hd
  set c' := d.settled (decide (slot ∈ s.recovering)) (s.recoverAll.tendersOf c) with hc'
  obtain ⟨hplan, htenders, -⟩ := Check.settled_kept d (decide (slot ∈ s.recovering)) (s.recoverAll.tendersOf c)
  have hof : s.recoverAll.tendersOf c' = s.recoverAll.tendersOf c := by
    rw [State.tendersOf, htenders]
    rfl
  have hdstate : d.state = c.state := rfl
  refine ⟨c', ?_, hplan, fun hclosing => ?_, fun hclosing hrec => ?_, fun hclosing hrec => ?_⟩
  · rw [State.recoverAll_check?, hc, Option.map_some]
  · rw [hof, hplan, hc', Check.settled, if_pos (hdstate.trans hclosing)]
    rfl
  · rw [hof, hplan, hc', Check.settled, if_neg (hdstate ▸ hclosing), if_pos (decide_eq_true hrec)]
    rfl
  · rw [hc', Check.settled, if_neg (hdstate ▸ hclosing), if_neg (by simpa using hrec), hd,
      Check.unclaimed_eq_self s hrec]

theorem Tender.recovers_iff_exists {x : Tender} :
    x.recovers = true ↔ x.state = .capturing ∨ ∃ k, x.state = .authorizing k := by
  unfold Tender.recovers Tender.restarts
  cases x.state <;> simp

/-- The state that a warm start recovers (10 R187, 11 R197). -/
def State.warmStarted (s : State) (selLow : Bool) : State := (s.startCommon selLow).latchStart .warm

theorem State.foldl_handEvent_hits_congr (l : List (Nat × EventKind)) {s u : State}
    (hw : s.wnu.watches = u.wnu.watches) (hh : s.wnu.hits = u.wnu.hits) :
    (l.foldl (fun (v : State) e => v.handEvent e.1 e.2) s).wnu.hits
      = (l.foldl (fun (v : State) e => v.handEvent e.1 e.2) u).wnu.hits := by
  induction l generalizing s u with
  | nil => exact hh
  | cons e l ih => exact ih (by simp [hw]) (State.handEvent_hits_congr hw hh e.1 e.2)

/-- The events that a warm start hands on, as the check before and after it tell them (01 R10). -/
theorem State.recoverAll_events (s : State) :
    s.recoverAll.wnu.hits = (((List.range s.ckt.slots.length).filterMap fun slot =>
      match s.check? slot, s.recoverAll.check? slot with
      | some c, some c' => if c'.state = c.state then none
          else some (c.number, if c'.state = .closeFault then EventKind.closeFault else derivedEvent c'.state)
      | _, _ => none).foldl (fun (u : State) e => u.handEvent e.1 e.2) s).wnu.hits := by
  have hcheck : ∀ slot, s.recoverAll.check? slot = s.recordsRecovered.check? slot := fun slot => by
    rw [s.recoverAll_eq, State.rebuildQueue_check?]
    rfl
  have hevents : ∀ slot, ((s.check? slot).bind fun c => (s.recordsRecovered.check? slot).bind fun c' => settledEvent c c')
      = match s.check? slot, s.recoverAll.check? slot with
        | some c, some c' => if c'.state = c.state then none
            else some (c.number, if c'.state = .closeFault then EventKind.closeFault else derivedEvent c'.state)
        | _, _ => none := by
    intro slot
    rw [hcheck]
    cases s.check? slot with
    | none => rfl
    | some c => cases s.recordsRecovered.check? slot <;> rfl
  rw [State.recoverAll_hits, State.recordsRecovered_hits, funext hevents]

/-- Settles O28: the recovery of each record is a fold over distinct indexes, each step of which changes its own record
alone; the checks, leases and the wait queue then read the recovered tenders. -/
theorem warmStartRecovers : Obligations.WarmStartRecovers := by
  intro s selLow hhalted hretained
  have hexec : exec (.warmStart selLow) s = .next (s.warmStarted selLow).recoverAll := by
    show execWarmStart selLow s = _
    rw [execWarmStart, hhalted, hretained]
    rfl
  have hjoins : Tender.joins = fun x =>
      (decide (x.state = .authorizing .auth) || decide (x.state = .authorizing .increment)) && !x.hasStatus :=
    funext Tender.joins_eq
  have htender : (s.warmStarted selLow).tender? = s.tender? := rfl
  have hcheck : (s.warmStarted selLow).check? = s.check? := rfl
  have hapu : (s.warmStarted selLow).apu = s.apu := rfl
  have hqueue : (s.warmStarted selLow).aqp.queue = [] := rfl
  have haqp : (s.warmStarted selLow).aqp = { s.aqp with
      queue := [], entries := List.replicate 8 none, timeouts := 0, discarded := 0
      link := if s.aqp.linkOk then .up else .down } := rfl
  have hclock : ∀ n, (s.warmStarted selLow).now + (s.warmStarted selLow).setting n = s.setting n :=
    fun n => Nat.zero_add _
  obtain ⟨⟨hfmp, hsst, hfck, hflp, hfhp, hgwp, hpower, hdue, hlines, hnext⟩, hwatches, hstartup, hkind⟩ :=
    (s.warmStarted selLow).recoverAll_kept
  refine ⟨_, hexec, fun i => ?_, ?_, fun hlen n hn => ?_, ?_, ?_, fun slot hnone => ?_, fun slot c hc => ?_, ?_, hwatches,
    (s.started_hushed selLow .warm).recoverAll.pushes, hstartup, hkind, ?_, hfmp, hsst, hfck, hnext, hlines, hflp, hfhp,
    hgwp, hdue, hpower⟩
  case refine_1 =>
    rw [State.recoverAll_tender?, hclock, htender, hcheck]
    exact Option.map_congr fun x _ => x.recovered_leased _ _
  case refine_2 =>
    rw [State.recoverAll_pendingList, hjoins]
    rfl
  case refine_3 =>
    have hcount := State.recoverAll_pendCount (s.warmStarted selLow) hlen hn
    rw [hjoins] at hcount
    exact hcount
  case refine_4 =>
    rw [State.recoverAll_apu, hclock, hapu]
  case refine_5 => rw [State.recoverAll_queue, hqueue, List.nil_append]
  case refine_6 =>
    have hnone' : (s.warmStarted selLow).check? slot = none := hnone
    rw [State.recoverAll_check?, hnone', Option.map_none]
  case refine_7 =>
    obtain ⟨c', hc', hplan, hclosing, hrec, hsame⟩ := (s.warmStarted selLow).recoverAll_check (slot := slot) hc
    refine ⟨c', hc', hplan, hclosing, fun hstate ⟨i, x, hx, hslot, hx'⟩ => hrec hstate ?_,
      fun hstate hnot => hsame hstate ?_⟩
    · exact (State.mem_recovering _).mpr ⟨i, x, hx, hslot, Tender.recovers_iff_exists.mpr hx'⟩
    · intro hmem
      obtain ⟨i, x, hx, hslot, hrecovers⟩ := (State.mem_recovering _).mp hmem
      obtain ⟨hcapturing, hauthorizing⟩ := hnot i x hx hslot
      rcases Tender.recovers_iff_exists.mp hrecovers with h | ⟨k, hk⟩
      · exact hcapturing h
      · exact hauthorizing k hk
  case refine_8 => exact (State.recoverAll_events _).trans (State.foldl_handEvent_hits_congr _ rfl rfl)
  case refine_9 =>
    rw [State.recoverAll_aqp, haqp]

end Sys2Proof.Machine
end

section
/-! Refutation of TendersStayFitting: a deferred withdraw left on a tender of a CLOSE_FAULT check. -/
namespace Sys2Proof.Machine

/-- A faulted tender, AUTHORIZED, with a deferred withdraw left on it: no premise of the statement speaks of that flag. -/
def strandedTender : Tender :=
  { newTender 0 1 1 .tipLater none 1 500 with
    state := .authorized, deferredWithdraw := true, captureFault := true
    authTotal := some 500, tolerance := some 20000, authAmount := some 500 }

/-- A CLOSE_FAULT check held by MANAGER, its one portion settled by the stranded tender. -/
def strandedCheck : Check :=
  { newCheck 1 1 2 0 0 0 with
    state := .closeFault, closeFault := some 1, holds := { manager := true, approval := false }, tenders := [0]
    totals := { subtotal := 500, taxes := List.replicate 8 0, service := 0, total := 500 }
    plan := { kind := .unsplit, count := 1, state := .locked
              portions := [{ number := 1, share := 500, seat := none, counted := 500, claim := none }] } }

/-- The floor server is about to release the stranded check. -/
def strandedState : State :=
  { State.reset with
    ckt := { slots := State.reset.ckt.slots.set 0 (some strandedCheck), nextNumber := 2 }
    tdu := { pool := State.reset.tdu.pool.set 0 (some strandedTender), pendingList := [] }
    fmp := { State.reset.fmp with lists := State.reset.fmp.lists.set 0 [0] }
    pending := [.releaseCheck { port := .fhp, term := 0, tag := 1, ver := 65535 } 1] }

/-- Reading a list of free records whose first alone is in use. -/
theorem getElem?_replicate_set_zero {α : Type} (a : α) {n : Nat} (hn : 0 < n) (i : Nat) :
    (((List.replicate n none).set 0 (some a))[i]?).join = if i = 0 then some a else none := by
  cases i with
  | zero => simp [hn]
  | succ k => by_cases hk : k + 1 < n <;> simp [hk]

theorem strandedState_check? (i : Nat) : strandedState.check? i = if i = 0 then some strandedCheck else none :=
  getElem?_replicate_set_zero strandedCheck (by decide) i

theorem strandedState_tender? (i : Nat) : strandedState.tender? i = if i = 0 then some strandedTender else none :=
  getElem?_replicate_set_zero strandedTender (by decide) i

theorem strandedState_check?_eq_some {i : Nat} {c : Check} (h : strandedState.check? i = some c) :
    i = 0 ∧ c = strandedCheck := by
  rw [strandedState_check?] at h
  split at h <;> simp_all

theorem strandedState_tender?_eq_some {i : Nat} {x : Tender} (h : strandedState.tender? i = some x) :
    i = 0 ∧ x = strandedTender := by
  rw [strandedState_tender?] at h
  split at h <;> simp_all

theorem strandedState_liveChecks : strandedState.liveChecks = [strandedCheck] := by decide +kernel

theorem strandedState_tendersOf : strandedState.tendersOf strandedCheck = [strandedTender] := by
  simp [State.tendersOf, strandedCheck, strandedState_tender?]

theorem strandedState_tableList (n : Nat) : strandedState.tableList n = if n = 1 then [0] else [] := by
  unfold State.tableList get1
  rcases n with _ | _ | k
  · simp
  · decide
  · by_cases hk : k + 1 < Config.tableCount <;>
      simp [strandedState, State.reset, hk]

theorem strandedState_checksSeated : ChecksSeated strandedState := by
  refine ⟨by decide +kernel, ?_, by decide +kernel, fun table => ?_, by simp [strandedState, State.reset]⟩
  · rw [strandedState_liveChecks]
    exact ⟨by simp, by decide⟩
  · rw [strandedState_tableList]
    by_cases ht : table = 1
    · subst ht
      refine ⟨by simp, by decide, fun slot => ?_⟩
      by_cases hs : slot = 0 <;> simp [strandedState_check?, hs, strandedCheck, newCheck]
    · refine ⟨by simp [ht], by simp [ht], fun slot => ?_⟩
      by_cases hs : slot = 0 <;> simp [strandedState_check?, hs, strandedCheck, newCheck, ht]
      omega

theorem strandedState_tendersListed : TendersListed strandedState := by
  refine ⟨by decide +kernel, fun slot c hc => ?_, fun i t ht => ?_⟩
  · obtain ⟨rfl, rfl⟩ := strandedState_check?_eq_some hc
    refine ⟨by decide, fun k i hk => ?_⟩
    cases k with
    | zero => exact ⟨strandedTender, by simp_all [strandedCheck, strandedState_tender?], rfl, rfl⟩
    | succ k => simp [strandedCheck] at hk
  · obtain ⟨rfl, rfl⟩ := strandedState_tender?_eq_some ht
    exact ⟨strandedCheck, 0, strandedState_check? 0, rfl, rfl⟩

theorem strandedState_approvalsHeld : ApprovalsHeld strandedState := by
  refine ⟨by decide, by simp [strandedState, State.reset], by simp [strandedState, State.reset], fun slot => ?_⟩
  constructor
  · simp [strandedState, State.reset]
  · rintro ⟨c, hc, ha⟩
    obtain ⟨-, rfl⟩ := strandedState_check?_eq_some hc
    simp [strandedCheck] at ha

theorem strandedState_portionsCounted : PortionsCounted strandedState := by
  intro slot c hc
  obtain ⟨rfl, rfl⟩ := strandedState_check?_eq_some hc
  refine ⟨by decide, by rw [strandedState_tendersOf]; decide, ?_⟩
  simp only [State.countedSum, strandedState_tendersOf]
  intro p hp
  obtain rfl : p = { number := 1, share := 500, seat := none, counted := 500, claim := none } := by
    simpa [strandedCheck] using hp
  refine ⟨by decide, by decide, fun i => ⟨by simp, ?_⟩⟩
  rintro ⟨-, x, hx, -, hc⟩
  obtain ⟨-, rfl⟩ := strandedState_tender?_eq_some hx
  simp [strandedTender, TenderState.claims] at hc

theorem strandedState_needsMatched : NeedsMatched strandedState := by
  have hneeding : strandedState.needing = [] := by decide
  have hqueue : strandedState.aqp.queue = [] := rfl
  have hentries : strandedState.aqp.entries.filterMap id = [] := by decide
  refine ⟨by simp [hneeding], by simp [hqueue], by rw [hentries]; simp, fun i x hx he => ?_⟩
  obtain ⟨-, rfl⟩ := strandedState_tender?_eq_some hx
  simp [strandedTender, TenderState.exchanging] at he

theorem strandedState_tendersFitChecks : TendersFitChecks strandedState := by
  refine ⟨fun slot c hc => ?_, by simp [strandedState, State.reset]⟩
  obtain ⟨rfl, rfl⟩ := strandedState_check?_eq_some hc
  rw [strandedState_tendersOf]
  exact ⟨by decide, by decide⟩

/-- The state after the release: the deferred withdraw has acted on the stranded tender. -/
def strandedReleased : State := Out.orElse (step strandedState) strandedState

theorem step_strandedState : step strandedState = .next strandedReleased := rfl

/-- The check is still in CLOSE_FAULT, and its tender is REVERSING. -/
theorem strandedReleased_records :
    ((strandedReleased.check? 0).map fun c => (c.state, (strandedReleased.tendersOf c).map Tender.state))
      = some (.closeFault, [.reversing]) := by decide +kernel

/-- Refutes O57: when a MANAGER hold is released (R149), a deferred withdraw acts on its AUTHORIZED tender whatever state
the check is in (R113, R115). None of the premises rules out that flag on a tender of a CLOSE_FAULT check, which then has a
REVERSING tender; TendersFitChecks allows none there. No run reaches such a state: a held check admits no CLOSE
CHECK. -/
theorem not_tendersStayFitting : ¬ Obligations.TendersStayFitting := by
  intro h
  obtain ⟨hfit, -⟩ := h strandedState strandedReleased step_strandedState strandedState_checksSeated
    strandedState_tendersListed strandedState_approvalsHeld strandedState_portionsCounted strandedState_needsMatched
    strandedState_tendersFitChecks
  have hrec := strandedReleased_records
  cases hc : strandedReleased.check? 0 with
  | none => simp [hc] at hrec
  | some c =>
    simp only [hc, Option.map_some, Option.some.injEq, Prod.mk.injEq] at hrec
    obtain ⟨hstate, htenders⟩ := hrec
    obtain ⟨x, hx, hxs⟩ : ∃ x ∈ strandedReleased.tendersOf c, x.state = .reversing :=
      List.mem_map.mp (htenders ▸ List.mem_singleton_self _)
    have hadm := (hfit 0 c hc).1 x hx
    rw [hstate, hxs] at hadm
    exact absurd hadm (by decide)

end Sys2Proof.Machine
end

section
/-! The refusals that come before what a request names is looked at (10 R181; 02 R31, 01 R3). -/

namespace Sys2Proof.Machine

section
variable {i : Instr} {h : Hdr} {kind : Nat} {cls : ReqClass} {number : Nat}

/-- A well-formed batch of ADD LINES has 1 to 8 entries (10.6). -/
theorem batch_length_of_wf {entries : List LineEntry} (hwf : (Instr.addLines h number entries).wf = true) :
    ¬(entries.length = 0 ∨ 8 < entries.length) := by
  simp only [Instr.wf, Bool.and_eq_true, decide_eq_true_eq] at hwf
  omega

/-- A well-formed START TENDER carries a token of 32 bytes (10.6). -/
theorem token_length_of_wf {portion tender amount : Nat} {token : List Byte}
    (hwf : (Instr.startTender h number portion tender amount token).wf = true) : ¬ token.length ≠ 32 := by
  simp only [Instr.wf, Bool.and_eq_true, decide_eq_true_eq] at hwf
  exact not_not.mpr hwf.2

/-- Every well-formed request is judged by its class first (10 R178, 02 R31). -/
theorem exec_eq_request (hi : requestOf i = some (h, kind, cls)) (hwf : i.wf = true) (s : State) :
    ∃ act, exec i s = .next (s.request h kind cls act) := by
  cases i with
  | addLines _ _ entries => cases hi; exact ⟨_, congrArg Host.Outcome.next (if_neg (batch_length_of_wf hwf))⟩
  | startTender _ _ _ _ _ token => cases hi; exact ⟨_, congrArg Host.Outcome.next (if_neg (token_length_of_wf hwf))⟩
  | _ => cases hi <;> exact ⟨_, rfl⟩

/-- A request that must name a live check looks its number up before anything else but its class (01 R3). -/
theorem exec_eq_withCheck (hi : requestOf i = some (h, kind, cls)) (hwf : i.wf = true)
    (hname : namedCheck i = some number) (s : State) :
    ∃ k : State → Nat → Check → State × Reply,
      exec i s = .next (s.request h kind cls fun u => u.withCheck number (k u)) := by
  cases i with
  | addLines _ _ entries =>
    cases hi; cases hname; exact ⟨_, congrArg Host.Outcome.next (if_neg (batch_length_of_wf hwf))⟩
  | startTender _ _ _ _ _ token =>
    cases hi; cases hname; exact ⟨_, congrArg Host.Outcome.next (if_neg (token_length_of_wf hwf))⟩
  | _ => cases hname <;> cases hi <;> exact ⟨_, rfl⟩

end

/-- Settles O5: the class is judged before a request's own block acts, and that block begins with the check number. -/
theorem earlyRefusals : Obligations.EarlyRefusals := by
  refine ⟨fun i h kind cls s hi hwf htaken hadmits => ?_, fun i h kind cls number s hi hwf hj hname hnone => ?_⟩
  · obtain ⟨act, hexec⟩ := exec_eq_request hi hwf s
    rw [hexec, request_of_not_admitted htaken hadmits]
  · obtain ⟨k, hexec⟩ := exec_eq_withCheck hi hwf hname s
    rw [hexec, request_eq_finish hj (withCheck_of_none (by simpa using hnone) _)]

end Sys2Proof.Machine
end

section
/-! The requests that read, and change nothing but what their frame carries (02 R33, R38; 01 R12; 03 R54; 10 R186;
11 R190). -/

namespace Sys2Proof.Machine

section
variable {s : State} {h : Hdr} {number slot : Nat} {c : Check}

/-- A request that only the floor server may send is acted on in the state it meets (02 R28, R31). -/
theorem request_of_floorServer (hj : Judged s h .floorServer) (kind : Nat) (act : State → State × Reply) :
    s.request h kind .floorServer act = ((act s).1.answer h kind (act s).2).flushPushes := by
  rw [request_of_judged hj, hj.term_eq_zero, State.hear_zero]

/-- A request of the floor server ends with the answer its block gives. -/
theorem floorRequest_eq_finish (hj : Judged s h .floorServer) {kind : Nat} {act : State → State × Reply} {t : State}
    {code : Code} {body : List Byte} (ha : act s = (t, reply code body)) :
    s.request h kind .floorServer act = t.finish h kind code body := by
  rw [request_of_floorServer hj, ha, State.finish]

theorem hello_completes (ht : s.takes h = .taken) :
    exec (.hello h) s = .next ((s.hear h.term).finish h 0x01 .taken
      (be1 (s.role h.term).toNat ++ be1 (s.sectionsMask h.term).toNat ++ be1 (s.setting 22)
        ++ countByte (s.pendCount h.term) ++ flagByte (!(s.hitSet h.term).isEmpty))) := by
  refine congrArg Host.Outcome.next (request_eq_finish (cls := .presence) ⟨ht, rfl⟩ ?_)
  simp only [State.hear_role, State.hear_sectionsMask, State.hear_setting, State.hear_pendCount, State.hear_hitSet]

theorem readCheck_completes (hj : Judged s h .read) (hn : Named s number slot c) (hmay : s.mayRead h.term c = true) :
    exec (.readCheck h number) s = .next ((s.hear h.term).finish h 0x11 .taken (s.summary c)) := by
  refine congrArg Host.Outcome.next (request_eq_finish hj ?_)
  rw [withCheck_of_named (hn.hear _), judged_of_pass (by simp [judge, hmay]), takenSummary_of_check (hn.hear _).2,
    State.hear_summary]

theorem readLines_completes {first last : Nat} (hj : Judged s h .read) (hn : Named s number slot c)
    (hmay : s.mayRead h.term c = true) (hfirst : 1 ≤ first) (horder : first ≤ last) (hlast : last ≤ 120) :
    exec (.readLines h number first last) s = .next
      (((s.hear h.term).answer h 0x23 { code := .taken, bodies := c.lineFrames first last }).flushPushes) := by
  have hpass : judge
      [(!(s.hear h.term).mayRead h.term c, refuse .denied),
       (first == 0, rangeField 2),
       (decide (Config.maxLineNumber < last), rangeField 3),
       (decide (last < first), rangeField 3)] = none := by
    have hzero : first ≠ 0 := by omega
    have hbound : ¬ Config.maxLineNumber < last := not_lt.mpr hlast
    simp [judge_eq_none_cons, judge_nil, hmay, hzero, horder, hbound]
  refine congrArg Host.Outcome.next ((request_of_judged hj _ _).trans ?_)
  rw [withCheck_of_named (hn.hear _), judged_of_pass hpass]

theorem readTable_completes {table : Nat} (hj : Judged s h .floorServer) (hfirst : 1 ≤ table) (hlast : table ≤ 400) :
    exec (.readTable h table) s = .next (s.finish h 0x73 .taken
      (be1 (s.sectionOf table) ++ (((s.tableList table).filterMap s.check?).map seatedBytes).flatten)) := by
  have htable : tableExists table = true := tableExists_iff.mpr ⟨hfirst, hlast⟩
  exact congrArg Host.Outcome.next (floorRequest_eq_finish hj (judged_of_pass (by simp [judge, htable]) _))

theorem readPartStatus_completes (hj : Judged s h .floorServer) :
    exec (.readPartStatus h) s = .next ((s.answer h 0x85
      { code := .taken, bodies := [s.statusPart0, s.statusPart1, s.statusPart2] }).flushPushes) :=
  congrArg Host.Outcome.next (request_of_floorServer hj _ _)

theorem readSetting_range {n : Nat} (hj : Judged s h .floorServer) (hn : n = 0 ∨ 23 < n) :
    exec (.readSetting h n) s = .next (s.finish h 0x81 .range
      (be1 1 ++ be1 0 ++ be1 1 ++ be4 0 ++ be4 0 ++ be4 0 ++ be1 0)) := by
  have hnone : settingExists n = false := by
    rw [settingExists, Bool.and_eq_false_iff, decide_eq_false_iff_not, decide_eq_false_iff_not]
    omega
  exact congrArg Host.Outcome.next
    (floorRequest_eq_finish hj (judged_of_refusal (r := rangeField 1) (by simp [judge, hnone]) _))

theorem readSetting_completes {n : Nat} (hj : Judged s h .floorServer) (hfirst : 1 ≤ n) (hlast : n ≤ 23) :
    exec (.readSetting h n) s = .next (s.finish h 0x81 .taken
      (be1 n ++ be4 (s.setting n) ++ be4 (settingBounds n).1 ++ be4 (settingBounds n).2)) := by
  have hsome : settingExists n = true := by simp [settingExists, hfirst, hlast]
  exact congrArg Host.Outcome.next (floorRequest_eq_finish hj (judged_of_pass (by simp [judge, hsome]) _))

end

/-- Settles O7: no test of a reading request refuses, and what it reads is not touched by its own frame. -/
theorem readingRequestsComplete : Obligations.ReadingRequestsComplete := by
  refine ⟨fun _ _ => hello_completes, fun _ _ _ _ _ => readCheck_completes, fun _ _ _ _ _ _ _ => readLines_completes,
    fun _ _ _ => readTable_completes, fun _ _ => readPartStatus_completes, fun _ _ _ => readSetting_range,
    fun _ _ _ => readSetting_completes, rfl, rfl, fun s h n ht hterm => ?_⟩
  exact congrArg Host.Outcome.next (request_of_not_admitted ht (by simp [State.admits, hterm]) _ _)

end Sys2Proof.Machine
end

section
/-! Presence: what a frame from a terminal changes (02 R28, R30; 05 R91). -/

namespace Sys2Proof.Machine

/-! ## The pushes of an event (09 R165) -/

/-- The state with pushes added to those of the event in progress (09 R166). -/
def State.withPushes (s : State) (ps : List Push) : State :=
  { s with wnu := { s.wnu with pushes := s.wnu.pushes ++ ps } }

section
variable {s : State} {t : Nat}

@[simp] theorem State.withPushes_nil : s.withPushes [] = s := by simp [State.withPushes]

@[simp] theorem State.withPushes_withPushes (ps qs : List Push) :
    (s.withPushes ps).withPushes qs = s.withPushes (ps ++ qs) := by
  simp [State.withPushes]

/-- A push that is due under a condition, to a terminal that is PRESENT (09 R165). -/
theorem State.ite_raise_of_present {p : Push} (hp : s.isPresent p.terminal = true) (b : Prop) [Decidable b] :
    (if b then s.raise p else s) = s.withPushes (if b then [p] else []) := by
  split
  · rw [State.raise, if_pos hp, State.withPushes]
  · exact State.withPushes_nil.symm

/-- The pushes that announce the return of terminal t (02 R30). -/
def State.returnPushes (s : State) (t : Nat) : List Push :=
  (if 0 < s.pendCount t then [.statusReady t] else [])
    ++ (if s.hitSet t ≠ [] then [.hitsReady t] else [])
    ++ (if s.role t = Role.manager ∧ s.apu.table ≠ [] then [.approvalWaiting t] else [])

/-- The return of a terminal that is PRESENT raises its pushes and changes nothing else (02 R30). -/
theorem State.announceReturn_eq (hp : s.isPresent t = true) :
    s.announceReturn t = s.withPushes (s.returnPushes t) := by
  have hhits : ∀ u : State, u.isPresent t = true → (if (u.hitSet t).isEmpty then u else u.raise (.hitsReady t))
      = u.withPushes (if u.hitSet t ≠ [] then [.hitsReady t] else []) := fun u hu => by
    rw [← State.ite_raise_of_present (p := .hitsReady t) hu, ite_not]
    simp only [List.isEmpty_iff]
  unfold State.announceReturn State.returnPushes
  simp only
  rw [State.ite_raise_of_present (p := .statusReady t) hp, hhits (s.withPushes _) hp,
    State.withPushes_withPushes, State.ite_raise_of_present (s := s.withPushes _) (p := .approvalWaiting t) hp,
    State.withPushes_withPushes]
  rfl

end

/-! ## A frame heard (02 R28, 05 R91) -/

section
variable (s : State) (t : Nat)

/-- The state in which a frame from terminal t has been heard, before its return is announced (02 R28, 05 R91). -/
def State.heardFrom : State :=
  State.renewLeases (State.doneSilence { s with fmp := { s.fmp with
      present := set1 s.fmp.present t true
      lastHeard := set1 s.fmp.lastHeard t s.now } } t) t

/-- The pushes that a frame from terminal t raises: those of its return, when it was SILENT (02 R30). -/
def State.heardPushes : List Push := if s.isPresent t = true then [] else s.returnPushes t

variable {s t}

/-- An entry that has been written, read anywhere (00, Counts and numbering). -/
theorem get1_set1_of_mem {α : Type} {l : List α} {n : Nat} (hn : 1 ≤ n) (hl : n ≤ l.length) (m : Nat) (v d : α) :
    get1 (set1 l n v) m d = if m = n then v else get1 l m d := by
  simp [get1_set1, hn, hl]

theorem State.heardFrom_isPresent (hn : 1 ≤ t) (hl : t ≤ s.fmp.present.length) (u : Nat) :
    (s.heardFrom t).isPresent u = if u = t then true else s.isPresent u :=
  get1_set1_of_mem hn hl u true false

theorem State.heardFrom_lastHeard (hn : 1 ≤ t) (hl : t ≤ s.fmp.lastHeard.length) (u : Nat) :
    (s.heardFrom t).lastHeard u = if u = t then s.fck.timebase else s.lastHeard u :=
  get1_set1_of_mem hn hl u s.fck.timebase 0

/-- The lease of a TIP_WAIT tender is renewed by its holder's frame (05 R91). -/
theorem State.renewLeases_tender? (i : Nat) :
    (s.renewLeases t).tender? i = (s.tender? i).map fun x =>
      if x.holder = some t ∧ x.state = .tipWait then { x with lease := x.lease.renew s.now (s.setting 15) } else x := by
  simp only [State.tender?, State.renewLeases, List.getElem?_map]
  cases s.tdu.pool[i]? with
  | none => rfl
  | some o => cases o <;> rfl

/-- A frame from a terminal is heard, and the pushes it raises join those of the event (02 R28, R30). -/
theorem State.hear_eq (hn : 1 ≤ t) (hl : t ≤ s.fmp.present.length) :
    s.hear t = (s.heardFrom t).withPushes (s.heardPushes t) := by
  have hunfold : s.hear t = if s.isPresent t = true then s.heardFrom t else (s.heardFrom t).announceReturn t := by
    rw [State.hear, if_neg (by omega)]
    cases hp : s.isPresent t <;> simp [State.heardFrom]
  rw [hunfold, State.heardPushes]
  split
  · exact State.withPushes_nil.symm
  · rw [State.announceReturn_eq (by rw [State.heardFrom_isPresent hn hl, if_pos rfl])]
    rfl

end

/-- Settles O35: what the frame writes, and after it the pushes of a return, in the order in which the model raises
them. -/
theorem framesUpdatePresence : Obligations.FramesUpdatePresence := by
  refine ⟨State.hear_zero, fun s t hfirst hlast hpresent hheard => ?_⟩
  have hlp : t ≤ s.fmp.present.length := by omega
  have hlh : t ≤ s.fmp.lastHeard.length := by omega
  have hpres (u : Nat) : (s.hear t).isPresent u = if u = t then true else s.isPresent u := by
    rw [State.hear_eq hfirst hlp]; exact State.heardFrom_isPresent hfirst hlp u
  have hheardAt (u : Nat) : (s.hear t).lastHeard u = if u = t then s.fck.timebase else s.lastHeard u := by
    rw [State.hear_eq hfirst hlp]; exact State.heardFrom_lastHeard hfirst hlh u
  refine ⟨by rw [hpres, if_pos rfl], by rw [hheardAt, if_pos rfl],
    fun u hu => ⟨by rw [hpres, if_neg hu], by rw [hheardAt, if_neg hu]⟩, fun i => ?_, ?_, ?_⟩
  · rw [State.hear_eq hfirst hlp]
    exact (State.renewLeases_tender? i).trans rfl
  · rw [State.hear_eq hfirst hlp]; rfl
  · rw [State.hear_eq hfirst hlp]
    refine ⟨s.heardPushes t, rfl, fun hp => if_pos hp, fun hp => ?_⟩
    rw [State.heardPushes, if_neg (by simp [hp])]
    exact .refl _

end Sys2Proof.Machine
end

section
/-! The release of a terminal (02 R35). -/

namespace Sys2Proof.Machine

section
variable (s : State)

/-! ## Tender events and expiries, record by record (05 R88, R93) -/

/-- A tender event changes the record of its tender alone (05 R88). -/
theorem State.tenderEvent_tender? (i : Nat) (f : Tender → Tender) (j : Nat) :
    (s.tenderEvent i f).tender? j = if j = i then (s.tender? j).map f else s.tender? j := by
  unfold State.tenderEvent
  split
  next hnone => by_cases hji : j = i <;> simp [hji, hnone]
  · rw [State.derive_tender?, State.modCheck_tender?, State.moveTender_tender?]

@[simp] theorem State.tenderEvent_pool_length (i : Nat) (f : Tender → Tender) :
    (s.tenderEvent i f).tdu.pool.length = s.tdu.pool.length := by
  unfold State.tenderEvent
  split
  · rfl
  · rw [State.derive_tdu, State.modCheck_tdu, State.moveTender]
    split
    · rfl
    · simp [State.modTender]

@[simp] theorem State.setStatus_pool_length (i : Nat) (st : Status) :
    (s.setStatus i st).tdu.pool.length = s.tdu.pool.length := by
  unfold State.setStatus
  split
  · rfl
  · split <;> simp [State.modTender]

/-- A tender whose lease has expired (05 R93). -/
def Tender.expired (x : Tender) : Tender := (x.finish .withdrawn).withStatus .leaseExpired

theorem Tender.expired_holder (x : Tender) : x.expired.holder = x.holder := by
  unfold Tender.expired Tender.withStatus
  split <;> rfl

/-- The expiry of a lease changes the record of its tender alone (05 R93). -/
theorem State.expireLease_tender? (i j : Nat) :
    (s.expireLease i).tender? j = if j = i then (s.tender? j).map Tender.expired else s.tender? j := by
  rw [State.expireLease, State.setStatus_tender?, State.tenderEvent_tender?]
  split
  · rw [Option.map_map]; rfl
  · rfl

/-! ## The tenders that satisfy a test -/

variable {s} in
theorem State.mem_tendersWhere {p : Tender → Bool} {i : Nat} :
    i ∈ s.tendersWhere p ↔ (s.tender? i).any p = true := by
  rw [State.tendersWhere, List.mem_filter, List.mem_range]
  refine and_iff_right_of_imp fun hany => Nat.lt_of_not_le fun hle => ?_
  simp [State.tender?, List.getElem?_eq_none hle] at hany

theorem State.tendersWhere_nodup (p : Tender → Bool) : (s.tendersWhere p).Nodup :=
  List.Nodup.filter _ List.nodup_range

theorem State.tendersWhere_length (p : Tender → Bool) :
    (s.tendersWhere p).length = s.tdu.pool.countP fun o => o.any p := by
  rw [State.tendersWhere, ← List.countP_eq_length_filter, State.countP_pool]

/-- A change made in turn to each tender that satisfies a test changes those tenders and no other. -/
theorem State.foldl_tendersWhere_tender? {f : State → Nat → State} {g : Tender → Tender}
    (hf : ∀ (u : State) i j, (f u i).tender? j = if j = i then (u.tender? j).map g else u.tender? j) (p : Tender → Bool)
    (j : Nat) :
    ((s.tendersWhere p).foldl f s).tender? j = (s.tender? j).map fun x => if p x then g x else x := by
  rw [foldl_at (get := State.tender?) (g := fun _ => g) (P := fun _ => True) (fun _ _ _ => trivial)
    (fun u i j _ => hf u i j) (s.tendersWhere_nodup p) trivial]
  simp only [State.mem_tendersWhere]
  cases s.tender? j with
  | none => simp
  | some x => cases hp : p x <;> simp [hp]

/-! ## The steps of a release (02 R35) -/

variable (t : Nat)

/-- The TIP_WAIT tenders of a released terminal end with status LEASE_EXPIRED (02 R35 step 2). -/
theorem State.withLeasesExpired_tender? (j : Nat) :
    (s.withLeasesExpired t).tender? j
      = (s.tender? j).map fun x => if x.holder = some t ∧ x.state = .tipWait then x.expired else x := by
  refine (State.foldl_tendersWhere_tender? _ State.expireLease_tender? _ j).trans ?_
  simp only [State.setPresent_tender?, Bool.and_eq_true, decide_eq_true_eq]

/-- A released terminal holds no tender (02 R35 step 3). -/
theorem State.withNoHolder_tender? (j : Nat) :
    (s.withNoHolder t).tender? j
      = (s.tender? j).map fun x => if x.holder = some t then { x with holder := none } else x := by
  refine (State.foldl_tendersWhere_tender? s (g := fun x => { x with holder := none }) (fun u i j => ?_) _ j).trans ?_
  · rw [State.unhold, State.modTender_tender?]
    simp only [eq_comm]
  · simp only [decide_eq_true_eq]

/-- What an expiry leaves alone stays, through the first two steps of a release, as step 1 left it (02 R35). -/
theorem State.withLeasesExpired_keeps {γ : Type} (P : State → γ) (hexpire : ∀ (u : State) i, P (u.expireLease i) = P u) :
    P (s.withLeasesExpired t) = P (s.setPresent t false) :=
  foldl_keeps P State.expireLease hexpire _ _

theorem State.withNoHolder_keeps {γ : Type} (P : State → γ) (hunhold : ∀ (u : State) i, P (u.unhold i) = P u) :
    P (s.withNoHolder t) = P s :=
  foldl_keeps P State.unhold hunhold _ _

/-- The terminal that a release makes SILENT is the only thing it changes in the floor map (02 R35 step 1). -/
theorem State.releaseTerminal_fmp : (s.releaseTerminal t).1.fmp = (s.setPresent t false).fmp := by
  rw [State.releaseTerminal_fst]
  refine Eq.trans (State.withNoHolder_keeps _ t (fun u => u.fmp) (by simp)) ?_
  exact State.withLeasesExpired_keeps s t (fun u => u.fmp) (by simp)

theorem State.releaseTerminal_tender? (j : Nat) :
    (s.releaseTerminal t).1.tender? j = (s.tender? j).map fun x =>
      if x.holder = some t then { (if x.state = .tipWait then x.expired else x) with holder := none } else x := by
  have hsteps : (s.releaseTerminal t).1.tender? j = ((s.withLeasesExpired t).withNoHolder t).tender? j := by
    rw [State.releaseTerminal_fst]; rfl
  rw [hsteps, State.withNoHolder_tender?, State.withLeasesExpired_tender?, Option.map_map]
  congr 1
  funext x
  by_cases hholder : x.holder = some t <;> by_cases hstate : x.state = .tipWait <;>
    simp [hholder, hstate, Tender.expired_holder]

/-- The watches of a released terminal are gone (02 R35 step 5). -/
theorem State.releaseTerminal_watches :
    (s.releaseTerminal t).1.wnu.watches = s.wnu.watches.filter fun w => w.terminal != t := by
  rw [State.releaseTerminal_fst]
  refine congrArg (List.filter fun w : Watch => w.terminal != t) ?_
  rw [State.withNoHolder_keeps _ t (fun u => u.wnu.watches) (by simp)]
  exact State.withLeasesExpired_keeps s t (fun u => u.wnu.watches) (by simp)

/-- The records that a released terminal parked have no requester (02 R35 step 7). -/
theorem State.releaseTerminal_apu :
    (s.releaseTerminal t).1.apu = { s.apu with table := s.apu.table.map (fun a =>
      if a.requester = some t then { a with requester := none } else a) } := by
  have hkept : ((s.withLeasesExpired t).withNoHolder t).apu = s.apu :=
    (State.withNoHolder_keeps _ t (fun u => u.apu) (by simp)).trans
      (State.withLeasesExpired_keeps s t (fun u => u.apu) (by simp))
  rw [State.releaseTerminal_fst, State.withoutTerminal, hkept]

/-- The three counts of a release (02 R36). -/
theorem State.releaseTerminal_snd :
    (s.releaseTerminal t).2 =
      { withdrawn := s.tdu.pool.countP fun o => o.any fun x => decide (x.holder = some t) && decide (x.state = .tipWait)
        unheld := s.tdu.pool.countP fun o => o.any fun x => decide (x.holder = some t)
        watches := (s.watchesOf t).length } := by
  have hcounts : (s.releaseTerminal t).2 =
      { withdrawn := ((s.setPresent t false).tendersWhere fun x =>
          decide (x.holder = some t) && decide (x.state = .tipWait)).length
        unheld := ((s.withLeasesExpired t).tendersWhere fun x => decide (x.holder = some t)).length
        watches := (((s.withLeasesExpired t).withNoHolder t).watchesOf t).length } := rfl
  have hheld : ((s.withLeasesExpired t).tendersWhere fun x => decide (x.holder = some t))
      = s.tendersWhere fun x => decide (x.holder = some t) := by
    refine State.tendersWhere_congr
      (State.withLeasesExpired_keeps s t (fun u => u.tdu.pool.length) (by simp [State.expireLease])) fun i => ?_
    rw [State.withLeasesExpired_tender?, State.setPresent_tender?, Option.any_map]
    congr 1
    funext x
    split
    · rw [Tender.expired_holder]
    · rfl
  have hwatches : ((s.withLeasesExpired t).withNoHolder t).wnu.watches = s.wnu.watches :=
    (State.withNoHolder_keeps _ t (fun u => u.wnu.watches) (by simp)).trans
      (State.withLeasesExpired_keeps s t (fun u => u.wnu.watches) (by simp))
  rw [hcounts, hheld, State.tendersWhere_length, State.tendersWhere_length, State.watchesOf, hwatches]
  rfl

end

/-- Writing the default of a list numbered from 1 reads as the default, whether or not there is such an entry. -/
theorem get1_set1_default {α : Type} (l : List α) (n : Nat) (d : α) : get1 (set1 l n d) n d = d := by
  rw [get1_set1]
  split
  · rfl
  next hout =>
    unfold get1
    split
    · rfl
    · exact List.getD_eq_default _ _ (by omega)

/-- Settles O43, step by step of R35; what a step writes with a default reads as that default. -/
theorem releasedTerminalHoldsNothing : Obligations.ReleasedTerminalHoldsNothing := by
  intro s t _ _ _ _ _
  refine ⟨⟨?_, s.releaseTerminal_fmp_lastHeard t⟩, s.releaseTerminal_tender? t, ?_, ⟨s.releaseTerminal_watches t, ?_⟩,
    s.releaseTerminal_apu t, s.releaseTerminal_sst t, s.releaseTerminal_snd t⟩
  · rw [State.isPresent, State.releaseTerminal_fmp]
    exact get1_set1_default _ _ _
  · rw [State.releaseTerminal_fst]
    exact get1_set1_default _ _ _
  · rw [State.releaseTerminal_fst]
    exact get1_set1_default _ _ _

end Sys2Proof.Machine
end

section
/-! The floor server's requests on tables and terminals (02 R34, R36, R37). -/

namespace Sys2Proof.Machine

section
variable {s : State} {h : Hdr}

theorem terminalExists_iff {t : Nat} : terminalExists t = true ↔ 1 ≤ t ∧ t ≤ Config.terminalCount := by
  simp [terminalExists]

theorem State.saving_eq_false (hsave : s.sst.save ≠ .saving) : s.saving = false := by
  simp [State.saving, hsave]

/-! ## SET TABLE (02 R34) -/

theorem mem_tablesFrom {first last table : Nat} : table ∈ tablesFrom first last ↔ first ≤ table ∧ table ≤ last := by
  rw [tablesFrom, List.mem_range'_1]
  omega

/-- One value written at each of a list of entries (00, Counts and numbering). -/
theorem get1_foldl_set1 {α : Type} (ns : List Nat) (v d : α) {l : List α} (hns : ∀ n ∈ ns, 1 ≤ n ∧ n ≤ l.length)
    (m : Nat) : get1 (ns.foldl (fun l n => set1 l n v) l) m d = if m ∈ ns then v else get1 l m d := by
  induction ns generalizing l with
  | nil => simp
  | cons n ns ih =>
    obtain ⟨h1, h2⟩ := hns n List.mem_cons_self
    rw [List.foldl_cons, ih fun k hk => by simpa using hns k (List.mem_cons_of_mem _ hk), get1_set1_of_mem h1 h2]
    by_cases hm : m ∈ ns <;> simp [hm]

theorem State.setSections_sectionOf {first last : Nat} (hfirst : 1 ≤ first) (hlast : last ≤ s.sst.work.sections.length)
    (sect table : Nat) :
    (s.setSections first last sect).sectionOf table
      = if first ≤ table ∧ table ≤ last then sect else s.sectionOf table := by
  refine (get1_foldl_set1 (tablesFrom first last) sect 0 (fun n hn => ?_) table).trans ?_
  · rw [mem_tablesFrom] at hn
    omega
  · simp only [mem_tablesFrom]
    rfl

theorem setTable_completes {first last sect : Nat} (hj : Judged s h .floorServer) (hfirst : 1 ≤ first)
    (horder : first ≤ last) (hlast : last ≤ 400) (hsect : sect ≤ 8) (hsave : s.sst.save ≠ .saving)
    (hempty : sect = 0 → ∀ table, first ≤ table → table ≤ last → s.tableList table = []) :
    exec (.setTable h first last sect) s = .next ((s.setSections first last sect).finish h 0x70 .taken
      (countByte ((tablesFrom first last).countP fun table => s.sectionOf table != sect))) := by
  have hseated : (sect == 0 && (tablesFrom first last).any fun t => !(s.tableList t).isEmpty) = false := by
    by_cases hzero : sect = 0
    · simp only [hzero, beq_self_eq_true, Bool.true_and, List.any_eq_false, mem_tablesFrom]
      intro table ⟨h1, h2⟩
      simp [hempty hzero table h1 h2]
    · simp [hzero]
  have hpass : judge
      [(first == 0, rangeField 1),
       (decide (Config.tableCount < last), rangeField 2),
       (decide (last < first), rangeField 2),
       (decide (8 < sect), rangeField 3),
       (s.saving, refuse .busy),
       (sect == 0 && (tablesFrom first last).any fun t => !(s.tableList t).isEmpty, refuse .busy)] = none := by
    have hzero : first ≠ 0 := by omega
    have hbound : ¬ Config.tableCount < last := not_lt.mpr hlast
    simp only [judge_eq_none_cons, judge_nil, hseated, State.saving_eq_false hsave]
    simp [hzero, hbound, horder, hsect]
  exact congrArg Host.Outcome.next (floorRequest_eq_finish hj (judged_of_pass hpass _))

/-! ## SET TERMINAL and FORGET TERMINAL (02 R36, R37) -/

theorem setTerminal_completes {n role mask : Nat} {new : Role} (hj : Judged s h .floorServer) (hfirst : 1 ≤ n)
    (hlast : n ≤ 48) (hrole : Role.ofNat? role = some new) (hsave : s.sst.save ≠ .saving) :
    exec (.setTerminal h n role mask) s = .next
      (((s.writeTerminal n new (BitVec.ofNat 8 mask)).roleChanged n (s.role n) new).finish h 0x71 .taken
        (be1 role ++ be1 mask)) := by
  have hterminal : terminalExists n = true := terminalExists_iff.mpr ⟨hfirst, hlast⟩
  refine congrArg Host.Outcome.next (floorRequest_eq_finish hj ?_)
  simp only [hrole, Option.getD_some]
  exact judged_of_pass (by simp [judge, hterminal, State.saving_eq_false hsave]) _

theorem forgetTerminal_completes {n : Nat} (hj : Judged s h .floorServer) (hfirst : 1 ≤ n) (hlast : n ≤ 48) :
    exec (.forgetTerminal h n) s = .next ((s.releaseTerminal n).1.finish h 0x72 .taken
      (countByte (s.releaseTerminal n).2.withdrawn ++ countByte (s.releaseTerminal n).2.unheld
        ++ countByte (s.releaseTerminal n).2.watches)) := by
  have hterminal : terminalExists n = true := terminalExists_iff.mpr ⟨hfirst, hlast⟩
  exact congrArg Host.Outcome.next (floorRequest_eq_finish hj (judged_of_pass (by simp [judge, hterminal]) _))

end

/-- Settles O19: no test refuses, and what follows a change of role is read off for each new role. -/
theorem floorMapRequestsComplete : Obligations.FloorMapRequestsComplete := by
  refine ⟨fun s h first last sect hj hfirst horder hlast hsect hsave hempty => ?_,
    fun s h n role mask new hj hfirst hlast hrole hsave => ?_,
    fun s h n hj hfirst hlast => forgetTerminal_completes hj hfirst hlast⟩
  · exact ⟨_, setTable_completes hj hfirst horder hlast hsect hsave hempty,
      fun hlen => State.setSections_sectionOf hfirst (hlen ▸ hlast) sect, rfl⟩
  · rw [setTerminal_completes hj hfirst hlast hrole hsave]
    cases new <;> rfl

end Sys2Proof.Machine
end

section
/-! The line records of the pool: every command but a clearing one leaves their number as it was (03 R39). -/

namespace Sys2Proof.Machine

/-! ## Counting line records -/

/-- The line records that a slot of the Check Table holds (03 R39). -/
def slotLines (o : Option Check) : Nat := (o.map fun c => c.lines.length).getD 0

/-- The line records on the live checks (03 R39). -/
def CheckTable.heldLines (t : CheckTable) : Nat := (t.slots.map slotLines).sum

/-- All line records, the free ones and those on live checks (03 R39). -/
def State.allLines (s : State) : Nat := s.freeLines + s.ckt.heldLines

theorem State.sum_liveLines (s : State) : (s.liveChecks.map fun c => c.lines.length).sum = s.ckt.heldLines := by
  unfold State.liveChecks CheckTable.heldLines
  induction s.ckt.slots with
  | nil => rfl
  | cons o l ih => cases o <;> simpa [slotLines] using ih

theorem linesConserved_iff {s : State} : LinesConserved s ↔ s.allLines = Config.lineRecords := by
  rw [LinesConserved, State.sum_liveLines, State.allLines]

theorem State.check?_eq_some_iff {s : State} {i : Nat} {c : Check} :
    s.check? i = some c ↔ s.ckt.slots[i]? = some (some c) := by
  rw [State.check?, Option.join_eq_some_iff]

/-- Writing an entry over takes its weight out of the sum and puts that of the new one in. -/
theorem sum_map_set {α : Type} (f : α → Nat) {l : List α} {i : Nat} {a : α} (h : l[i]? = some a) (b : α) :
    ((l.set i b).map f).sum + f a = (l.map f).sum + f b := by
  induction l generalizing i with
  | nil => simp at h
  | cons x l ih =>
    cases i with
    | zero =>
      obtain rfl : x = a := by simpa using h
      simp only [List.set_cons_zero, List.map_cons, List.sum_cons]
      omega
    | succ i =>
      have hrest := ih (i := i) (by simpa using h)
      simp only [List.set_cons_succ, List.map_cons, List.sum_cons]
      omega

section
variable (s : State)

/-- A check is changed in the slot where it stands. -/
theorem State.modCheck_slots {slot : Nat} {c : Check} (hc : s.check? slot = some c) (f : Check → Check) :
    (s.modCheck slot f).ckt.slots = s.ckt.slots.set slot (some (f c)) := by
  rw [State.check?_eq_some_iff] at hc
  simp [State.modCheck, List.modify_eq_set_getElem?, hc]

/-- A changed check gives back the records it held and takes those it holds now. -/
theorem State.modCheck_heldLines_add {slot : Nat} {c : Check} (hc : s.check? slot = some c) (f : Check → Check) :
    (s.modCheck slot f).ckt.heldLines + c.lines.length = s.ckt.heldLines + (f c).lines.length := by
  rw [CheckTable.heldLines, s.modCheck_slots hc]
  exact sum_map_set slotLines (State.check?_eq_some_iff.mp hc) (some (f c))

/-- A change of a check that keeps its number of lines takes and returns no record. -/
theorem State.modCheck_heldLines_of {slot : Nat} {f : Check → Check}
    (hf : ∀ c, s.check? slot = some c → (f c).lines.length = c.lines.length) :
    (s.modCheck slot f).ckt.heldLines = s.ckt.heldLines := by
  suffices h : (s.ckt.slots.modify slot (Option.map f)).map slotLines = s.ckt.slots.map slotLines from
    congrArg List.sum h
  refine List.ext_getElem? fun j => ?_
  simp only [List.getElem?_map, List.getElem?_modify]
  by_cases hj : slot = j
  · subst hj
    cases ho : s.ckt.slots[slot]? with
    | none => rfl
    | some o =>
      cases o with
      | none => simp
      | some c => simpa [slotLines] using hf c (State.check?_eq_some_iff.mpr ho)
  · simp [hj]

@[simp] theorem State.modCheck_heldLines (slot : Nat) {f : Check → Check}
    (hf : ∀ c, (f c).lines.length = c.lines.length) : (s.modCheck slot f).ckt.heldLines = s.ckt.heldLines :=
  s.modCheck_heldLines_of fun c _ => hf c

@[simp] theorem Check.stepVersion_lines (c : Check) : c.stepVersion.lines = c.lines := rfl

@[simp] theorem State.stepVersion_heldLines (slot : Nat) :
    (s.modCheck slot Check.stepVersion).ckt.heldLines = s.ckt.heldLines :=
  s.modCheck_heldLines slot fun c => by rw [c.stepVersion_lines]

/-- What leaves the Check Table and the free list alone leaves the records alone. -/
theorem State.allLines_congr {s t : State} (h : t.ckt = s.ckt ∧ t.freeLines = s.freeLines) :
    t.allLines = s.allLines := by
  rw [State.allLines, State.allLines, h.1, h.2]

/-! ## Operations that take and return no record -/

@[simp] theorem State.derive_heldLines (b : Bool) (slot : Nat) :
    (s.derive b slot).ckt.heldLines = s.ckt.heldLines := by
  simp only [State.derive]; (repeat' split) <;> simp

@[simp] theorem State.moveTender_heldLines (i : Nat) (f : Tender → Tender) :
    (s.moveTender i f).ckt.heldLines = s.ckt.heldLines := by
  unfold State.moveTender; split <;> simp

@[simp] theorem State.tenderEvent_heldLines (i : Nat) (f : Tender → Tender) :
    (s.tenderEvent i f).ckt.heldLines = s.ckt.heldLines := by
  unfold State.tenderEvent; split <;> simp

@[simp] theorem State.reverseTender_heldLines (i : Nat) (f : Tender → Tender) :
    (s.reverseTender i f).ckt.heldLines = s.ckt.heldLines := by
  simp [State.reverseTender]

@[simp] theorem State.settleAuthorized_heldLines (i : Nat) (b : Bool) (f : Tender → Tender) :
    (s.settleAuthorized i b f).ckt.heldLines = s.ckt.heldLines := by
  unfold State.settleAuthorized; split <;> simp

@[simp] theorem State.endAuth_heldLines (i : Nat) (t : Tender) (e : ExchangeEnd) :
    (s.endAuth i t e).ckt.heldLines = s.ckt.heldLines := by
  cases e <;> simp [State.endAuth]

@[simp] theorem State.endIncrement_heldLines (i : Nat) (t : Tender) (e : ExchangeEnd) :
    (s.endIncrement i t e).ckt.heldLines = s.ckt.heldLines := by
  cases e <;> simp [State.endIncrement]

@[simp] theorem State.endReverse_heldLines (i : Nat) (t : Tender) (e : ExchangeEnd) :
    (s.endReverse i t e).ckt.heldLines = s.ckt.heldLines := by
  cases e <;> simp only [State.endReverse] <;> (repeat' split) <;> simp

@[simp] theorem State.withdraw_heldLines (i : Nat) : (s.withdraw i).ckt.heldLines = s.ckt.heldLines := by
  unfold State.withdraw; (repeat' split) <;> simp

@[simp] theorem State.expireLease_heldLines (i : Nat) : (s.expireLease i).ckt.heldLines = s.ckt.heldLines := by
  simp [State.expireLease]

@[simp] theorem State.addHold_heldLines (slot : Nat) (r : HoldReason) :
    (s.addHold slot r).ckt.heldLines = s.ckt.heldLines := by
  simp only [State.addHold]; (repeat' split) <;> simp

@[simp] theorem State.actDeferred_heldLines (i : Nat) : (s.actDeferred i).ckt.heldLines = s.ckt.heldLines := by
  unfold State.actDeferred; (repeat' split) <;> simp

@[simp] theorem State.releaseHeld_heldLines (slot : Nat) :
    (s.releaseHeld slot).ckt.heldLines = s.ckt.heldLines := by
  unfold State.releaseHeld
  split
  · rfl
  next c _ =>
    simpa using foldl_keeps (fun u => u.ckt.heldLines) State.actDeferred (by simp) c.tenders
      (s.handEvent c.number .released)

@[simp] theorem State.removeHold_heldLines (slot : Nat) (r : HoldReason) :
    (s.removeHold slot r).ckt.heldLines = s.ckt.heldLines := by
  simp only [State.removeHold]; (repeat' split) <;> simp

@[simp] theorem State.park_heldLines (slot term : Nat) (change : Parked) :
    (s.park slot term change).1.ckt.heldLines = s.ckt.heldLines := by
  rw [State.park_fst]; simp only; split <;> simp [State.withRecord]

@[simp] theorem State.moveCheck_heldLines (slot : Nat) (c : Check) (table owner : Nat) :
    (s.moveCheck slot c table owner).ckt.heldLines = s.ckt.heldLines := by
  simp only [State.moveCheck]; split <;> simp

@[simp] theorem State.releaseTerminal_heldLines (t : Nat) :
    (s.releaseTerminal t).1.ckt.heldLines = s.ckt.heldLines := by
  rw [State.releaseTerminal_fst]
  exact ((s.withLeasesExpired t).withNoHolder_keeps t (fun u => u.ckt.heldLines) (by simp)).trans
    (s.withLeasesExpired_keeps t (fun u => u.ckt.heldLines) (by simp))

@[simp] theorem State.startClose_heldLines (slot : Nat) (l : List Nat) :
    (s.startClose slot l).ckt.heldLines = s.ckt.heldLines := by
  unfold State.startClose
  rw [foldl_keeps (fun u => u.ckt.heldLines) State.startCapture (by simp)]
  simp

@[simp] theorem State.beginTender_heldLines (i : Nat) (t : Tender) :
    (s.beginTender i t).ckt.heldLines = s.ckt.heldLines := by
  simp [State.beginTender]

@[simp] theorem State.startTender_heldLines (i : Nat) (t : Tender) (kind : TenderKind) (asked balance : Nat)
    (token : List Byte) : (s.startTender i t kind asked balance token).ckt.heldLines = s.ckt.heldLines := by
  cases kind <;> simp [State.startTender]

@[simp] theorem State.takeTip_heldLines (i : Nat) (t : Tender) (tip : Nat) :
    (s.takeTip i t tip).ckt.heldLines = s.ckt.heldLines := by
  unfold State.takeTip; (repeat' split) <;> simp

@[simp] theorem State.writeOff_heldLines (slot i : Nat) :
    (s.writeOff slot i).ckt.heldLines = s.ckt.heldLines := by
  simp [State.writeOff]

@[simp] theorem State.ackAged_heldLines : s.ackAged.ckt.heldLines = s.ckt.heldLines := by
  simp only [State.ackAged, CheckTable.heldLines, List.map_map]
  congr 1
  refine List.map_congr_left fun o _ => ?_
  cases o with
  | none => rfl
  | some c => simp only [Function.comp_apply, Option.map_some, slotLines]; split <;> rfl

@[simp] theorem State.roleChanged_heldLines (t : Nat) (old new : Role) :
    (s.roleChanged t old new).ckt.heldLines = s.ckt.heldLines := by
  cases new <;> simp only [State.roleChanged] <;> (repeat' split) <;> simp

@[simp] theorem State.loadCopy_heldLines (w : Settings) (loaded : LoadedFrom) :
    (s.loadCopy w loaded).ckt.heldLines = s.ckt.heldLines :=
  foldl_keeps (fun u : State => u.ckt.heldLines) (fun (u : State) t => (u.releaseTerminal t).1)
    (by simp) (s.turnedOff w) _

end

end Sys2Proof.Machine
end

section
/-! Every command takes each line record it uses from the pool, and returns each it frees (03 R39). -/

namespace Sys2Proof.Machine

/-! ## Retirement, new checks and new lines -/

section
variable (s : State)

/-- A retiring check returns its records (01 R21 step 1). -/
@[simp] theorem State.retire_allLines (slot : Nat) : (s.retire slot).allLines = s.allLines := by
  cases hc : s.check? slot with
  | none => rw [State.retire_of_free hc]
  | some c =>
    have hfree : (s.retire slot).freeLines = s.freeLines + c.lines.length := by
      rw [State.retire_of_live hc]; simp [State.cleared_freeLines]
    have hheld : (s.retire slot).ckt.heldLines + c.lines.length = s.ckt.heldLines := by
      rw [CheckTable.heldLines, State.retire_slots hc]
      exact sum_map_set slotLines (State.check?_eq_some_iff.mp hc) none
    unfold State.allLines
    omega

/-- A new check has no line (01 R11). -/
theorem State.placeCheck_allLines {slot : Nat} (hslot : s.freeSlot = some slot)
    (number table covers owner day minute : Nat) :
    (s.placeCheck slot (newCheck number table covers owner day minute)).allLines = s.allLines := by
  obtain ⟨hlt, hnone⟩ := State.freeSlot_spec hslot
  have hfree : s.ckt.slots[slot]? = some none := by
    rw [State.check?, List.getElem?_eq_getElem hlt, Option.join_some] at hnone
    rw [List.getElem?_eq_getElem hlt, hnone]
  have hheld := sum_map_set slotLines hfree (some (newCheck number table covers owner day minute))
  exact congrArg (s.freeLines + ·) hheld

/-- Figures computed anew leave the lines they are computed from (04 R62). -/
theorem recompute_lines {w : Settings} {c c' : Check} (h : recompute w c = .ok c') : c'.lines = c.lines := by
  obtain ⟨-, -, rfl⟩ := recompute_eq_ok h
  rfl

theorem Check.mapLine_lines_length (c : Check) (n : Nat) (f : Line → Line) :
    (c.mapLine n f).lines.length = c.lines.length := List.length_map _

/-- Figures written for a check that has as many lines as before take and return no record. -/
theorem State.writeFigures_allLines {slot : Nat} {c c₁ : Check} (hc : s.check? slot = some c)
    (hlines : c₁.lines.length = c.lines.length) (w : Settings) :
    (s.writeFigures slot (recompute w c₁)).allLines = s.allLines := by
  unfold State.writeFigures
  cases hr : recompute w c₁ with
  | ok c₂ =>
    refine congrArg (s.freeLines + ·) (s.modCheck_heldLines_of fun c' hc' => ?_)
    obtain rfl := Option.some.inj (hc.symm.trans hc')
    rw [Check.stepVersion_lines, recompute_lines hr, hlines]
  | overTotal _ | badSeats _ => rfl

/-- Figures written for a check with n lines more (03 R43). -/
theorem State.writeFigures_heldLines_add {slot n : Nat} {c c₁ : Check} (hc : s.check? slot = some c)
    (hlines : c₁.lines.length = c.lines.length + n) :
    (s.writeFigures slot (.ok c₁)).ckt.heldLines = s.ckt.heldLines + n := by
  have hheld : (s.writeFigures slot (.ok c₁)).ckt.heldLines + c.lines.length = s.ckt.heldLines + c₁.lines.length :=
    s.modCheck_heldLines_add hc fun _ => c₁.stepVersion
  omega

/-- A batch takes from the free list the records of its lines (03 R43, R46). -/
theorem State.takeLines_allLines {slot n : Nat} {c c₁ : Check} (hc : s.check? slot = some c)
    (hlines : c₁.lines.length = c.lines.length + n) (hfree : n ≤ s.freeLines) :
    (s.takeLines slot c n (.ok c₁)).allLines = s.allLines := by
  have hheld := State.writeFigures_heldLines_add { s with freeLines := s.freeLines - n } hc hlines
  have hfigures : (({ s with freeLines := s.freeLines - n } : State).writeFigures slot (.ok c₁)).allLines
      = s.allLines := by
    rw [State.allLines, hheld, State.writeFigures_freeLines, State.allLines]
    show s.freeLines - n + (s.ckt.heldLines + n) = _
    omega
  simp only [State.takeLines]
  split
  · rw [← hfigures]
    simp only [State.allLines, State.handEvent_ckt, State.handEvent_freeLines, State.modCheck_freeLines,
      State.modCheck_heldLines, implies_true]
  · exact hfigures

theorem Check.withLines_lines_length (c : Check) (entries : List LineEntry) (addedBy : Nat) :
    (c.withLines entries addedBy).lines.length = c.lines.length + entries.length := by
  simp [Check.withLines, newLines]

/-! ## Ends of exchanges and approvals -/

theorem State.closeStep_allLines (slot : Nat) : (s.closeStep slot).allLines = s.allLines := by
  simp only [State.closeStep]
  split
  · rfl
  · split
    · rfl
    · split
      · simp
      · simp [State.allLines]

theorem State.endExchange_allLines (k : NeedKind) (i : Nat) (e : ExchangeEnd) :
    (s.endExchange k i e).allLines = s.allLines := by
  unfold State.endExchange
  split
  · rfl
  next t _ =>
    cases k with
    | auth => simp [State.allLines]
    | increment => simp [State.allLines]
    | reverse => simp [State.allLines]
    | capture => exact (State.closeStep_allLines _ _).trans (by simp [State.allLines])

theorem State.completeNoLink_allLines (n : Need) : (s.completeNoLink n).allLines = s.allLines :=
  (State.endExchange_allLines _ _ _ _).trans (State.allLines_congr (by simp))

theorem State.departUp_allLines : s.departUp.allLines = s.allLines :=
  foldl_keeps State.allLines State.completeNoLink State.completeNoLink_allLines _ s

theorem State.raiseTimeouts_allLines : s.raiseTimeouts.allLines = s.allLines := by
  simp only [State.raiseTimeouts]
  split
  · rfl
  · split
    · exact State.departUp_allLines _
    · rfl

theorem State.matchResult_allLines (tag : Nat) (body : List Byte) : (s.matchResult tag body).allLines = s.allLines := by
  unfold State.matchResult
  split
  · rfl
  · split
    · rfl
    · split
      · rfl
      · exact State.endExchange_allLines _ _ _ _

theorem State.endApproval_allLines (a : Approval) (n : Nat) : (s.endApproval a n).allLines = s.allLines := by
  simp [State.endApproval, State.allLines]

/-- A line change that is judged again keeps the number of lines (08 R154). -/
theorem State.applyLine_allLines {slot : Nat} {c c₁ : Check} (hc : s.check? slot = some c)
    (hlines : c₁.lines.length = c.lines.length) (l : Line) :
    ((s.applyLine slot l c₁).state s).allLines = s.allLines := by
  unfold State.applyLine
  cases hr : recompute s.sst.work c₁ with
  | ok c₂ =>
    cases l.void with
    | true => rfl
    | false =>
      refine congrArg (s.freeLines + ·) (s.modCheck_heldLines_of fun c' hc' => ?_)
      obtain rfl := Option.some.inj (hc.symm.trans hc')
      rw [recompute_lines hr, hlines]
  | overTotal _ | badSeats _ => rfl

/-- The second judgement of a parked change takes and returns no record but those of a retiring check (08 R154). -/
theorem State.evaluate_allLines {slot : Nat} {c : Check} (hc : s.check? slot = some c) (change : Parked) :
    ((s.evaluate slot c change).state s).allLines = s.allLines := by
  cases change with
  | voidLine n =>
    simp only [State.evaluate]
    split
    · rfl
    · exact s.applyLine_allLines hc (c.mapLine_lines_length n _) _
  | discountLine n d =>
    simp only [State.evaluate]
    split
    · rfl
    · exact s.applyLine_allLines hc (c.mapLine_lines_length n _) _
  | voidCheck =>
    simp only [State.evaluate]
    split
    · rfl
    · split
      · rfl
      · exact s.retire_allLines slot
  | transferCheck table owner =>
    simp only [State.evaluate, State.applyTransfer]
    (repeat' split) <;> simp [Evaluation.state, State.allLines]

theorem State.approveRecord_allLines {a : Approval} {c : Check} (hc : s.check? a.slot = some c) :
    (s.approveRecord a c).1.allLines = s.allLines := by
  have heval := (s.dropApproval a).evaluate_allLines (slot := a.slot) (by simpa using hc) a.change
  have hdrop : (s.dropApproval a).allLines = s.allLines := rfl
  unfold State.approveRecord
  simp only
  cases he : (s.dropApproval a).evaluate a.slot c a.change with
  | refused code | applied t | retired t =>
    rw [he, hdrop] at heval
    rw [← heval]
    simp [Evaluation.state, State.allLines]

theorem State.recoverTender_allLines (i : Nat) : (s.recoverTender i).allLines = s.allLines := by
  simp only [State.recoverTender]; (repeat' split) <;> simp [State.allLines]

theorem State.settleStart_allLines (changed : List Nat) (slot : Nat) :
    (s.settleStart changed slot).allLines = s.allLines := by
  simp only [State.settleStart]; (repeat' split) <;> simp [State.allLines]

/-- A warm start takes and returns no record (11 R197). -/
theorem State.recoverAll_allLines : s.recoverAll.allLines = s.allLines := by
  have htenders : s.tendersRecovered.allLines = s.allLines :=
    foldl_keeps State.allLines State.recoverTender State.recoverTender_allLines _ s
  have hchecks : (s.tendersRecovered.checksSettled s.recovering).allLines = s.tendersRecovered.allLines :=
    foldl_keeps State.allLines (fun u slot => u.settleStart s.recovering slot)
      (fun u slot => u.settleStart_allLines s.recovering slot) _ _
  rw [State.recoverAll_eq, ← htenders, ← hchecks]
  exact foldl_keeps State.allLines (fun (u : State) i => u.placeNeed i .reverse) (by simp [State.allLines]) _ _

end
end Sys2Proof.Machine
end

section
/-! Every command keeps the number of line records, and a cleared part has them all free (03 R39, 11 R197). -/

namespace Sys2Proof.Machine

/-! ## Requests -/

section
variable {s : State}

theorem State.hear_allLines (t : Nat) : (s.hear t).allLines = s.allLines := State.allLines_congr (by simp)

theorem State.answer_flush_allLines (h : Hdr) (kind : Nat) (r : Reply) :
    (s.answer h kind r).flushPushes.allLines = s.allLines := State.allLines_congr (by simp)

theorem State.frame_allLines {h : Hdr} {kind : Nat} {act : State → State × Reply}
    (hact : ∀ u, (act u).1.allLines = u.allLines) : (s.frame h kind act).allLines = s.allLines := by
  unfold State.frame
  split
  · rfl
  · exact State.allLines_congr (by simp)
  · exact State.allLines_congr (by simp)
  · exact State.allLines_congr (by simp)
  · exact (State.answer_flush_allLines h kind _).trans ((hact _).trans (State.hear_allLines h.term))

theorem judged_allLines {tests : List (Bool × Reply)} {act : State × Reply}
    (hact : judge tests = none → act.1.allLines = s.allLines) : (judged s tests act).1.allLines = s.allLines := by
  unfold judged
  split
  · rfl
  next ht => exact hact ht

theorem State.withCheck_allLines {n : Nat} {k : Nat → Check → State × Reply}
    (hk : ∀ slot c, s.check? slot = some c → (k slot c).1.allLines = s.allLines) :
    (s.withCheck n k).1.allLines = s.allLines := by
  unfold State.withCheck
  split
  · rfl
  · split
    · rfl
    next c hc => exact hk _ c hc

theorem State.withTender_allLines {c : Check} {n : Nat} {k : Nat → Tender → State × Reply}
    (hk : ∀ i t, (k i t).1.allLines = s.allLines) : (s.withTender c n k).1.allLines = s.allLines := by
  unfold State.withTender
  split
  · rfl
  · split
    · rfl
    · exact hk _ _

theorem State.withApproval_allLines {n : Nat} {k : Nat → Check → Approval → State × Reply}
    (hk : ∀ slot c a, s.check? slot = some c → s.approvalOf slot = some a → (k slot c a).1.allLines = s.allLines) :
    (s.withApproval n k).1.allLines = s.allLines := by
  refine State.withCheck_allLines fun slot c hc => ?_
  split
  · rfl
  next a ha => exact hk slot c a hc ha

/-- The next state of a meaning has as many line records as the state it met. -/
def KeepsLines (s : State) (o : Out) : Prop := ∀ t, o = .next t → t.allLines = s.allLines

theorem keepsLines_next {t : State} (h : t.allLines = s.allLines) : KeepsLines s (.next t) := by
  intro u hu
  obtain rfl := Host.Outcome.next.inj hu
  exact h

theorem keepsLines_request {h : Hdr} {kind : Nat} {cls : ReqClass} {act : State → State × Reply}
    (hact : ∀ u, (act u).1.allLines = u.allLines) : KeepsLines s (.next (s.request h kind cls act)) := by
  refine keepsLines_next (State.frame_allLines fun u => ?_)
  split
  · exact hact u
  · rfl

/-- A request on a check is judged and acted on with the check in its slot. -/
theorem keepsLines_onCheck {h : Hdr} {kind n : Nat} {cls : ReqClass} {k : State → Nat → Check → State × Reply}
    (hk : ∀ u slot c, u.check? slot = some c → (k u slot c).1.allLines = u.allLines) :
    KeepsLines s (.next (s.request h kind cls fun u => u.withCheck n (k u))) :=
  keepsLines_request fun u => State.withCheck_allLines (hk u)

theorem keepsLines_malformed (h : Hdr) (kind reason : Nat) : KeepsLines s (.next (s.malformedFrame h kind reason)) :=
  keepsLines_next (State.frame_allLines fun _ => rfl)

/-- The test of a recomputation refuses exactly when the recomputation has not succeeded (04 R62, R66). -/
theorem judge_eq_none_test {t : Tally} {tests : List (Bool × Reply)} :
    judge (t.test :: tests) = none ↔ (∃ c, t = .ok c) ∧ judge tests = none := by
  refine judge_eq_none_cons.trans (and_congr_left' ?_)
  cases t <;> simp [Tally.refusal]

end

section
variable (h : Hdr) (s : State)

theorem execOpenCheck_keepsLines (table covers owner : Nat) : KeepsLines s (execOpenCheck h table covers owner s) := by
  refine keepsLines_request fun u => judged_allLines fun ht => ?_
  simp only [judge_eq_none_cons] at ht
  obtain ⟨-, -, -, -, -, -, hslot, -⟩ := ht
  obtain ⟨slot, hs⟩ := Option.isSome_iff_exists.mp (by simpa using hslot)
  rw [hs]
  exact u.placeCheck_allLines hs _ _ _ _ _ _

theorem execAddLines_keepsLines (check : Nat) (entries : List LineEntry) :
    KeepsLines s (execAddLines h check entries s) := by
  unfold execAddLines
  split
  · exact keepsLines_malformed h _ _
  · refine keepsLines_onCheck fun u slot c hc => judged_allLines fun ht => ?_
    simp only [judge_eq_none_cons, judge_eq_none_test, decide_eq_false_iff_not, Nat.not_lt] at ht
    obtain ⟨-, -, ⟨c₁, hok⟩, -, -, -, -, hfree, -⟩ := ht
    have hlines : c₁.lines.length = c.lines.length + entries.length := by
      rw [recompute_lines hok, c.withLines_lines_length]
    simp only [hok]
    exact u.takeLines_allLines hc hlines hfree

theorem execVoidLine_keepsLines (check line : Nat) : KeepsLines s (execVoidLine h check line s) := by
  refine keepsLines_onCheck fun u slot c hc => ?_
  split
  · rfl
  · split
    · rfl
    · refine judged_allLines fun _ => ?_
      split
      · simp [State.allLines]
      · exact u.writeFigures_allLines hc (c.mapLine_lines_length line _) _

theorem execDiscountLine_keepsLines (check line amount : Nat) :
    KeepsLines s (execDiscountLine h check line amount s) := by
  refine keepsLines_onCheck fun u slot c hc => ?_
  split
  · rfl
  · split
    · rfl
    · refine judged_allLines fun _ => ?_
      split
      · simp [State.allLines]
      · exact u.writeFigures_allLines hc (c.mapLine_lines_length line _) _

theorem execTransferCheck_keepsLines (check table owner : Nat) :
    KeepsLines s (execTransferCheck h check table owner s) := by
  refine keepsLines_onCheck fun u slot c _ => judged_allLines fun _ => ?_
  split <;> simp [State.allLines, State.takenSummary]

theorem execVoidCheck_keepsLines (check : Nat) : KeepsLines s (execVoidCheck h check s) := by
  refine keepsLines_onCheck fun u slot c _ => judged_allLines fun _ => ?_
  split
  · simp [State.allLines]
  · exact u.retire_allLines slot

theorem execCloseCheck_keepsLines (check : Nat) : KeepsLines s (execCloseCheck h check s) := by
  refine keepsLines_onCheck fun u slot c _ => judged_allLines fun _ => ?_
  split
  · exact u.retire_allLines slot
  · simp [State.allLines, State.takenSummary]

theorem execLockSplit_keepsLines (check : Nat) : KeepsLines s (execLockSplit h check s) := by
  refine keepsLines_onCheck fun u slot c hc => ?_
  simp only
  split
  · rfl
  · split
    · split
      · simp [State.allLines]
      · rfl
    · refine judged_allLines fun _ => congrArg (u.freeLines + ·) (u.modCheck_heldLines_of fun c' hc' => ?_)
      obtain rfl := Option.some.inj (hc.symm.trans hc')
      rfl

theorem execStartTender_keepsLines (check portion kind amount : Nat) (token : List Byte) :
    KeepsLines s (execStartTender h check portion kind amount token s) := by
  unfold execStartTender
  split
  · exact keepsLines_malformed h _ _
  · exact keepsLines_onCheck fun u slot c _ => judged_allLines fun _ => by simp [State.allLines]

theorem execSubmitTip_keepsLines (check tender form figure : Nat) :
    KeepsLines s (execSubmitTip h check tender form figure s) := by
  refine keepsLines_onCheck fun u slot c _ => ?_
  split
  · rfl
  · exact State.withTender_allLines fun i t => judged_allLines fun _ => by simp [State.allLines]

theorem execWithdrawTender_keepsLines (check tender : Nat) : KeepsLines s (execWithdrawTender h check tender s) := by
  refine keepsLines_onCheck fun u slot c _ => State.withTender_allLines fun i t => judged_allLines fun _ => ?_
  split <;> simp [State.allLines]

theorem execHoldCheck_keepsLines (check : Nat) : KeepsLines s (execHoldCheck h check s) := by
  refine keepsLines_onCheck fun u slot c _ => judged_allLines fun _ => ?_
  simp only [State.takenSummary]
  split <;> simp [State.allLines]

theorem execApprove_keepsLines (check number : Nat) : KeepsLines s (execApprove h check number s) := by
  refine keepsLines_request fun u => State.withApproval_allLines fun slot c a hc ha => judged_allLines fun _ => ?_
  obtain ⟨-, rfl⟩ := u.approvalOf_spec ha
  exact u.approveRecord_allLines hc

theorem execFetchNextPending_keepsLines : KeepsLines s (execFetchNextPending h s) := by
  refine keepsLines_request fun u => ?_
  split
  · rfl
  · simp [State.allLines]

theorem execLoadSettings_keepsLines (source : Nat) : KeepsLines s (execLoadSettings h source s) := by
  refine keepsLines_request fun u => ?_
  split
  · rfl
  · split
    · rfl
    · exact judged_allLines fun _ => by simp [State.allLines]

end

/-- A request that a transaction carries keeps the number of line records. -/
theorem execRequest_keepsLines (i : Instr) (s : State) : KeepsLines s (execRequest i s) := by
  cases i with
  -- requests that read, and change nothing but what their frame carries
  | hello h | readPartStatus h => exact keepsLines_request fun _ => rfl
  | readCheck h check => exact keepsLines_onCheck fun _ _ _ _ => judged_allLines fun _ => rfl
  | readLines h check first last => exact keepsLines_onCheck fun _ _ _ _ => judged_allLines fun _ => rfl
  | readTable h table => exact keepsLines_request fun _ => judged_allLines fun _ => rfl
  | readSetting h number => exact keepsLines_request fun _ => judged_allLines fun _ => rfl
  -- requests on checks and lines
  | openCheck h table covers owner => exact execOpenCheck_keepsLines h s table covers owner
  | updateCheck h check covers =>
    exact keepsLines_onCheck fun u _ c hc => judged_allLines fun _ =>
      u.writeFigures_allLines (c₁ := { c with covers }) hc rfl _
  | presentCheck h check =>
    exact keepsLines_onCheck fun _ _ _ _ => judged_allLines fun _ => by simp [State.takenSummary, State.allLines]
  | transferCheck h check table owner => exact execTransferCheck_keepsLines h s check table owner
  | voidCheck h check => exact execVoidCheck_keepsLines h s check
  | closeCheck h check => exact execCloseCheck_keepsLines h s check
  | addLines h check entries => exact execAddLines_keepsLines h s check entries
  | voidLine h check line => exact execVoidLine_keepsLines h s check line
  | discountLine h check line amount => exact execDiscountLine_keepsLines h s check line amount
  -- requests on plans
  | setSplit h check kind count =>
    exact keepsLines_onCheck fun _ _ _ _ => judged_allLines fun _ => by simp [State.takenSummary, State.allLines]
  | setPortion h check portion amount =>
    exact keepsLines_onCheck fun _ _ _ _ => judged_allLines fun _ => by simp [State.allLines]
  | lockSplit h check => exact execLockSplit_keepsLines h s check
  -- requests on tenders
  | startTender h check portion kind amount token =>
    exact execStartTender_keepsLines h s check portion kind amount token
  | submitTip h check tender form figure => exact execSubmitTip_keepsLines h s check tender form figure
  | withdrawTender h check tender => exact execWithdrawTender_keepsLines h s check tender
  | fetchStatus h check tender =>
    exact keepsLines_onCheck fun _ _ _ _ => State.withTender_allLines fun _ _ => judged_allLines fun _ => by
      simp [State.allLines]
  | abandonTender h check tender =>
    exact keepsLines_onCheck fun _ _ _ _ => State.withTender_allLines fun _ _ => judged_allLines fun _ => by
      simp [State.allLines]
  -- requests on holds and approvals
  | holdCheck h check => exact execHoldCheck_keepsLines h s check
  | releaseCheck h check =>
    exact keepsLines_onCheck fun _ _ _ _ => judged_allLines fun _ => by simp [State.takenSummary, State.allLines]
  | approve h check number => exact execApprove_keepsLines h s check number
  | reject h check number =>
    exact keepsLines_request fun u => State.withApproval_allLines fun _ _ a _ _ => judged_allLines fun _ =>
      u.endApproval_allLines a 17
  -- requests on watches, notices, the floor map, the settings and the clock
  | setWatch h check mask => exact keepsLines_onCheck fun _ _ _ _ => judged_allLines fun _ => rfl
  | dropWatch h check => exact keepsLines_request fun _ => judged_allLines fun _ => rfl
  | fetchHits h => exact keepsLines_request fun _ => rfl
  | fetchNextPending h => exact execFetchNextPending_keepsLines h s
  | ackNoticeStartup h source => exact keepsLines_request fun _ => judged_allLines fun _ => rfl
  | ackNoticeAged h => exact keepsLines_request fun _ => by simp [State.allLines]
  | setTable h first last sect => exact keepsLines_request fun _ => judged_allLines fun _ => rfl
  | setTerminal h terminal role mask =>
    exact keepsLines_request fun _ => judged_allLines fun _ => by simp [State.allLines]
  | forgetTerminal h terminal => exact keepsLines_request fun _ => judged_allLines fun _ => by simp [State.allLines]
  | setSetting h number value => exact keepsLines_request fun _ => judged_allLines fun _ => rfl
  | saveSettings h => exact keepsLines_request fun _ => judged_allLines fun _ => rfl
  | loadSettings h source => exact execLoadSettings_keepsLines h s source
  | setClock h day minute => exact keepsLines_request fun _ => judged_allLines fun _ => rfl
  | clearLinkFault h => exact keepsLines_request fun _ => by simp [State.allLines]
  -- frames that are no well-formed request
  | malformedRequest h kind bodyLen =>
    simp only [execRequest, execMalformedRequest]
    split
    · exact keepsLines_next rfl
    · exact keepsLines_malformed h kind _
  | tagZeroFrame port =>
    simp only [execRequest, execTagZeroFrame]
    split
    · exact keepsLines_next (State.allLines_congr (by simp))
    · exact keepsLines_next rfl
  | crcErrorFrame _ | frameLenError _ _ | frameIdleTimeout _ _ | requestOverrun _ | fhpTransaction _
  | outputFrameSent _ | result _ _ | nonResultFrame _ | exchangeTimeout _ | grant | noLinkCompletion
  | linkOkFall | linkOkRise | leaseExpiry _ _ | approvalExpiry _ | terminalSilence _ | checkAged _
  | secondTick | minuteTick | saveEnd _ | resetAssert _ | coldStart _ | warmStart _
  | clockAdvanceWithoutPower _ | retentionIndicatorLost => exact keepsLines_next rfl

end Sys2Proof.Machine
end

section
/-! Every event keeps the number of line records, and a clearing one has them all free: so does every step (03 R39,
11 R196, R197). -/

namespace Sys2Proof.Machine

section
variable (s : State)

theorem State.takeIncoming_allLines (bytes : List Byte) : (s.takeIncoming bytes).allLines = s.allLines := by
  unfold State.takeIncoming
  split
  · rfl
  · exact State.allLines_congr (by simp)
  · exact State.allLines_congr (by simp)
  · split
    · rfl
    next i _ =>
      cases ho : execRequest i s with
      | next t => exact execRequest_keepsLines i s t ho
      | fault _ | refused _ => rfl

theorem execFhpTransaction_keepsLines (bytes : List Byte) : KeepsLines s (execFhpTransaction bytes s) := by
  refine keepsLines_next ?_
  split
  · rfl
  · split
    · rfl
    · exact (State.allLines_congr (by simp)).trans (s.takeIncoming_allLines bytes)

theorem execFrameIdleTimeout_keepsLines (port : StreamPort) (count : Nat) :
    KeepsLines s (execFrameIdleTimeout port count s) := by
  refine keepsLines_next ?_
  split
  · rfl
  · split
    · exact State.allLines_congr (by simp)
    · split
      · rfl
      · exact State.allLines_congr (by simp)
    · exact State.allLines_congr (by simp)
    · exact State.allLines_congr (by simp)

theorem execOutputFrameSent_keepsLines (port : StreamPort) : KeepsLines s (execOutputFrameSent port s) := by
  refine keepsLines_next ?_
  split
  · rfl
  · cases port with
    | flp => dsimp only; split <;> rfl
    | aqp => rfl

theorem execResult_keepsLines (tag : Nat) (body : List Byte) : KeepsLines s (execResult tag body s) := by
  refine keepsLines_next ?_
  split
  · rfl
  · split
    · rfl
    · exact s.clearTimeouts.matchResult_allLines tag body

theorem execExchangeTimeout_keepsLines (tag : Nat) : KeepsLines s (execExchangeTimeout tag s) := by
  refine keepsLines_next ?_
  split
  · rfl
  · split
    · rfl
    · split
      · exact (State.endExchange_allLines _ _ _ _).trans (State.raiseTimeouts_allLines _)
      · rfl

theorem execGrant_keepsLines : KeepsLines s (execGrant s) := by
  refine keepsLines_next ?_
  split
  · split
    · rfl
    · split <;> rfl
  · rfl

theorem execNoLinkCompletion_keepsLines : KeepsLines s (execNoLinkCompletion s) := by
  refine keepsLines_next ?_
  split
  · split
    · rfl
    · exact s.completeNoLink_allLines _
  · rfl

theorem execLinkOkFall_keepsLines : KeepsLines s (execLinkOkFall s) := by
  refine keepsLines_next ?_
  simp only
  split
  · exact ((s.setLinkOk false).setLink .down).departUp_allLines
  · rfl

theorem execLeaseExpiry_keepsLines (check tender : Nat) : KeepsLines s (execLeaseExpiry check tender s) := by
  refine keepsLines_next ?_
  split
  · rfl
  · split
    · rfl
    · split
      · simp [State.allLines]
      · rfl

theorem execApprovalExpiry_keepsLines (number : Nat) : KeepsLines s (execApprovalExpiry number s) := by
  refine keepsLines_next ?_
  split
  · rfl
  next a _ =>
    split
    · exact (s.doneApproval number).endApproval_allLines a 18
    · rfl

theorem execCheckAged_keepsLines (check : Nat) : KeepsLines s (execCheckAged check s) := by
  refine keepsLines_next ?_
  split
  · rfl
  · split
    · rfl
    · split
      · simp [State.allLines]
      · rfl

theorem execSecondTick_keepsLines : KeepsLines s (execSecondTick s) := by
  refine keepsLines_next ?_
  simp only
  split
  · split <;> rfl
  · rfl

theorem execWarmStart_keepsLines (selLow : Bool) : KeepsLines s (execWarmStart selLow s) := by
  refine keepsLines_next ?_
  split
  · exact State.recoverAll_allLines _
  · rfl

theorem execClockAdvanceWithoutPower_keepsLines (seconds : Nat) :
    KeepsLines s (execClockAdvanceWithoutPower seconds s) := by
  refine keepsLines_next ?_
  split
  · simp only
    split
    · rw [State.passMinutes_frame]; rfl
    · rfl
  · rfl

/-- An event that leaves the checks and the free list alone where its condition holds, and everything where it does
not. -/
theorem keepsLines_ite {b : Prop} [Decidable b] {t : State} (h : t.ckt = s.ckt ∧ t.freeLines = s.freeLines) :
    KeepsLines s (.next (if b then t else s)) := by
  refine keepsLines_next ?_
  split
  · exact State.allLines_congr h
  · rfl

end

/-- Every command but the two that clear retained memory keeps the number of line records (03 R39). -/
theorem exec_keepsLines {i : Instr} (hcold : ∀ selLow, i ≠ .coldStart selLow) (hlost : i ≠ .retentionIndicatorLost)
    (s : State) : KeepsLines s (exec i s) := by
  by_cases hi : (requestOf i).isSome = true
  · rw [exec_eq_execRequest hi]
    exact execRequest_keepsLines i s
  cases i with
  | malformedRequest h kind bodyLen => exact execRequest_keepsLines (.malformedRequest h kind bodyLen) s
  | tagZeroFrame port => exact execRequest_keepsLines (.tagZeroFrame port) s
  | crcErrorFrame port => exact keepsLines_ite s (by simp)
  | frameLenError port len => exact keepsLines_ite s (by simp)
  | frameIdleTimeout port count => exact execFrameIdleTimeout_keepsLines s port count
  | requestOverrun port => exact keepsLines_ite s (by simp)
  | fhpTransaction bytes => exact execFhpTransaction_keepsLines s bytes
  | outputFrameSent port => exact execOutputFrameSent_keepsLines s port
  | result tag body => exact execResult_keepsLines s tag body
  | nonResultFrame kind => exact keepsLines_ite s ⟨rfl, rfl⟩
  | exchangeTimeout tag => exact execExchangeTimeout_keepsLines s tag
  | grant => exact execGrant_keepsLines s
  | noLinkCompletion => exact execNoLinkCompletion_keepsLines s
  | linkOkFall => exact execLinkOkFall_keepsLines s
  | linkOkRise => exact keepsLines_ite (s.setLinkOk true) ⟨rfl, rfl⟩
  | leaseExpiry check tender => exact execLeaseExpiry_keepsLines s check tender
  | approvalExpiry number => exact execApprovalExpiry_keepsLines s number
  | terminalSilence terminal => exact keepsLines_ite s ⟨rfl, rfl⟩
  | checkAged check => exact execCheckAged_keepsLines s check
  | secondTick => exact execSecondTick_keepsLines s
  | minuteTick => exact keepsLines_ite s ⟨rfl, rfl⟩
  | saveEnd matched => exact keepsLines_ite s ⟨rfl, rfl⟩
  | resetAssert cause => cases cause <;> exact keepsLines_next rfl
  | coldStart selLow => exact absurd rfl (hcold selLow)
  | warmStart selLow => exact execWarmStart_keepsLines s selLow
  | clockAdvanceWithoutPower seconds => exact execClockAdvanceWithoutPower_keepsLines s seconds
  | retentionIndicatorLost => exact absurd rfl hlost
  | _ => exact absurd rfl hi

/-- Cleared memory has every line record free (11 R197). -/
theorem linesConserved_of_cleared {t : State} (hckt : t.ckt = State.reset.ckt)
    (hfree : t.freeLines = State.reset.freeLines) : LinesConserved t :=
  linesConserved_iff.mpr
    ((State.allLines_congr ⟨hckt, hfree⟩).trans (linesConserved_iff.mp State.reset_linesConserved))

theorem execColdStart_linesConserved {s t : State} {selLow : Bool} (ht : execColdStart selLow s = .next t)
    (hs : LinesConserved s) : LinesConserved t := by
  obtain rfl := Host.Outcome.next.inj ht
  split
  · exact linesConserved_of_cleared rfl rfl
  · exact hs

theorem execRetentionIndicatorLost_linesConserved {s t : State} (ht : execRetentionIndicatorLost s = .next t)
    (hs : LinesConserved s) : LinesConserved t := by
  obtain rfl := Host.Outcome.next.inj ht
  split
  · exact linesConserved_of_cleared rfl rfl
  · exact hs

/-- Every command keeps each line record free or on one live check (03 R39). -/
theorem exec_linesConserved {i : Instr} {s t : State} (ht : exec i s = .next t) (hs : LinesConserved s) :
    LinesConserved t := by
  by_cases hcold : ∃ selLow, i = .coldStart selLow
  · obtain ⟨selLow, rfl⟩ := hcold
    exact execColdStart_linesConserved ht hs
  by_cases hlost : i = .retentionIndicatorLost
  · subst hlost
    exact execRetentionIndicatorLost_linesConserved ht hs
  have hkept := exec_keepsLines (fun selLow he => hcold ⟨selLow, he⟩) hlost s t ht
  exact linesConserved_iff.mpr (hkept.trans (linesConserved_iff.mp hs))

/-- Settles O49: a step carries out the front command, and the queue holds no line record. -/
theorem linesConservedByEveryStep : Obligations.LinesConservedByEveryStep := by
  intro s t hstep hs
  unfold step at hstep
  split at hstep
  · obtain rfl := Host.Outcome.next.inj hstep
    exact hs
  next c rest _ => exact exec_linesConserved (s := { s with pending := rest }) hstep hs

end Sys2Proof.Machine
end

section
/-! The requests on lines that are carried out (03 R40 to R52). -/

namespace Sys2Proof.Machine

section
variable {s : State} {h : Hdr} {number slot : Nat} {c c' : Check}

/-- Figures computed anew leave the version of the check, which steps when they are written (04 R71). -/
theorem recompute_version {w : Settings} (hok : recompute w c = .ok c') : c'.version = c.version := by
  obtain ⟨-, -, rfl⟩ := recompute_eq_ok hok
  rfl

/-- Figures that were computed are written with one version step (01 R4, 03 R43). -/
theorem State.writeFigures_ok {u : State} {w : Settings} {c₁ : Check} (hok : recompute w c₁ = .ok c')
    (hversion : c₁.version = c.version) :
    u.writeFigures slot (.ok c') = u.modCheck slot fun _ => { c' with version := nextVersion c.version } := by
  rw [State.writeFigures, Check.stepVersion, recompute_version hok, hversion]

/-- The summary of the check that stands in a slot (01 R12). -/
theorem summaryAt_of_check {u : State} {d : Check} (hd : u.check? slot = some d) (hfck : u.fck = s.fck) :
    u.summaryAt slot = s.summary d := by
  rw [State.summaryAt, hd]
  exact summary_of_fck hfck d

/-- The summary that an answer carries of a check just written (01 R12). -/
theorem summaryAt_modCheck {u : State} (hc : u.check? slot = some c) (hfck : u.fck = s.fck) (d : Check) :
    (u.modCheck slot fun _ => d).summaryAt slot = s.summary d :=
  summaryAt_of_check (by simp [hc]) (by simpa using hfck)

theorem voidLine_completes {line : Nat} {l : Line} (hj : Judged s h .change) (hn : Named s number slot c)
    (hmay : s.mayChange h.term c = true) (hline : c.line? line = some l) (hvoid : l.void = false)
    (hok : recompute s.sst.work (c.withVoid line) = .ok c') (hready : Ready c h) (hopen : c.orderable = true)
    (hfree : s.isServer h.term = true → c.state ≠ .presented) :
    exec (.voidLine h number line) s = .next
      (((s.hear h.term).modCheck slot fun _ => { c' with version := nextVersion c.version }).finish h 0x21 .taken
        (be1 line ++ be4 (l.gross - l.discount) ++ s.summary { c' with version := nextVersion c.version })) := by
  obtain ⟨hstale, hheld⟩ := hready
  have hparks : (s.isServer h.term && decide (c.state = .presented)) = false := by
    simpa using hfree
  have hnet : l.net = l.gross - l.discount := by simp [Line.net, hvoid]
  refine congrArg Host.Outcome.next (request_eq_finish hj ?_)
  rw [withCheck_of_named (hn.hear _)]
  simp only [State.hear_mayChange, hmay, hline, Bool.not_true, Bool.false_eq_true, if_false, State.hear_isServer,
    hparks, State.hear_sst, hok, State.writeFigures_ok hok (c := c) rfl,
    summaryAt_modCheck (hn.hear h.term).2 (s.hear_fck _)]
  rw [judged_of_pass, hnet]
  simp [judge_eq_none_cons, judge_nil, State.parkTests, hstale, hheld, hopen, hvoid, Tally.test, Tally.refusal]

theorem discountLine_completes {line amount : Nat} {l : Line} (hj : Judged s h .change) (hn : Named s number slot c)
    (hmay : s.mayChange h.term c = true) (hline : c.line? line = some l) (hvoid : l.void = false)
    (hamount : amount ≤ 99999999) (hok : recompute s.sst.work (c.withDiscount line (min amount l.gross)) = .ok c')
    (hready : Ready c h) (hopen : c.orderable = true)
    (hlimit : s.isServer h.term = true → min amount l.gross ≤ l.gross * s.setting 14 / 100000) :
    exec (.discountLine h number line amount) s = .next
      (((s.hear h.term).modCheck slot fun _ => { c' with version := nextVersion c.version }).finish h 0x22 .taken
        (be1 line ++ be4 amount ++ be4 (min amount l.gross) ++ be4 (l.gross - min amount l.gross)
          ++ s.summary { c' with version := nextVersion c.version })) := by
  obtain ⟨hstale, hheld⟩ := hready
  have hparks : (s.isServer h.term && decide (discountLimit s.sst.work l.gross < min amount l.gross)) = false := by
    simp only [Bool.and_eq_false_imp, decide_eq_false_iff_not, not_lt]
    exact hlimit
  have hmax : ¬ Config.maxAmount < amount := Nat.not_lt_of_le hamount
  refine congrArg Host.Outcome.next (request_eq_finish hj ?_)
  rw [withCheck_of_named (hn.hear _)]
  simp only [State.hear_mayChange, hmay, hline, Bool.not_true, Bool.false_eq_true, if_false, State.hear_isServer,
    hparks, State.hear_sst, hok, State.writeFigures_ok hok (c := c) rfl,
    summaryAt_modCheck (hn.hear h.term).2 (s.hear_fck _)]
  rw [judged_of_pass]
  simp [judge_eq_none_cons, judge_nil, State.parkTests, hstale, hheld, hopen, hvoid, Tally.test, Tally.refusal, hmax]

/-- The records of a batch have left the free list (03 R43). -/
def State.withFewerLines (u : State) (n : Nat) : State := { u with freeLines := u.freeLines - n }

/-- A check as a batch of lines leaves it, from the figures computed for it (03 R43, R47). -/
def Check.ordered (c c' : Check) : Check := { c' with version := nextVersion c.version, state := .opened }

/-- A batch of lines writes its figures with one version step, leaves the check OPEN, and hands on REOPENED from
PRESENTED (03 R43, R47). -/
theorem State.takeLines_eq {u : State} {w : Settings} {entries : List LineEntry} {term : Nat}
    (hok : recompute w (c.withLines entries term) = .ok c') (hopen : c.orderable = true) (n : Nat) :
    u.takeLines slot c n (.ok c')
      = let v := (u.withFewerLines n).modCheck slot fun _ => c.ordered c'
        if c.state = .presented then v.handEvent c.number .reopened else v := by
  have hstate : c'.state = c.state := by
    obtain ⟨-, -, rfl⟩ := recompute_eq_ok hok
    rfl
  simp only [State.takeLines, State.writeFigures_ok hok (c := c) rfl]
  split
  · rw [State.modCheck_modCheck]
    rfl
  next hne =>
    have hopened : c'.state = .opened := hstate.trans ((Check.orderable_iff.mp hopen).resolve_right hne)
    rw [Check.ordered, ← hopened]
    rfl

/-- The check that a batch was added to stands in its slot as the batch leaves it (03 R43, R47). -/
theorem State.takeLines_check? {u : State} {w : Settings} {entries : List LineEntry} {term : Nat}
    (hc : u.check? slot = some c) (hok : recompute w (c.withLines entries term) = .ok c') (hopen : c.orderable = true)
    (n : Nat) : (u.takeLines slot c n (.ok c')).check? slot = some (c.ordered c') := by
  have hwritten : ((u.withFewerLines n).modCheck slot fun _ => c.ordered c').check? slot = some (c.ordered c') := by
    rw [State.modCheck_check?_self, show (u.withFewerLines n).check? slot = some c from hc, Option.map_some]
  rw [State.takeLines_eq hok hopen]
  dsimp only
  split
  · rw [State.handEvent_check?, hwritten]
  · exact hwritten

theorem addLines_completes {entries : List LineEntry} (hj : Judged s h .change) (hn : Named s number slot c)
    (hmay : s.mayChange h.term c = true) (h1 : 1 ≤ entries.length) (h8 : entries.length ≤ 8)
    (hgood : firstBadEntry 1 entries = none) (hok : recompute s.sst.work (c.withLines entries h.term) = .ok c')
    (hready : Ready c h) (hopen : c.orderable = true) (hnumbers : c.nextLine + entries.length ≤ 121)
    (hfree : entries.length ≤ s.freeLines) :
    exec (.addLines h number entries) s = .next
      ((fun t : State => (if c.state = .presented then t.handEvent number .reopened else t).finish h 0x20 .taken
          (be1 c.nextLine ++ be1 entries.length
            ++ s.summary { c' with version := nextVersion c.version, state := .opened }))
        (({ s.hear h.term with freeLines := s.freeLines - entries.length } : State).modCheck slot fun _ =>
          { c' with version := nextVersion c.version, state := .opened })) := by
  obtain ⟨hstale, hheld⟩ := hready
  obtain rfl := hn.number_eq
  have hlength : ¬(entries.length = 0 ∨ 8 < entries.length) := by omega
  have hmax : ¬ Config.maxLineNumber + 1 < c.nextLine + entries.length := Nat.not_lt_of_le hnumbers
  have hroom : ¬ s.freeLines < entries.length := Nat.not_lt_of_le hfree
  have hsummary : ((s.hear h.term).takeLines slot c entries.length (.ok c')).summaryAt slot
      = s.summary (c.ordered c') :=
    summaryAt_of_check (State.takeLines_check? (hn.hear h.term).2 hok hopen _) (by simp)
  show Host.Outcome.next (if entries.length = 0 ∨ 8 < entries.length then _ else _) = _
  rw [if_neg hlength]
  refine congrArg Host.Outcome.next (request_eq_finish hj ?_)
  rw [State.addBatch, withCheck_of_named (hn.hear _), State.hear_sst, hok]
  dsimp only
  rw [judged_of_pass, hsummary, State.takeLines_eq hok hopen, State.withFewerLines, State.hear_freeLines]
  · rfl
  · simp [judge_eq_none_cons, judge_nil, hmay, hstale, hheld, hopen, hgood, Tally.test, Tally.refusal, hmax, hroom]

end

/-- Settles O11: under its hypotheses no test of the three requests refuses, and none of them is parked. -/
theorem lineRequestsComplete : Obligations.LineRequestsComplete :=
  ⟨fun _ _ _ _ _ _ _ hj hn hmay h1 h8 hgood hok hready hopen hnumbers hfree =>
      addLines_completes hj hn hmay h1 h8 hgood hok hready hopen hnumbers hfree,
    fun _ _ _ _ _ _ _ _ hj hn hmay hline hvoid hok hready hopen hfree =>
      voidLine_completes hj hn hmay hline hvoid hok hready hopen hfree,
    fun _ _ _ _ _ _ _ _ _ hj hn hmay hline hvoid hamount hok hready hopen hlimit =>
      discountLine_completes hj hn hmay hline hvoid hamount hok hready hopen hlimit⟩

end Sys2Proof.Machine
end

section
/-! The hold ceiling of one tender, and what each change of a tender does to the money it is authorized for
(04 R76 to R78). -/

namespace Sys2Proof.Machine

/-! ## What is kept of one tender -/

/-- What CeilingsHold says of one tender (04 R76 to R78). -/
structure Tender.Ceiled (x : Tender) : Prop where
  within : x.state = .authorized ∨ x.state = .capturing ∨ x.state = .authorizing .increment →
    ∃ a t, x.authTotal = some a ∧ x.tolerance = some t ∧ x.amount + x.tip ≤ a + a * t / 100000
  above : x.state = .authorizing .increment →
    ∃ h ceiling, x.heldTip = some h ∧ x.ceiling = some ceiling ∧ ceiling < x.amount + h
  waiting : x.state = .tipWait → x.authTotal = none
  asking : x.state = .authorizing .auth → x.authTotal = none ∧ x.authAmount = some (x.amount + x.tip)

theorem ceilingsHold_iff {s : State} : CeilingsHold s ↔ ∀ i x, s.tender? i = some x → x.Ceiled :=
  forall₃_congr fun _ _ _ => ⟨fun ⟨h₁, h₂, h₃, h₄⟩ => ⟨h₁, h₂, h₃, h₄⟩, fun ⟨h₁, h₂, h₃, h₄⟩ => ⟨h₁, h₂, h₃, h₄⟩⟩

/-- The authorized total of a tender has not fallen, and its tolerance is the one written with it (04 R76). -/
def Tender.Grows (x y : Tender) : Prop :=
  ∀ a, x.authTotal = some a → ∃ b, y.authTotal = some b ∧ a ≤ b ∧ y.tolerance = x.tolerance

theorem Tender.Grows.of_eq {x y : Tender} (htotal : y.authTotal = x.authTotal)
    (htolerance : y.tolerance = x.tolerance) : x.Grows y := fun a ha => ⟨a, htotal.trans ha, le_rfl, htolerance⟩

theorem Tender.Grows.of_none {x y : Tender} (h : x.authTotal = none) : x.Grows y := fun a ha => by simp [h] at ha

theorem Tender.Grows.trans {x y z : Tender} (hxy : x.Grows y) (hyz : y.Grows z) : x.Grows z := by
  intro a ha
  obtain ⟨b, hb, hab, htb⟩ := hxy a ha
  obtain ⟨c, hc, hbc, htc⟩ := hyz b hb
  exact ⟨c, hc, hab.trans hbc, htc.trans htb⟩

/-- A change of a tender that keeps the rules of its ceiling, and under them lets its authorized total only grow. -/
def Tender.KeepsCeiling (x y : Tender) : Prop := x.Ceiled → y.Ceiled ∧ x.Grows y

theorem Tender.KeepsCeiling.trans {x y z : Tender} (hxy : x.KeepsCeiling y) (hyz : y.KeepsCeiling z) :
    x.KeepsCeiling z := fun hx => ⟨(hyz (hxy hx).1).1, (hxy hx).2.trans (hyz (hxy hx).1).2⟩

/-- The fields of a tender that its ceiling speaks of. -/
def Tender.funds (x : Tender) :=
  ((x.state, x.amount, x.tip, x.heldTip), x.authTotal, x.tolerance, x.authAmount)

/-- A change of the other fields of a tender does not touch its ceiling. -/
theorem Tender.KeepsCeiling.of_funds {x y : Tender} (h : y.funds = x.funds) : x.KeepsCeiling y := by
  simp only [Tender.funds, Prod.mk.injEq] at h
  obtain ⟨⟨hstate, hamount, htip, hheld⟩, htotal, htolerance, hauth⟩ := h
  have hceiling : y.ceiling = x.ceiling := by rw [Tender.ceiling, htotal, htolerance, Tender.ceiling]
  rintro ⟨h₁, h₂, h₃, h₄⟩
  refine ⟨⟨?_, ?_, ?_, ?_⟩, .of_eq htotal htolerance⟩
  · rw [hstate, hamount, htip, htotal, htolerance]; exact h₁
  · rw [hstate, hamount, hheld, hceiling]; exact h₂
  · rw [hstate, htotal]; exact h₃
  · rw [hstate, hamount, htip, htotal, hauth]; exact h₄

theorem Tender.KeepsCeiling.refl (x : Tender) : x.KeepsCeiling x := .of_funds rfl

/-- A tender in REVERSING or DONE asks for nothing more (06, 6.2). -/
def TenderState.leaving : TenderState → Bool
  | .reversing => true
  | .done _ => true
  | _ => false

theorem Tender.Ceiled.of_leaving {y : Tender} (h : y.state.leaving = true) : y.Ceiled := by
  constructor <;> intro hs <;> simp_all [TenderState.leaving]
  rcases hs with hs | hs | hs <;> simp [hs] at h

/-! ## Changes of a tender -/

section
variable {x : Tender}

theorem Tender.finish_keepsCeiling (x : Tender) (o : TenderEnd) : x.KeepsCeiling (x.finish o) :=
  fun _ => ⟨.of_leaving rfl, .of_eq rfl rfl⟩

theorem Tender.toReversing_keepsCeiling (x : Tender) : x.KeepsCeiling x.toReversing :=
  fun _ => ⟨.of_leaving rfl, .of_eq rfl rfl⟩

theorem Tender.withStatus_keepsCeiling (x : Tender) (st : Status) : x.KeepsCeiling (x.withStatus st) := by
  refine .of_funds ?_
  unfold Tender.withStatus
  split <;> rfl

/-- An INCREMENT that fails and a capture that fails leave the total and the tip as they were approved (06 R109,
R111). -/
theorem Tender.toAuthorized_keepsCeiling (hx : x.state = .capturing ∨ x.state = .authorizing .increment) :
    x.KeepsCeiling x.toAuthorized :=
  fun hc => ⟨⟨fun _ => hc.within (.inr hx), nofun, nofun, nofun⟩, .of_eq rfl rfl⟩

/-- A capture is for a tip within the ceiling (06 R103). -/
theorem Tender.toCapturing_keepsCeiling (hx : x.state = .authorized ∨ x.state = .capturing) :
    x.KeepsCeiling x.toCapturing :=
  fun hc => ⟨⟨fun _ => hc.within (hx.imp_right .inl), nofun, nofun, nofun⟩, .of_eq rfl rfl⟩

/-- The tip given in TIP_WAIT is asked for with the amount (06 R105, 04 R78). -/
theorem Tender.tipGiven_keepsCeiling (hx : x.state = .tipWait) (tip : Nat) : x.KeepsCeiling (x.tipGiven tip) :=
  fun hc => ⟨⟨nofun, nofun, nofun, fun _ => ⟨hc.waiting hx, rfl⟩⟩, .of_eq rfl rfl⟩

/-- The ceiling of a tender with an authorized total (04 R76). -/
theorem Tender.ceiling_eq {a t : Nat} (ha : x.authTotal = some a) (ht : x.tolerance = some t) :
    x.ceiling = some (a + a * t / 100000) := by
  rw [Tender.ceiling, ha, ht]; rfl

/-- A tip above the ceiling is held while its INCREMENT runs (06 R106, 04 R77). -/
theorem Tender.tipHeld_keepsCeiling {tip : Nat} (hneeds : x.needsIncrement tip = true) :
    x.KeepsCeiling (x.tipHeld tip) := by
  simp only [Tender.needsIncrement, Bool.and_eq_true, decide_eq_true_eq] at hneeds
  obtain ⟨hx, habove⟩ := hneeds
  intro hc
  have hwithin := hc.within (.inl hx)
  obtain ⟨a, t, ha, ht, -⟩ := hwithin
  have hceiling := Tender.ceiling_eq ha ht
  rw [hceiling, Option.getD_some] at habove
  exact ⟨⟨fun _ => hc.within (.inl hx), fun _ => ⟨tip, _, rfl, hceiling, habove⟩, nofun, nofun⟩, .of_eq rfl rfl⟩

/-- A tip within the ceiling is taken at once (06 R106, 04 R77). -/
theorem Tender.newTip_keepsCeiling {tip : Nat} (hx : x.state = .authorized) (hneeds : ¬ x.needsIncrement tip = true) :
    x.KeepsCeiling { x with tip } := by
  simp only [Tender.needsIncrement, hx, decide_true, Bool.true_and, decide_eq_true_eq, Nat.not_lt] at hneeds
  intro hc
  obtain ⟨a, t, ha, ht, -⟩ := hc.within (.inl hx)
  rw [Tender.ceiling_eq ha ht, Option.getD_some] at hneeds
  refine ⟨⟨fun _ => ⟨a, t, ha, ht, hneeds⟩, ?_, ?_, ?_⟩, .of_eq rfl rfl⟩ <;> simp [hx]

/-- An approved AUTH authorizes the amount and the tip it asked for (06 R107, 04 R76). -/
theorem Tender.authApproved_keepsCeiling (hx : x.state = .authorizing .auth) (tolerance : Nat)
    (ref code : Option (List Byte)) :
    x.KeepsCeiling (Tender.toAuthorized
      { x with authTotal := x.authAmount, tolerance := some tolerance, acqRef := ref, approvalCode := code }) := by
  intro hc
  obtain ⟨hnone, hasked⟩ := hc.asking hx
  exact ⟨⟨fun _ => ⟨_, tolerance, hasked, rfl, Nat.le_add_right _ _⟩, nofun, nofun, nofun⟩, .of_none hnone⟩

/-- An approved INCREMENT authorizes the amount and the tip it held, which passed the ceiling and so the old total
(06 R109, 04 R77). -/
theorem Tender.incrementApproved_grows (hx : x.state = .authorizing .increment) (hc : x.Ceiled) {y : Tender}
    (htotal : y.authTotal = some (x.amount + x.heldTip.getD x.tip)) (htolerance : y.tolerance = x.tolerance) :
    x.Grows y := by
  obtain ⟨h, ceiling, hheld, hceiling, habove⟩ := hc.above hx
  obtain ⟨a, t, ha, ht, -⟩ := hc.within (.inr (.inr hx))
  obtain rfl := Option.some.inj ((Tender.ceiling_eq ha ht).symm.trans hceiling)
  intro a' ha'
  obtain rfl := Option.some.inj (ha.symm.trans ha')
  refine ⟨_, htotal, ?_, htolerance⟩
  rw [hheld, Option.getD_some]
  omega

theorem Tender.incrementApproved_keepsCeiling (hx : x.state = .authorizing .increment) (code : Option (List Byte)) :
    x.KeepsCeiling (Tender.toAuthorized
      { x with authTotal := some (x.amount + x.heldTip.getD x.tip), tip := x.heldTip.getD x.tip
               approvalCode := code }) := by
  intro hc
  obtain ⟨-, t, -, ht, -⟩ := hc.within (.inr (.inr hx))
  exact ⟨⟨fun _ => ⟨_, t, rfl, ht, Nat.le_add_right _ _⟩, nofun, nofun, nofun⟩,
    Tender.incrementApproved_grows hx hc rfl rfl⟩

theorem Tender.expired_keepsCeiling (x : Tender) : x.KeepsCeiling x.expired :=
  (x.finish_keepsCeiling .withdrawn).trans (Tender.withStatus_keepsCeiling _ _)

/-- A warm start takes up an INCREMENT or a capture in AUTHORIZED, and no other tender goes there (06 R124). -/
theorem Tender.recover_keepsCeiling (x : Tender) : x.KeepsCeiling x.recover := by
  unfold Tender.recover
  split
  · split
    · exact x.toReversing_keepsCeiling
    · exact x.finish_keepsCeiling .withdrawn
  next hx =>
    split
    · exact x.toReversing_keepsCeiling
    · exact Tender.toAuthorized_keepsCeiling (.inr hx)
  · exact .of_funds rfl
  next hx => exact (Tender.toAuthorized_keepsCeiling (.inl hx)).trans (.of_funds rfl)
  · exact .refl x

theorem Tender.recovered_keepsCeiling (x : Tender) : x.KeepsCeiling x.recovered := by
  unfold Tender.recovered
  split
  · exact x.recover_keepsCeiling.trans (Tender.withStatus_keepsCeiling _ _)
  · exact x.recover_keepsCeiling

theorem Tender.leased_keepsCeiling (x : Tender) (deadline : Nat) (held : Nat → Bool) :
    x.KeepsCeiling (x.leased deadline held) := by
  unfold Tender.leased
  split
  · exact .of_funds rfl
  · exact .refl x

end

/-! ## New tenders -/

theorem Tender.asTipFirst_ceiled {x : Tender} (hx : x.authTotal = none) (token : List Byte) (deadline : Nat) :
    (x.asTipFirst token deadline).Ceiled := ⟨nofun, nofun, fun _ => hx, nofun⟩

theorem Tender.asTipLater_ceiled {x : Tender} (hx : x.authTotal = none) (htip : x.tip = 0) (token : List Byte) :
    (x.asTipLater token).Ceiled := by
  refine ⟨nofun, nofun, nofun, fun _ => ⟨hx, ?_⟩⟩
  show some x.amount = some (x.amount + x.tip)
  rw [htip]
  rfl

end Sys2Proof.Machine
end

section
/-! What the shared operations do to the hold ceilings: each leaves every tender it does not free with its ceiling kept
(04 R76 to R78). -/

namespace Sys2Proof.Machine

/-- Every tender of the state after is one of the state before, its ceiling kept. -/
def KeepsCeilings (s t : State) : Prop :=
  ∀ i y, t.tender? i = some y → ∃ x, s.tender? i = some x ∧ x.KeepsCeiling y

theorem KeepsCeilings.of_map {s t : State} {g : Nat → Tender → Tender}
    (h : ∀ i, t.tender? i = (s.tender? i).map (g i))
    (hg : ∀ i x, s.tender? i = some x → x.KeepsCeiling (g i x)) : KeepsCeilings s t := by
  intro i y hy
  obtain ⟨x, hx, rfl⟩ := Option.map_eq_some_iff.mp ((h i).symm.trans hy)
  exact ⟨x, hx, hg i x hx⟩

/-- A change of the tender with index i alone. -/
theorem KeepsCeilings.of_at {s t : State} {i : Nat} {f : Tender → Tender}
    (h : ∀ j, t.tender? j = if j = i then (s.tender? j).map f else s.tender? j)
    (hf : ∀ x, s.tender? i = some x → x.KeepsCeiling (f x)) : KeepsCeilings s t := by
  intro j y hy
  rw [h] at hy
  split at hy
  next hji =>
    subst hji
    obtain ⟨x, hx, rfl⟩ := Option.map_eq_some_iff.mp hy
    exact ⟨x, hx, hf x hx⟩
  · exact ⟨y, hy, .refl y⟩

theorem KeepsCeilings.of_tender? {s t : State} (h : ∀ i, t.tender? i = s.tender? i) : KeepsCeilings s t :=
  fun i y hy => ⟨y, (h i).symm.trans hy, .refl y⟩

/-- What leaves the tender pool alone leaves the ceilings alone. -/
theorem KeepsCeilings.of_tdu {s t : State} (h : t.tdu = s.tdu) : KeepsCeilings s t :=
  .of_tender? fun i => by rw [State.tender?, State.tender?, h]

/-- Tenders that are freed have no ceiling to keep. -/
theorem KeepsCeilings.of_freed {s t : State} {p : Nat → Prop} [DecidablePred p]
    (h : ∀ i, t.tender? i = if p i then none else s.tender? i) : KeepsCeilings s t := by
  intro i y hy
  rw [h] at hy
  split at hy
  · cases hy
  · exact ⟨y, hy, .refl y⟩

theorem KeepsCeilings.refl (s : State) : KeepsCeilings s s := .of_tdu rfl

theorem KeepsCeilings.trans {s t u : State} (hst : KeepsCeilings s t) (htu : KeepsCeilings t u) :
    KeepsCeilings s u := by
  intro i z hz
  obtain ⟨y, hy, hyz⟩ := htu i z hz
  obtain ⟨x, hx, hxy⟩ := hst i y hy
  exact ⟨x, hx, hxy.trans hyz⟩

theorem KeepsCeilings.foldl {α : Type} {f : State → α → State} (h : ∀ s a, KeepsCeilings s (f s a)) (l : List α)
    (s : State) : KeepsCeilings s (l.foldl f s) := by
  induction l generalizing s with
  | nil => exact .refl s
  | cons a l ih => exact (h s a).trans (ih _)

section
variable {s : State} {i : Nat} {f : Tender → Tender}

/-! ## Single records -/

theorem State.modTender_keepsCeilings (hf : ∀ x, s.tender? i = some x → x.KeepsCeiling (f x)) :
    KeepsCeilings s (s.modTender i f) :=
  .of_at (fun j => by rw [State.modTender_tender?]; simp only [eq_comm]) hf

theorem State.tenderEvent_keepsCeilings (hf : ∀ x, s.tender? i = some x → x.KeepsCeiling (f x)) :
    KeepsCeilings s (s.tenderEvent i f) := .of_at (s.tenderEvent_tender? i f) hf

theorem State.placeNeed_keepsCeilings (s : State) (i : Nat) (k : NeedKind) : KeepsCeilings s (s.placeNeed i k) :=
  State.modTender_keepsCeilings fun _ _ => .of_funds rfl

theorem State.setStatus_keepsCeilings (s : State) (i : Nat) (st : Status) : KeepsCeilings s (s.setStatus i st) :=
  .of_at (s.setStatus_tender? i st) fun x _ => x.withStatus_keepsCeiling st

theorem State.collect_keepsCeilings (s : State) (i : Nat) : KeepsCeilings s (s.collect i) := by
  unfold State.collect
  split
  · exact .refl s
  · split
    · refine .trans (State.modTender_keepsCeilings fun _ _ => ?_) (.of_tender? (State.unlist_tender? _ i _))
      exact .of_funds rfl
    · exact .refl s

theorem State.mapLeases_keepsCeilings (s : State) (slot : Nat) (g : Lease → Lease) :
    KeepsCeilings s (s.mapLeases slot g) :=
  .of_map (s.mapLeases_tender? slot g) fun _ y _ => by
    split
    · exact .of_funds rfl
    · exact .refl y

/-! ## Tender events and ends of exchanges -/

theorem State.reverseTender_keepsCeilings (hf : ∀ x, s.tender? i = some x → x.KeepsCeiling (f x).toReversing) :
    KeepsCeilings s (s.reverseTender i f) :=
  (State.tenderEvent_keepsCeilings hf).trans (State.placeNeed_keepsCeilings _ i .reverse)

/-- A tender that settles in AUTHORIZED keeps its ceiling, and so does one that passes on into REVERSING (06 R107,
R109). -/
theorem State.settleAuthorized_keepsCeilings (withdraw : Bool)
    (hf : ∀ x, s.tender? i = some x → x.KeepsCeiling (f x).toAuthorized) :
    KeepsCeilings s (s.settleAuthorized i withdraw f) := by
  unfold State.settleAuthorized
  split
  · refine State.reverseTender_keepsCeilings fun x hx => (hf x hx).trans ?_
    exact (f x).toAuthorized.toReversing_keepsCeiling.trans (.of_funds rfl)
  · exact State.tenderEvent_keepsCeilings hf

variable {x : Tender}

theorem State.endAuth_keepsCeilings (hx : s.tender? i = some x) (hstate : x.state = .authorizing .auth)
    (e : ExchangeEnd) : KeepsCeilings s (s.endAuth i x e) := by
  have hasking : ∀ y, s.tender? i = some y → y.state = .authorizing .auth := fun y hy =>
    Option.some.inj (hx.symm.trans hy) ▸ hstate
  cases e with
  | approved ref code =>
    exact State.settleAuthorized_keepsCeilings _ fun y hy =>
      Tender.authApproved_keepsCeiling (hasking y hy) (s.setting 13) ref code
  | refused =>
    exact (State.tenderEvent_keepsCeilings fun y _ => y.finish_keepsCeiling .declined).trans
      (State.setStatus_keepsCeilings _ i _)
  | timeout =>
    exact (State.reverseTender_keepsCeilings fun y _ => y.toReversing_keepsCeiling).trans
      (State.setStatus_keepsCeilings _ i _)
  | noLink =>
    exact (State.tenderEvent_keepsCeilings fun y _ => y.finish_keepsCeiling .noLink).trans
      (State.setStatus_keepsCeilings _ i _)

theorem State.endIncrement_keepsCeilings (hx : s.tender? i = some x) (hstate : x.state = .authorizing .increment)
    (e : ExchangeEnd) : KeepsCeilings s (s.endIncrement i x e) := by
  have hraising : ∀ y, s.tender? i = some y → y.state = .authorizing .increment := fun y hy =>
    Option.some.inj (hx.symm.trans hy) ▸ hstate
  cases e with
  | approved ref code =>
    exact State.settleAuthorized_keepsCeilings _ fun y hy => Tender.incrementApproved_keepsCeiling (hraising y hy) code
  | refused | timeout | noLink =>
    refine .trans (State.settleAuthorized_keepsCeilings _ fun y hy => ?_) (State.setStatus_keepsCeilings _ i _)
    exact Tender.toAuthorized_keepsCeiling (.inr (hraising y hy))

theorem State.endReverse_keepsCeilings (s : State) (i : Nat) (x : Tender) (e : ExchangeEnd) :
    KeepsCeilings s (s.endReverse i x e) := by
  cases e with
  | approved ref code =>
    exact (State.tenderEvent_keepsCeilings fun y _ => y.finish_keepsCeiling .reversed).trans
      (State.setStatus_keepsCeilings _ i _)
  | refused | timeout | noLink =>
    simp only [State.endReverse]
    split
    · refine .trans (State.modTender_keepsCeilings fun _ _ => ?_) (State.placeNeed_keepsCeilings _ i .reverse)
      exact .of_funds rfl
    · refine .trans (State.tenderEvent_keepsCeilings fun y _ => ?_) (State.setStatus_keepsCeilings _ i _)
      exact (y.finish_keepsCeiling .reverseUnconfirmed).trans (.of_funds rfl)

/-- The tenders of a check that retires are freed, and no other is touched (01 R21). -/
theorem State.retire_keepsCeilings (s : State) (slot : Nat) : KeepsCeilings s (s.retire slot) := by
  cases hc : s.check? slot with
  | none => rw [State.retire_of_free hc]; exact .refl s
  | some c => exact .of_freed (State.retire_tender? hc)

theorem State.closeStep_keepsCeilings (s : State) (slot : Nat) : KeepsCeilings s (s.closeStep slot) := by
  simp only [State.closeStep]
  split
  · exact .refl s
  · split
    · exact .refl s
    · split
      · exact s.retire_keepsCeilings slot
      · exact .of_tdu (by simp)

theorem State.endCapture_keepsCeilings (hx : s.tender? i = some x) (hstate : x.state = .capturing) (e : ExchangeEnd) :
    KeepsCeilings s (s.endCapture i x e) := by
  have hcapturing : ∀ y, s.tender? i = some y → y.state = .capturing := fun y hy =>
    Option.some.inj (hx.symm.trans hy) ▸ hstate
  refine KeepsCeilings.trans (State.tenderEvent_keepsCeilings fun y hy => ?_) (State.closeStep_keepsCeilings _ _)
  cases e with
  | approved ref code => exact y.finish_keepsCeiling .captured
  | refused | timeout | noLink =>
    exact (Tender.toAuthorized_keepsCeiling (.inl (hcapturing y hy))).trans (.of_funds rfl)

/-- An exchange that ends for a tender in the state that placed its need keeps the ceiling (06, 6.5). -/
theorem State.endExchange_keepsCeilings {k : NeedKind} (hx : s.tender? i = some x) (hstate : x.state = k.tenderState)
    (e : ExchangeEnd) : KeepsCeilings s (s.endExchange k i e) := by
  simp only [State.endExchange, hx]
  cases k with
  | auth => exact State.endAuth_keepsCeilings hx hstate e
  | increment => exact State.endIncrement_keepsCeilings hx hstate e
  | reverse => exact s.endReverse_keepsCeilings i x e
  | capture => exact State.endCapture_keepsCeilings hx hstate e

/-! ## The departure from UP (07 R129) -/

theorem State.reverseTender_tender?_of_ne {j : Nat} (hj : j ≠ i) : (s.reverseTender i f).tender? j = s.tender? j := by
  show ((s.tenderEvent i _).modTender i _).tender? j = _
  rw [State.modTender_tender?, if_neg (Ne.symm hj), State.tenderEvent_tender?, if_neg hj]

/-- A need completed as NO_LINK changes the record of its own tender alone (07 R129). -/
theorem State.completeNoLink_tender?_of_ne {n : Need} (hn : n.kind.ofHold = true) {j : Nat} (hj : j ≠ n.tender) :
    (s.completeNoLink n).tender? j = s.tender? j := by
  unfold State.completeNoLink State.endExchange
  split
  · exact s.removeNeed_tender? _ j
  next x _ =>
    cases hk : n.kind with
    | auth =>
      simp only [State.endAuth]
      rw [State.setStatus_tender?, if_neg hj, State.tenderEvent_tender?, if_neg hj, State.removeNeed_tender?]
    | increment =>
      simp only [State.endIncrement]
      rw [State.setStatus_tender?, if_neg hj, State.settleAuthorized]
      split
      · rw [State.reverseTender_tender?_of_ne hj, State.removeNeed_tender?]
      · rw [State.tenderEvent_tender?, if_neg hj, State.removeNeed_tender?]
    | reverse | capture => simp [hk, NeedKind.ofHold] at hn

/-- The need names a tender in the state that placed it (07 R132). -/
def Need.Matched (s : State) (n : Need) : Prop := ∃ x, s.tender? n.tender = some x ∧ x.state = n.kind.tenderState

theorem State.completeNoLink_keepsCeilings {n : Need} (hn : n.Matched s) : KeepsCeilings s (s.completeNoLink n) := by
  obtain ⟨x, hx, hstate⟩ := hn
  exact (KeepsCeilings.of_tender? (s.removeNeed_tender? n.tender)).trans
    (State.endExchange_keepsCeilings ((s.removeNeed_tender? n.tender _).trans hx) hstate .noLink)

/-- Needs of different tenders, completed one after another, find their tenders as they were, and leave every other
tender alone. -/
theorem State.foldl_completeNoLink_keepsCeilings {l : List Need} (hhold : ∀ n ∈ l, n.kind.ofHold = true)
    (hnodup : (l.map Need.tender).Nodup) (hmatched : ∀ n ∈ l, n.Matched s) :
    KeepsCeilings s (l.foldl State.completeNoLink s)
      ∧ ∀ j, j ∉ l.map Need.tender → (l.foldl State.completeNoLink s).tender? j = s.tender? j := by
  induction l generalizing s with
  | nil => exact ⟨.refl s, fun _ _ => rfl⟩
  | cons n l ih =>
    obtain ⟨hn, hl⟩ := List.nodup_cons.mp hnodup
    obtain ⟨hnhold, hlhold⟩ := List.forall_mem_cons.mp hhold
    obtain ⟨hnmatched, hlmatched⟩ := List.forall_mem_cons.mp hmatched
    have hother : ∀ m ∈ l, m.Matched (s.completeNoLink n) := by
      intro m hm
      obtain ⟨x, hx, hstate⟩ := hlmatched m hm
      have hne : m.tender ≠ n.tender := fun he => hn (he ▸ List.mem_map_of_mem hm)
      exact ⟨x, (State.completeNoLink_tender?_of_ne hnhold hne).trans hx, hstate⟩
    obtain ⟨hkeeps, hsame⟩ := ih hlhold hl hother
    refine ⟨(State.completeNoLink_keepsCeilings hnmatched).trans hkeeps, fun j hj => ?_⟩
    obtain ⟨hjn, hjl⟩ := not_or.mp (List.mem_cons.not.mp hj)
    exact (hsame j hjl).trans (State.completeNoLink_tender?_of_ne hnhold hjn)

/-- The departure from UP meets only tenders that wait for their AUTH or INCREMENT (07 R129). -/
theorem State.departUp_keepsCeilings (hnodup : (s.aqp.queue.map Need.tender).Nodup)
    (hmatched : ∀ n ∈ s.aqp.queue, n.Matched s) :
    KeepsCeilings s s.departUp ∧ ∀ j, j ∉ s.aqp.queue.map Need.tender → s.departUp.tender? j = s.tender? j := by
  obtain ⟨hkeeps, hsame⟩ := State.foldl_completeNoLink_keepsCeilings (s := s)
    (l := s.aqp.queue.filter fun n => n.kind.ofHold) (fun n hn => (List.mem_filter.mp hn).2)
    (hnodup.sublist (List.filter_sublist.map _)) (fun n hn => hmatched n (List.mem_of_mem_filter hn))
  exact ⟨hkeeps, fun j hj => hsame j fun hmem => hj ((List.filter_sublist.map _).subset hmem)⟩

/-! ## Withdraws, holds and approvals -/

theorem State.withdraw_keepsCeilings (s : State) (i : Nat) : KeepsCeilings s (s.withdraw i) := by
  have hremoved : KeepsCeilings s (s.removeNeed i) := .of_tender? (s.removeNeed_tender? i)
  unfold State.withdraw
  split
  · exact .refl s
  · split
    · exact State.tenderEvent_keepsCeilings fun y _ => y.finish_keepsCeiling .withdrawn
    · split
      · exact State.modTender_keepsCeilings fun _ _ => .of_funds rfl
      · split
        · exact hremoved.trans (State.tenderEvent_keepsCeilings fun y _ => y.finish_keepsCeiling .withdrawn)
        · exact hremoved.trans (State.reverseTender_keepsCeilings fun y _ => y.toReversing_keepsCeiling)
    · exact State.reverseTender_keepsCeilings fun y _ => y.toReversing_keepsCeiling
    · exact .refl s

theorem State.expireLease_keepsCeilings (s : State) (i : Nat) : KeepsCeilings s (s.expireLease i) :=
  .of_at (s.expireLease_tender? i) fun y _ => y.expired_keepsCeiling

theorem State.addHold_keepsCeilings (s : State) (slot : Nat) (r : HoldReason) : KeepsCeilings s (s.addHold slot r) := by
  simp only [State.addHold]
  split
  · exact .refl s
  · split
    · exact .of_tdu (by simp)
    · exact KeepsCeilings.trans (.of_tdu (by simp)) (State.mapLeases_keepsCeilings _ slot _)

theorem State.actDeferred_keepsCeilings (s : State) (i : Nat) : KeepsCeilings s (s.actDeferred i) := by
  unfold State.actDeferred
  split
  · exact .refl s
  · split
    · refine .trans (State.modTender_keepsCeilings fun _ _ => ?_) (State.withdraw_keepsCeilings _ i)
      exact .of_funds rfl
    · exact .refl s

theorem State.releaseHeld_keepsCeilings (s : State) (slot : Nat) : KeepsCeilings s (s.releaseHeld slot) := by
  unfold State.releaseHeld
  split
  · exact .refl s
  next c _ =>
    have hevent : KeepsCeilings s (s.handEvent c.number .released) := .of_tdu (by simp)
    exact (hevent.trans (.foldl State.actDeferred_keepsCeilings c.tenders _)).trans
      (State.mapLeases_keepsCeilings _ slot _)

theorem State.removeHold_keepsCeilings (s : State) (slot : Nat) (r : HoldReason) :
    KeepsCeilings s (s.removeHold slot r) := by
  simp only [State.removeHold]
  split
  · exact .refl s
  next c _ =>
    split
    · exact .of_tdu (by simp)
    · exact KeepsCeilings.trans (.of_tdu (by simp)) (State.releaseHeld_keepsCeilings _ slot)

theorem State.park_keepsCeilings (s : State) (slot term : Nat) (change : Parked) :
    KeepsCeilings s (s.park slot term change).1 := by
  rw [s.park_fst]
  have hheld : KeepsCeilings s ((s.withRecord (s.parkRecord slot term change)).addHold slot .approval) :=
    KeepsCeilings.trans (.of_tdu rfl) (State.addHold_keepsCeilings _ slot .approval)
  dsimp only
  split
  · exact hheld.trans (.of_tdu (by simp))
  · exact hheld

theorem State.endApproval_keepsCeilings (s : State) (a : Approval) (outcome : Nat) :
    KeepsCeilings s (s.endApproval a outcome) :=
  (KeepsCeilings.trans (.of_tdu rfl) (State.removeHold_keepsCeilings (s.dropApproval a) a.slot .approval)).trans
    (.of_tdu (State.announceEnding_tdu ..))

/-- The second judgement of a parked change touches no tender but those of a check that retires (08 R154). -/
theorem State.evaluate_keepsCeilings (s : State) (slot : Nat) (c : Check) (change : Parked) :
    KeepsCeilings s ((s.evaluate slot c change).state s) := by
  have hline : ∀ l changed, KeepsCeilings s ((s.applyLine slot l changed).state s) := by
    intro l changed
    unfold State.applyLine
    split
    · split
      · exact .refl s
      · exact .of_tdu rfl
    · exact .refl s
  cases change with
  | voidLine n | discountLine n d =>
    simp only [State.evaluate]
    split
    · exact .refl s
    · exact hline _ _
  | voidCheck =>
    simp only [State.evaluate]
    split
    · exact .refl s
    · split
      · exact .refl s
      · exact s.retire_keepsCeilings slot
  | transferCheck table owner =>
    simp only [State.evaluate, State.applyTransfer]
    split
    · exact .refl s
    · split
      · exact .refl s
      · split
        · exact .refl s
        · exact .of_tdu (State.moveCheck_tdu ..)

theorem State.approveRecord_keepsCeilings (s : State) (a : Approval) (c : Check) :
    KeepsCeilings s (s.approveRecord a c).1 := by
  have heval : KeepsCeilings s (((s.dropApproval a).evaluate a.slot c a.change).state (s.dropApproval a)) :=
    KeepsCeilings.trans (.of_tdu rfl) ((s.dropApproval a).evaluate_keepsCeilings a.slot c a.change)
  unfold State.approveRecord
  dsimp only
  cases he : (s.dropApproval a).evaluate a.slot c a.change with
  | refused code | applied t =>
    rw [he] at heval
    refine heval.trans (.trans (State.removeHold_keepsCeilings _ a.slot .approval) (.of_tdu ?_))
    exact State.announceEnding_tdu ..
  | retired t =>
    rw [he] at heval
    exact heval.trans (.of_tdu (State.announceEnding_tdu ..))

/-! ## Terminals, starts and frames -/

theorem State.releaseTerminal_keepsCeilings (s : State) (t : Nat) : KeepsCeilings s (s.releaseTerminal t).1 :=
  .of_map (s.releaseTerminal_tender? t) fun _ y _ => by
    dsimp only
    split
    · split
      · exact y.expired_keepsCeiling.trans (.of_funds rfl)
      · exact .of_funds rfl
    · exact .refl y

theorem State.recoverAll_keepsCeilings (s : State) : KeepsCeilings s s.recoverAll :=
  .of_map s.recoverAll_tender? fun _ y _ => y.recovered_keepsCeiling.trans (Tender.leased_keepsCeiling _ _ _)

end
end Sys2Proof.Machine
end

section
/-! Every command keeps the hold ceilings, and a new tender meets the rules of its own (04 R76 to R78). -/

namespace Sys2Proof.Machine

/-! ## New tenders beside the old -/

/-- Every tender of the state after is a new one that meets the rules of its ceiling, or one of the state before, its
ceiling kept. -/
def CeilingStep (s t : State) : Prop :=
  ∀ i y, t.tender? i = some y → (s.tender? i = none ∧ y.Ceiled) ∨ ∃ x, s.tender? i = some x ∧ x.KeepsCeiling y

theorem KeepsCeilings.step {s t : State} (h : KeepsCeilings s t) : CeilingStep s t := fun i y hy => .inr (h i y hy)

theorem CeilingStep.of_tdu {s t : State} (h : t.tdu = s.tdu) : CeilingStep s t := (KeepsCeilings.of_tdu h).step

theorem CeilingStep.refl (s : State) : CeilingStep s s := .of_tdu rfl

theorem CeilingStep.trans_keeps {s t u : State} (hst : CeilingStep s t) (htu : KeepsCeilings t u) :
    CeilingStep s u := by
  intro i z hz
  obtain ⟨y, hy, hyz⟩ := htu i z hz
  obtain ⟨hnone, hceiled⟩ | ⟨x, hx, hxy⟩ := hst i y hy
  · exact .inl ⟨hnone, (hyz hceiled).1⟩
  · exact .inr ⟨x, hx, hxy.trans hyz⟩

/-- What the first state frees it does not give out again: a tender that is new after it is new before it. -/
theorem KeepsCeilings.trans_step {s t u : State} (hst : KeepsCeilings s t)
    (hfreed : ∀ i, t.tender? i = none → s.tender? i = none) (htu : CeilingStep t u) : CeilingStep s u := by
  intro i z hz
  obtain ⟨hnone, hceiled⟩ | ⟨y, hy, hyz⟩ := htu i z hz
  · exact .inl ⟨hfreed i hnone, hceiled⟩
  · obtain ⟨x, hx, hxy⟩ := hst i y hy
    exact .inr ⟨x, hx, hxy.trans hyz⟩

theorem CeilingStep.holds {s t : State} (h : CeilingStep s t) (hs : CeilingsHold s) :
    CeilingsHold t ∧ ∀ i x y a, s.tender? i = some x → t.tender? i = some y → x.authTotal = some a →
      ∃ b, y.authTotal = some b ∧ a ≤ b ∧ y.tolerance = x.tolerance := by
  rw [ceilingsHold_iff] at hs ⊢
  refine ⟨fun i y hy => ?_, fun i x y a hx hy ha => ?_⟩
  · obtain ⟨-, hceiled⟩ | ⟨x, hx, hkeeps⟩ := h i y hy
    · exact hceiled
    · exact (hkeeps (hs i x hx)).1
  · obtain ⟨hnone, -⟩ | ⟨x', hx', hkeeps⟩ := h i y hy
    · simp [hx] at hnone
    · obtain rfl := Option.some.inj (hx.symm.trans hx')
      exact (hkeeps (hs i x hx)).2 a ha

/-! ## Requests -/

section
variable {s : State} {P : State → Prop}

/-- What holds of the state that a request meets and of the state that its act leaves holds after the judgement. -/
theorem judged_fst (hs : P s) {tests : List (Bool × Reply)} {act : State × Reply}
    (hact : judge tests = none → P act.1) : P (judged s tests act).1 := by
  unfold judged
  split
  · exact hs
  next ht => exact hact ht

theorem State.withCheck_fst (hs : P s) {n : Nat} {k : Nat → Check → State × Reply}
    (hk : ∀ slot c, s.check? slot = some c → P (k slot c).1) : P (s.withCheck n k).1 := by
  unfold State.withCheck
  split
  · exact hs
  · split
    · exact hs
    next c hc => exact hk _ c hc

theorem State.withTender_fst (hs : P s) {c : Check} {n : Nat} {k : Nat → Tender → State × Reply}
    (hk : ∀ i x, s.tender? i = some x → P (k i x).1) : P (s.withTender c n k).1 := by
  unfold State.withTender
  split
  · exact hs
  · split
    · exact hs
    next x hx => exact hk _ x hx

theorem State.withApproval_fst (hs : P s) {n : Nat} {k : Nat → Check → Approval → State × Reply}
    (hk : ∀ slot c a, P (k slot c a).1) : P (s.withApproval n k).1 := by
  refine State.withCheck_fst hs fun slot c _ => ?_
  split
  · exact hs
  next a _ => exact hk slot c a

end

section
variable {s : State}

/-- A tender after a frame of terminal t: the lease of a TIP_WAIT tender that t holds is renewed (05 R91). -/
def Tender.heardBy (x : Tender) (t now span : Nat) : Tender :=
  if t ≠ 0 ∧ x.holder = some t ∧ x.state = .tipWait then { x with lease := x.lease.renew now span } else x

/-- The tender pool of a state that has heard a frame (05 R91). -/
theorem State.hear_pool (s : State) (t : Nat) :
    (s.hear t).tdu.pool = s.tdu.pool.map (Option.map (Tender.heardBy · t s.now (s.setting 15))) := by
  unfold State.hear
  split
  next hzero =>
    have hsame : (Tender.heardBy · t s.now (s.setting 15)) = id := funext fun x => if_neg fun h => h.1 hzero
    rw [hsame, Option.map_id, List.map_id]
  next hne =>
    have hrenewed : (fun x : Tender => if x.holder = some t ∧ x.state = .tipWait then
        { x with lease := x.lease.renew s.now (s.setting 15) } else x) = (Tender.heardBy · t s.now (s.setting 15)) :=
      funext fun x => by simp [Tender.heardBy, hne]
    rw [← hrenewed]
    dsimp only
    split
    · rw [State.announceReturn_tdu]
      rfl
    · rfl

theorem State.hear_tender? (s : State) (t i : Nat) :
    (s.hear t).tender? i = (s.tender? i).map (Tender.heardBy · t s.now (s.setting 15)) := by
  rw [State.tender?, State.hear_pool, List.getElem?_map, State.tender?]
  cases s.tdu.pool[i]? with
  | none => rfl
  | some o => cases o <;> rfl

theorem State.hear_keepsCeilings (s : State) (t : Nat) : KeepsCeilings s (s.hear t) :=
  .of_map (s.hear_tender? t) fun _ y _ => by
    unfold Tender.heardBy
    split
    · exact .of_funds rfl
    · exact .refl y

/-- The next state of a meaning stands to the state it met as CeilingStep says. -/
def CeilingStepTo (s : State) (o : Out) : Prop := ∀ t, o = .next t → CeilingStep s t

theorem ceilingStepTo_next {t : State} (h : CeilingStep s t) : CeilingStepTo s (.next t) := by
  intro u hu
  obtain rfl := Host.Outcome.next.inj hu
  exact h

theorem State.frame_ceilingStep {h : Hdr} {kind : Nat} {act : State → State × Reply}
    (hact : ∀ u, CeilingStep u (act u).1) : CeilingStep s (s.frame h kind act) := by
  unfold State.frame
  split
  · exact .refl s
  · exact .of_tdu (State.countFraming_tdu ..)
  · exact .of_tdu (State.countOverrun_tdu ..)
  · exact .of_tdu (State.answer_tdu ..)
  · have hheard := (s.hear_keepsCeilings h.term).trans_step
      (fun i hi => by simpa [State.hear_tender?] using hi) (hact (s.hear h.term))
    exact hheard.trans_keeps (.of_tdu (by simp))

theorem ceilingStepTo_request {h : Hdr} {kind : Nat} {cls : ReqClass} {act : State → State × Reply}
    (hact : ∀ u, CeilingStep u (act u).1) : CeilingStepTo s (.next (s.request h kind cls act)) := by
  refine ceilingStepTo_next (State.frame_ceilingStep fun u => ?_)
  split
  · exact hact u
  · exact .refl u

/-- A request that leaves the tenders alone, whatever its judgement. -/
theorem ceilingStepTo_judged {h : Hdr} {kind : Nat} {cls : ReqClass} {tests : State → List (Bool × Reply)}
    {act : State → State × Reply} (hact : ∀ u, KeepsCeilings u (act u).1) :
    CeilingStepTo s (.next (s.request h kind cls fun u => judged u (tests u) (act u))) :=
  ceilingStepTo_request fun u => judged_fst (.refl u) fun _ => (hact u).step

/-- A request on a check is judged and acted on with the check in its slot. -/
theorem ceilingStepTo_onCheck {h : Hdr} {kind n : Nat} {cls : ReqClass} {k : State → Nat → Check → State × Reply}
    (hk : ∀ u slot c, CeilingStep u (k u slot c).1) :
    CeilingStepTo s (.next (s.request h kind cls fun u => u.withCheck n (k u))) :=
  ceilingStepTo_request fun u => State.withCheck_fst (.refl u) fun slot c _ => hk u slot c

theorem ceilingStepTo_malformed (h : Hdr) (kind reason : Nat) :
    CeilingStepTo s (.next (s.malformedFrame h kind reason)) :=
  ceilingStepTo_next (State.frame_ceilingStep fun u => .refl u)

/-! ## Requests on checks and lines -/

/-- The tenders that CLOSE CHECK takes to their captures are AUTHORIZED (01 R17, R18). -/
theorem State.toCapture_authorized {c : Check} {i : Nat} {x : Tender} (hi : i ∈ s.toCapture c)
    (hx : s.tender? i = some x) : x.state = .authorized := by
  unfold State.toCapture at hi
  split at hi
  · simpa [hx] using (List.mem_filter.mp hi).2
  · have hfaulted : x.faulted = true := by simpa [hx] using (List.mem_filter.mp hi).2
    simp only [Tender.faulted, Bool.and_eq_true, decide_eq_true_eq] at hfaulted
    exact hfaulted.1
  · cases hi

theorem State.startClose_keepsCeilings (s : State) (slot : Nat) (c : Check) :
    KeepsCeilings s (s.startClose slot (s.toCapture c)) :=
  .of_map (s := s) (State.startClose_tender? _) fun i x hx => by
    split
    next hi => exact Tender.toCapturing_keepsCeiling (.inl (State.toCapture_authorized hi hx))
    · exact .refl x

variable (h : Hdr) (s)

theorem execTransferCheck_ceilingStepTo (check table owner : Nat) :
    CeilingStepTo s (execTransferCheck h check table owner s) := by
  refine ceilingStepTo_onCheck fun u slot c => judged_fst (.refl u) fun _ => ?_
  split
  · exact (u.park_keepsCeilings slot h.term _).step
  · exact .of_tdu (u.moveCheck_tdu slot c table owner)

theorem execVoidCheck_ceilingStepTo (check : Nat) : CeilingStepTo s (execVoidCheck h check s) := by
  refine ceilingStepTo_onCheck fun u slot c => judged_fst (.refl u) fun _ => ?_
  split
  · exact (u.park_keepsCeilings slot h.term _).step
  · exact (u.retire_keepsCeilings slot).step

theorem execCloseCheck_ceilingStepTo (check : Nat) : CeilingStepTo s (execCloseCheck h check s) := by
  refine ceilingStepTo_onCheck fun u slot c => judged_fst (.refl u) fun _ => ?_
  split
  · exact (u.retire_keepsCeilings slot).step
  · exact (u.startClose_keepsCeilings slot c).step

theorem execAddLines_ceilingStepTo (check : Nat) (entries : List LineEntry) :
    CeilingStepTo s (execAddLines h check entries s) := by
  unfold execAddLines
  split
  · exact ceilingStepTo_malformed h _ _
  · exact ceilingStepTo_onCheck fun u slot c => judged_fst (.refl u) fun _ => .of_tdu (State.takeLines_tdu ..)

theorem execVoidLine_ceilingStepTo (check line : Nat) : CeilingStepTo s (execVoidLine h check line s) := by
  refine ceilingStepTo_onCheck fun u slot c => ?_
  split
  · exact .refl u
  · split
    · exact .refl u
    · refine judged_fst (.refl u) fun _ => ?_
      split
      · exact (u.park_keepsCeilings slot h.term _).step
      · exact .of_tdu (State.writeFigures_tdu ..)

theorem execDiscountLine_ceilingStepTo (check line amount : Nat) :
    CeilingStepTo s (execDiscountLine h check line amount s) := by
  refine ceilingStepTo_onCheck fun u slot c => ?_
  split
  · exact .refl u
  · split
    · exact .refl u
    · refine judged_fst (.refl u) fun _ => ?_
      split
      · exact (u.park_keepsCeilings slot h.term _).step
      · exact .of_tdu (State.writeFigures_tdu ..)

theorem execLockSplit_ceilingStepTo (check : Nat) : CeilingStepTo s (execLockSplit h check s) := by
  refine ceilingStepTo_onCheck fun u slot c => ?_
  dsimp only
  split
  · exact .refl u
  · split
    · split
      · exact .of_tdu rfl
      · exact .refl u
    · exact judged_fst (.refl u) fun _ => .of_tdu rfl

/-! ## Requests on tenders -/

/-- The free record that a new tender takes (06 R96). -/
theorem State.freeTenderIndex_spec {s : State} {i : Nat} (hi : s.freeTenderIndex = some i) :
    i < s.tdu.pool.length ∧ s.tender? i = none := by
  unfold State.freeTenderIndex at hi
  rw [List.findIdx?_eq_some_iff_getElem] at hi
  obtain ⟨hlt, hnone, -⟩ := hi
  refine ⟨hlt, ?_⟩
  rw [State.tender?, List.getElem?_eq_getElem hlt, Option.join_some]
  exact Option.isNone_iff_eq_none.mp hnone

/-- A new tender stands in its record, and every other record is as it was (06 R97). -/
theorem State.beginTender_tender? {s : State} {i : Nat} (hi : i < s.tdu.pool.length) (x : Tender) (j : Nat) :
    (s.beginTender i x).tender? j = if j = i then some x else s.tender? j := by
  rw [State.beginTender, State.derive_tender?, State.modCheck_tender?]
  simp only [State.tender?, List.getElem?_set]
  by_cases hij : i = j
  · subst hij; simp [hi]
  · simp [hij, Ne.symm hij]

theorem State.beginTender_ceilingStep {s : State} {i : Nat} {x : Tender} (hi : s.freeTenderIndex = some i)
    (hx : x.Ceiled) : CeilingStep s (s.beginTender i x) := by
  obtain ⟨hlt, hnone⟩ := State.freeTenderIndex_spec hi
  intro j y hy
  rw [State.beginTender_tender? hlt] at hy
  split at hy
  next hji =>
    obtain rfl := Option.some.inj hy
    exact .inl ⟨hji ▸ hnone, hx⟩
  · exact .inr ⟨y, hy, .refl y⟩

/-- A new tender has no authorized total, and a card tender that gives its tip later asks for its amount alone
(04 R78). -/
theorem State.startTender_ceilingStep {s : State} {i : Nat} {x : Tender} (hi : s.freeTenderIndex = some i)
    (hx : x.authTotal = none) (htip : x.tip = 0) (kind : TenderKind) (asked balance : Nat) (token : List Byte) :
    CeilingStep s (s.startTender i x kind asked balance token) := by
  cases kind with
  | cash => exact State.beginTender_ceilingStep hi (.of_leaving rfl)
  | tipFirst => exact State.beginTender_ceilingStep hi (Tender.asTipFirst_ceiled hx token _)
  | tipLater =>
    exact (State.beginTender_ceilingStep hi (Tender.asTipLater_ceiled hx htip token)).trans_keeps
      (State.placeNeed_keepsCeilings _ i .auth)

theorem execStartTender_ceilingStepTo (check portion kind amount : Nat) (token : List Byte) :
    CeilingStepTo s (execStartTender h check portion kind amount token s) := by
  unfold execStartTender
  split
  · exact ceilingStepTo_malformed h _ _
  · refine ceilingStepTo_onCheck fun u slot c => judged_fst (.refl u) fun ht => ?_
    simp only [judge_eq_none_cons] at ht
    obtain ⟨-, -, -, -, -, -, -, -, -, -, hfree, -⟩ := ht
    obtain ⟨i, hi⟩ := Option.isSome_iff_exists.mp (by simpa using hfree)
    rw [hi]
    exact State.startTender_ceilingStep hi rfl rfl _ _ _ _

/-- A tip that is taken finds its tender in TIP_WAIT or AUTHORIZED (06 R104 to R106). -/
theorem State.takeTip_keepsCeilings {s : State} {i : Nat} {x : Tender} (hx : s.tender? i = some x)
    (hdone : x.state.isDone = false) (hidle : x.state.exchanging = false) (tip : Nat) :
    KeepsCeilings s (s.takeTip i x tip) := by
  have hrecord : ∀ y, s.tender? i = some y → y = x := fun y hy => Option.some.inj (hy.symm.trans hx)
  unfold State.takeTip
  split
  next hwait =>
    refine .trans (State.tenderEvent_keepsCeilings fun y hy => ?_) (State.placeNeed_keepsCeilings _ i .auth)
    exact Tender.tipGiven_keepsCeiling (hrecord y hy ▸ hwait) tip
  next hwait =>
    split
    next hneeds =>
      refine .trans (State.tenderEvent_keepsCeilings fun y hy => ?_) (State.placeNeed_keepsCeilings _ i .increment)
      exact Tender.tipHeld_keepsCeiling (hrecord y hy ▸ hneeds)
    next hneeds =>
      split
      · exact .refl s
      · have hauthorized : x.state = .authorized := by
          cases hstate : x.state <;> simp_all [TenderState.isDone, TenderState.exchanging]
        refine State.tenderEvent_keepsCeilings fun y hy => ?_
        obtain rfl := hrecord y hy
        exact Tender.newTip_keepsCeiling hauthorized hneeds

theorem execSubmitTip_ceilingStepTo (check tender form figure : Nat) :
    CeilingStepTo s (execSubmitTip h check tender form figure s) := by
  refine ceilingStepTo_onCheck fun u slot c => ?_
  split
  · exact .refl u
  · refine State.withTender_fst (.refl u) fun i x hx => judged_fst (.refl u) fun ht => ?_
    simp only [judge_eq_none_cons, Bool.or_eq_false_iff] at ht
    obtain ⟨hdone, -, -, -, -, -, -, ⟨-, hidle⟩, -⟩ := ht
    exact (State.takeTip_keepsCeilings hx hdone hidle _).step

theorem execWithdrawTender_ceilingStepTo (check tender : Nat) :
    CeilingStepTo s (execWithdrawTender h check tender s) := by
  refine ceilingStepTo_onCheck fun u slot c => State.withTender_fst (.refl u) fun i x _ =>
    judged_fst (.refl u) fun _ => ?_
  split
  · refine KeepsCeilings.step (State.modTender_keepsCeilings fun _ _ => ?_)
    exact .of_funds rfl
  · exact (u.withdraw_keepsCeilings i).step

theorem State.writeOff_keepsCeilings (s : State) (slot i : Nat) : KeepsCeilings s (s.writeOff slot i) := by
  refine .trans (State.modTender_keepsCeilings fun x _ => ?_) (.of_tdu (State.modCheck_tdu ..))
  exact fun _ => ⟨.of_leaving rfl, .of_eq rfl rfl⟩

/-! ## Requests on holds, statuses and the floor map -/

theorem execHoldCheck_ceilingStepTo (check : Nat) : CeilingStepTo s (execHoldCheck h check s) := by
  refine ceilingStepTo_onCheck fun u slot c => judged_fst (.refl u) fun _ => ?_
  dsimp only [State.takenSummary]
  split
  · exact .refl u
  · exact (u.addHold_keepsCeilings slot .manager).step

theorem execFetchNextPending_ceilingStepTo : CeilingStepTo s (execFetchNextPending h s) := by
  refine ceilingStepTo_request fun u => ?_
  split
  · exact .refl u
  · exact (u.collect_keepsCeilings _).step

theorem State.roleChanged_keepsCeilings (s : State) (t : Nat) (old new : Role) :
    KeepsCeilings s (s.roleChanged t old new) := by
  cases new with
  | off =>
    simp only [State.roleChanged]
    split
    · exact .of_tdu rfl
    · exact s.releaseTerminal_keepsCeilings t
  | server => exact .refl s
  | manager =>
    simp only [State.roleChanged]
    split
    · exact .of_tdu (State.raise_tdu ..)
    · exact .refl s

theorem State.loadCopy_keepsCeilings (s : State) (w : Settings) (loaded : LoadedFrom) :
    KeepsCeilings s (s.loadCopy w loaded) :=
  KeepsCeilings.trans (t := { s with sst := { s.sst with work := w, loaded } }) (.of_tdu rfl)
    (.foldl (fun u t => u.releaseTerminal_keepsCeilings t) _ _)

theorem execLoadSettings_ceilingStepTo (source : Nat) : CeilingStepTo s (execLoadSettings h source s) := by
  refine ceilingStepTo_request fun u => ?_
  split
  · exact .refl u
  · split
    · exact .refl u
    · exact judged_fst (.refl u) fun _ => (u.loadCopy_keepsCeilings _ _).step

end

/-- A request that a transaction carries keeps the ceilings. -/
theorem execRequest_ceilingStepTo (i : Instr) (s : State) : CeilingStepTo s (execRequest i s) := by
  cases i with
  -- requests that leave the tenders to what their frame does
  | hello h | readPartStatus h => exact ceilingStepTo_request fun u => .refl u
  | readCheck h check | readLines h check first last =>
    exact ceilingStepTo_onCheck fun u _ _ => judged_fst (.refl u) fun _ => .refl u
  | readTable h table | readSetting h number => exact ceilingStepTo_judged fun u => .refl u
  | openCheck h table covers owner => exact ceilingStepTo_judged fun u => .of_tdu (State.placeCheck_tdu ..)
  | updateCheck h check covers =>
    exact ceilingStepTo_onCheck fun u _ _ => judged_fst (.refl u) fun _ => .of_tdu (State.writeFigures_tdu ..)
  | presentCheck h check =>
    exact ceilingStepTo_onCheck fun u _ _ => judged_fst (.refl u) fun _ => .of_tdu (State.handEvent_tdu ..)
  | setSplit h check kind count | setPortion h check portion amount | setWatch h check mask =>
    exact ceilingStepTo_onCheck fun u _ _ => judged_fst (.refl u) fun _ => .of_tdu rfl
  | setTable h first last sect | setSetting h number value | setClock h day minute =>
    exact ceilingStepTo_judged fun u => .of_tdu rfl
  | dropWatch h check | ackNoticeStartup h source | saveSettings h => exact ceilingStepTo_judged fun u => .of_tdu rfl
  | fetchHits h | ackNoticeAged h => exact ceilingStepTo_request fun u => .of_tdu rfl
  | clearLinkFault h => exact ceilingStepTo_request fun u => .of_tdu (State.clearFault_tdu _)
  -- requests on checks and lines
  | transferCheck h check table owner => exact execTransferCheck_ceilingStepTo s h check table owner
  | voidCheck h check => exact execVoidCheck_ceilingStepTo s h check
  | closeCheck h check => exact execCloseCheck_ceilingStepTo s h check
  | addLines h check entries => exact execAddLines_ceilingStepTo s h check entries
  | voidLine h check line => exact execVoidLine_ceilingStepTo s h check line
  | discountLine h check line amount => exact execDiscountLine_ceilingStepTo s h check line amount
  | lockSplit h check => exact execLockSplit_ceilingStepTo s h check
  -- requests on tenders
  | startTender h check portion kind amount token =>
    exact execStartTender_ceilingStepTo s h check portion kind amount token
  | submitTip h check tender form figure => exact execSubmitTip_ceilingStepTo s h check tender form figure
  | withdrawTender h check tender => exact execWithdrawTender_ceilingStepTo s h check tender
  | fetchStatus h check tender =>
    exact ceilingStepTo_onCheck fun u _ _ => State.withTender_fst (.refl u) fun i _ _ =>
      judged_fst (.refl u) fun _ => (u.collect_keepsCeilings i).step
  | abandonTender h check tender =>
    exact ceilingStepTo_onCheck fun u slot _ => State.withTender_fst (.refl u) fun i _ _ =>
      judged_fst (.refl u) fun _ => (u.writeOff_keepsCeilings slot i).step
  -- requests on holds, approvals, statuses and terminals
  | holdCheck h check => exact execHoldCheck_ceilingStepTo s h check
  | releaseCheck h check =>
    exact ceilingStepTo_onCheck fun u slot _ => judged_fst (.refl u) fun _ =>
      (u.removeHold_keepsCeilings slot .manager).step
  | approve h check number =>
    exact ceilingStepTo_request fun u => State.withApproval_fst (.refl u) fun _ c a =>
      judged_fst (.refl u) fun _ => (u.approveRecord_keepsCeilings a c).step
  | reject h check number =>
    exact ceilingStepTo_request fun u => State.withApproval_fst (.refl u) fun _ _ a =>
      judged_fst (.refl u) fun _ => (u.endApproval_keepsCeilings a 17).step
  | fetchNextPending h => exact execFetchNextPending_ceilingStepTo s h
  | setTerminal h terminal role mask =>
    exact ceilingStepTo_judged fun u =>
      KeepsCeilings.trans (.of_tdu (State.writeTerminal_tdu ..)) (State.roleChanged_keepsCeilings _ terminal _ _)
  | forgetTerminal h terminal => exact ceilingStepTo_judged fun u => u.releaseTerminal_keepsCeilings terminal
  | loadSettings h source => exact execLoadSettings_ceilingStepTo s h source
  -- frames that are no well-formed request
  | malformedRequest h kind bodyLen =>
    simp only [execRequest, execMalformedRequest]
    split
    · exact ceilingStepTo_next (.refl s)
    · exact ceilingStepTo_malformed h kind _
  | tagZeroFrame port =>
    simp only [execRequest, execTagZeroFrame]
    split
    · exact ceilingStepTo_next (.of_tdu (State.countFraming_tdu ..))
    · exact ceilingStepTo_next (.refl s)
  | crcErrorFrame _ | frameLenError _ _ | frameIdleTimeout _ _ | requestOverrun _ | fhpTransaction _
  | outputFrameSent _ | result _ _ | nonResultFrame _ | exchangeTimeout _ | grant | noLinkCompletion
  | linkOkFall | linkOkRise | leaseExpiry _ _ | approvalExpiry _ | terminalSilence _ | checkAged _
  | secondTick | minuteTick | saveEnd _ | resetAssert _ | coldStart _ | warmStart _
  | clockAdvanceWithoutPower _ | retentionIndicatorLost => exact ceilingStepTo_next (.refl s)

end Sys2Proof.Machine
end

section
/-! Every event keeps the hold ceilings, and so does every step (04 R76 to R78). -/

namespace Sys2Proof.Machine

/-! ## Needs and their tenders -/

/-- The exchange names a tender in the state that placed its need (07 R134). -/
def Exchange.Matched (s : State) (e : Exchange) : Prop :=
  ∃ x, s.tender? e.tender = some x ∧ x.state = e.kind.tenderState

/-- What an event at the acquirer needs of NeedsMatched: no tender holds two places, and each that holds one is in the
state that placed its need. -/
structure NeedsPlaced (s : State) : Prop where
  nodup : (s.aqp.queue.map Need.tender).Nodup
  waiting : ∀ n ∈ s.aqp.queue, n.Matched s
  exchanged : ∀ e ∈ s.aqp.entries.filterMap id, e.Matched s
  apart : ∀ e ∈ s.aqp.entries.filterMap id, e.tender ∉ s.aqp.queue.map Need.tender

theorem NeedsMatched.placed {s : State} (h : NeedsMatched s) : NeedsPlaced s := by
  obtain ⟨hnodup, hqueue, hentries, -⟩ := h
  obtain ⟨hwaiting, -, hapart⟩ := List.nodup_append.mp hnodup
  refine ⟨hwaiting, fun n hn => ?_, fun e he => ?_, fun e he hmem => ?_⟩
  · obtain ⟨x, hx, hstate, -⟩ := hqueue n hn
    exact ⟨x, hx, hstate⟩
  · obtain ⟨x, hx, hstate, -⟩ := hentries e he
    exact ⟨x, hx, hstate⟩
  · exact hapart _ hmem _ (List.mem_map_of_mem he) rfl

theorem State.exchange?_mem {s : State} {j : Nat} {e : Exchange} (h : s.exchange? j = some e) :
    e ∈ s.aqp.entries.filterMap id := by
  rw [State.exchange?, Option.join_eq_some_iff] at h
  exact List.mem_filterMap.mpr ⟨some e, List.mem_of_getElem? h, rfl⟩

section
variable {s : State}

/-! ## Events at the acquirer -/

theorem State.matchResult_keepsCeilings (hneeds : NeedsPlaced s) (tag : Nat) (body : List Byte) :
    KeepsCeilings s (s.matchResult tag body) := by
  unfold State.matchResult
  split
  · exact .of_tdu rfl
  next j _ =>
    split
    · exact .of_tdu rfl
    next e he =>
      split
      · exact .of_tdu rfl
      · obtain ⟨x, hx, hstate⟩ := hneeds.exchanged e (State.exchange?_mem he)
        have hend : KeepsCeilings s ((s.setEntry j none).endExchange e.kind e.tender (resultEnd body)) :=
          State.endExchange_keepsCeilings (s := s.setEntry j none) hx hstate _
        exact hend.trans (.of_tdu rfl)

theorem execResult_ceilingStepTo (hneeds : NeedsPlaced s) (tag : Nat) (body : List Byte) :
    CeilingStepTo s (execResult tag body s) := by
  refine ceilingStepTo_next (KeepsCeilings.step ?_)
  split
  · exact .refl s
  · split
    · exact .of_tdu rfl
    · have hcleared : NeedsPlaced s.clearTimeouts :=
        ⟨hneeds.nodup, hneeds.waiting, hneeds.exchanged, hneeds.apart⟩
      exact State.matchResult_keepsCeilings hcleared tag body

/-- A timeout that fails the link completes the queued needs, and touches no tender but theirs (07 R128, R129). -/
theorem State.raiseTimeouts_keepsCeilings (hnodup : (s.aqp.queue.map Need.tender).Nodup)
    (hmatched : ∀ n ∈ s.aqp.queue, n.Matched s) :
    KeepsCeilings s s.raiseTimeouts
      ∧ ∀ j, j ∉ s.aqp.queue.map Need.tender → s.raiseTimeouts.tender? j = s.tender? j := by
  simp only [State.raiseTimeouts]
  split
  · exact ⟨.of_tdu rfl, fun _ _ => rfl⟩
  · split
    · exact State.departUp_keepsCeilings
        (s := { s with aqp := { s.aqp with timeouts := s.setting 18, link := .failed } }) hnodup hmatched
    · exact ⟨.of_tdu rfl, fun _ _ => rfl⟩

theorem execExchangeTimeout_ceilingStepTo (hneeds : NeedsPlaced s) (tag : Nat) :
    CeilingStepTo s (execExchangeTimeout tag s) := by
  refine ceilingStepTo_next (KeepsCeilings.step ?_)
  split
  · exact .refl s
  next j _ =>
    split
    · exact .refl s
    next e he =>
      split
      · obtain ⟨x, hx, hstate⟩ := hneeds.exchanged e (State.exchange?_mem he)
        obtain ⟨hraised, hsame⟩ := State.raiseTimeouts_keepsCeilings (s := (s.doneExchange tag).setEntry j none)
          hneeds.nodup hneeds.waiting
        have hx' := (hsame e.tender (hneeds.apart e (State.exchange?_mem he))).trans hx
        have hend := hraised.trans (State.endExchange_keepsCeilings hx' hstate .timeout)
        exact KeepsCeilings.trans hend (.of_tdu (State.flushPushes_tdu _))
      · exact .refl s

/-- A message that is sent changes nothing that the ceiling speaks of (07 R135). -/
theorem execGrant_ceilingStepTo (s : State) : CeilingStepTo s (execGrant s) := by
  refine ceilingStepTo_next (KeepsCeilings.step ?_)
  split
  · split
    · exact .refl s
    next n _ _ =>
      split
      · exact .refl s
      next x _ =>
        refine KeepsCeilings.of_at (i := n.tender) (f := fun y => y.granted n.kind s.nextTag) (fun j => ?_)
          fun y _ => .of_funds rfl
        rw [State.grantNeed, State.modTender_tender?]
        simp only [eq_comm]
        rfl
  · exact .refl s

theorem execNoLinkCompletion_ceilingStepTo (hneeds : NeedsPlaced s) : CeilingStepTo s (execNoLinkCompletion s) := by
  refine ceilingStepTo_next (KeepsCeilings.step ?_)
  split
  · split
    · exact .refl s
    next n hn =>
      exact (State.completeNoLink_keepsCeilings (hneeds.waiting n (List.mem_of_find?_eq_some hn))).trans
        (.of_tdu (State.flushPushes_tdu _))
  · exact .refl s

theorem execLinkOkFall_ceilingStepTo (hneeds : NeedsPlaced s) : CeilingStepTo s (execLinkOkFall s) := by
  refine ceilingStepTo_next (KeepsCeilings.step ?_)
  dsimp only
  split
  · have hdeparted := (State.departUp_keepsCeilings (s := (s.setLinkOk false).setLink .down) hneeds.nodup
      hneeds.waiting).1
    exact KeepsCeilings.trans hdeparted (.of_tdu (State.flushPushes_tdu _))
  · exact .of_tdu rfl

/-! ## Other events -/

theorem execFhpTransaction_ceilingStepTo (s : State) (bytes : List Byte) :
    CeilingStepTo s (execFhpTransaction bytes s) := by
  have htaken : CeilingStep s (s.takeIncoming bytes) := by
    unfold State.takeIncoming
    split
    · exact .refl s
    · exact .of_tdu rfl
    · exact .of_tdu rfl
    · split
      · exact .refl s
      next i _ =>
        cases ho : execRequest i s with
        | next t => exact execRequest_ceilingStepTo i s t ho
        | fault _ | refused _ => exact .refl s
  refine ceilingStepTo_next ?_
  split
  · exact .refl s
  · split
    · exact .of_tdu rfl
    · exact htaken.trans_keeps (.of_tdu (by simp))

theorem execLeaseExpiry_ceilingStepTo (s : State) (check tender : Nat) :
    CeilingStepTo s (execLeaseExpiry check tender s) := by
  refine ceilingStepTo_next (KeepsCeilings.step ?_)
  split
  · exact .refl s
  next i _ =>
    split
    · exact .refl s
    · split
      · exact ((s.doneLease i).expireLease_keepsCeilings i).trans (.of_tdu (State.flushPushes_tdu _))
      · exact .refl s

theorem execApprovalExpiry_ceilingStepTo (s : State) (number : Nat) :
    CeilingStepTo s (execApprovalExpiry number s) := by
  refine ceilingStepTo_next (KeepsCeilings.step ?_)
  split
  · exact .refl s
  next a _ =>
    split
    · exact ((s.doneApproval number).endApproval_keepsCeilings a 18).trans (.of_tdu (State.flushPushes_tdu _))
    · exact .refl s

theorem execFrameIdleTimeout_tdu {t : State} {port : StreamPort} {count : Nat}
    (ht : execFrameIdleTimeout port count s = .next t) : t.tdu = s.tdu := by
  obtain rfl := Host.Outcome.next.inj ht
  split
  · rfl
  · split
    · exact State.assemblerIdle_tdu ..
    · split
      · rfl
      · exact State.framingError_tdu ..
    · exact State.framingError_tdu ..
    · exact State.framingError_tdu ..

theorem execOutputFrameSent_tdu {t : State} {port : StreamPort} (ht : execOutputFrameSent port s = .next t) :
    t.tdu = s.tdu := by
  obtain rfl := Host.Outcome.next.inj ht
  split
  · rfl
  · cases port with
    | flp => dsimp only; split <;> rfl
    | aqp => rfl

theorem execCheckAged_tdu {t : State} {check : Nat} (ht : execCheckAged check s = .next t) : t.tdu = s.tdu := by
  obtain rfl := Host.Outcome.next.inj ht
  split
  · rfl
  · split
    · rfl
    · split <;> rfl

theorem execSecondTick_tdu {t : State} (ht : execSecondTick s = .next t) : t.tdu = s.tdu := by
  obtain rfl := Host.Outcome.next.inj ht
  split
  · dsimp only
    split <;> rfl
  · rfl

theorem execClockAdvanceWithoutPower_tdu {t : State} {seconds : Nat}
    (ht : execClockAdvanceWithoutPower seconds s = .next t) : t.tdu = s.tdu := by
  obtain rfl := Host.Outcome.next.inj ht
  split
  · dsimp only
    split
    · rw [State.passMinutes_frame]
    · rfl
  · rfl

/-- Cleared memory has no tender (11 R197). -/
theorem CeilingStep.of_cleared {t : State} (h : t.tdu = State.reset.tdu) : CeilingStep s t := by
  intro i y hy
  have hnone : t.tender? i = none := by rw [State.tender?, h]; exact State.reset_tender? i
  cases hnone.symm.trans hy

theorem execColdStart_ceilingStepTo (s : State) (selLow : Bool) : CeilingStepTo s (execColdStart selLow s) := by
  refine ceilingStepTo_next ?_
  split
  · exact .of_cleared rfl
  · exact .refl s

theorem execRetentionIndicatorLost_ceilingStepTo (s : State) : CeilingStepTo s (execRetentionIndicatorLost s) := by
  refine ceilingStepTo_next ?_
  split
  · exact .of_cleared rfl
  · exact .refl s

theorem execWarmStart_ceilingStepTo (s : State) (selLow : Bool) : CeilingStepTo s (execWarmStart selLow s) := by
  refine ceilingStepTo_next (KeepsCeilings.step ?_)
  split
  · exact KeepsCeilings.trans (t := (s.startCommon selLow).latchStart .warm) (.of_tdu rfl)
      (State.recoverAll_keepsCeilings _)
  · exact .refl s

/-- An event that leaves the tenders alone where its condition holds, and everything where it does not. -/
theorem ceilingStepTo_ite {b : Prop} [Decidable b] {t : State} (h : t.tdu = s.tdu) :
    CeilingStepTo s (.next (if b then t else s)) := by
  refine ceilingStepTo_next ?_
  split
  · exact .of_tdu h
  · exact .refl s

end

/-! ## Every command -/

/-- Every command keeps the ceilings of the tenders, where each need and each exchange has its tender. -/
theorem exec_ceilingStepTo (i : Instr) {s : State} (hneeds : NeedsPlaced s) : CeilingStepTo s (exec i s) := by
  by_cases hi : (requestOf i).isSome = true
  · rw [exec_eq_execRequest hi]
    exact execRequest_ceilingStepTo i s
  cases i with
  | malformedRequest h kind bodyLen => exact execRequest_ceilingStepTo (.malformedRequest h kind bodyLen) s
  | tagZeroFrame port => exact execRequest_ceilingStepTo (.tagZeroFrame port) s
  | crcErrorFrame port => exact ceilingStepTo_ite (State.countCrc_tdu ..)
  | frameLenError port len => exact ceilingStepTo_ite (State.framingError_tdu ..)
  | frameIdleTimeout port count => exact fun _ ht => .of_tdu (execFrameIdleTimeout_tdu ht)
  | requestOverrun port => exact ceilingStepTo_ite (State.countOverrun_tdu ..)
  | fhpTransaction bytes => exact execFhpTransaction_ceilingStepTo s bytes
  | outputFrameSent port => exact fun _ ht => .of_tdu (execOutputFrameSent_tdu ht)
  | result tag body => exact execResult_ceilingStepTo hneeds tag body
  | nonResultFrame kind => exact ceilingStepTo_ite rfl
  | exchangeTimeout tag => exact execExchangeTimeout_ceilingStepTo hneeds tag
  | grant => exact execGrant_ceilingStepTo s
  | noLinkCompletion => exact execNoLinkCompletion_ceilingStepTo hneeds
  | linkOkFall => exact execLinkOkFall_ceilingStepTo hneeds
  | linkOkRise =>
    refine ceilingStepTo_next (.of_tdu ?_)
    dsimp only
    split <;> rfl
  | leaseExpiry check tender => exact execLeaseExpiry_ceilingStepTo s check tender
  | approvalExpiry number => exact execApprovalExpiry_ceilingStepTo s number
  | terminalSilence terminal => exact ceilingStepTo_ite rfl
  | checkAged check => exact fun _ ht => .of_tdu (execCheckAged_tdu ht)
  | secondTick => exact fun _ ht => .of_tdu (execSecondTick_tdu ht)
  | minuteTick => exact ceilingStepTo_ite rfl
  | saveEnd matched => exact ceilingStepTo_ite rfl
  | resetAssert cause => cases cause <;> exact ceilingStepTo_next (.of_tdu rfl)
  | coldStart selLow => exact execColdStart_ceilingStepTo s selLow
  | warmStart selLow => exact execWarmStart_ceilingStepTo s selLow
  | clockAdvanceWithoutPower seconds => exact fun _ ht => .of_tdu (execClockAdvanceWithoutPower_tdu ht)
  | retentionIndicatorLost => exact execRetentionIndicatorLost_ceilingStepTo s
  | _ => exact absurd rfl hi

/-- Settles O60: every exchange that ends finds its tender in the state that asked for it (NeedsMatched), and from there
each change of a tender keeps its ceiling; the other premises are not needed. -/
theorem ceilingsStayKept : Obligations.CeilingsStayKept := by
  intro s t hstep _ _ _ _ _ hneeds hceilings
  refine CeilingStep.holds ?_ hceilings
  unfold step at hstep
  split at hstep
  · obtain rfl := Host.Outcome.next.inj hstep
    exact .refl s
  next c rest _ =>
    have hplaced := hneeds.placed
    exact exec_ceilingStepTo c (s := { s with pending := rest })
      ⟨hplaced.nodup, hplaced.waiting, hplaced.exchanged, hplaced.apart⟩ t hstep

end Sys2Proof.Machine
end

section
/-! The arithmetic of the Tally Engine: remainder apportionment place by place, the shares of EVEN and BY_SEAT plans,
the tax of each class and the service charge (04 R57 to R71). -/

namespace Sys2Proof.Machine

/-! ## Apportionment place by place (04 R63) -/

/-- Each part is its floor, with a cent more where it is served before the leftover runs out (04 R63). -/
theorem apportion_getElem? (target d : Nat) (ns : List Nat) (p : Nat) :
    (apportion target d ns)[p]? = ns[p]?.map fun n =>
      if serveRank (ns.map (· % d)) p < target - (ns.map (· / d)).sum then n / d + 1 else n / d := by
  simp only [apportion, List.getElem?_map, List.getElem?_zipIdx, Option.map_map, Nat.zero_add]
  rfl

theorem apportion_getD {target d : Nat} {ns : List Nat} {p : Nat} (hp : p < ns.length) :
    (apportion target d ns).getD p 0
      = if serveRank (ns.map (· % d)) p < target - (ns.map (· / d)).sum then ns.getD p 0 / d + 1
        else ns.getD p 0 / d := by
  rw [List.getD_eq_getElem?_getD, apportion_getElem?, List.getD_eq_getElem?_getD, List.getElem?_eq_getElem hp]
  rfl

/-- A larger remainder, or an equal one at a lower number, is served first (04 R63). -/
theorem serveRank_mod_lt {d : Nat} {ns : List Nat} {p q : Nat} (hq : q < ns.length) (hp : p < ns.length)
    (h : ns.getD p 0 % d < ns.getD q 0 % d ∨ ns.getD p 0 % d = ns.getD q 0 % d ∧ q < p) :
    serveRank (ns.map (· % d)) q < serveRank (ns.map (· % d)) p := by
  refine serveRank_lt (by simpa using hq) ?_
  simp only [List.getD_eq_getElem?_getD, List.getElem?_eq_getElem hp, List.getElem?_eq_getElem hq,
    Option.getD_some] at h
  simpa [ServedBefore, hp, hq, eq_comm] using h

/-- Settles O31: the places of an apportionment are distinct ranks, and a rank below the leftover earns a cent. -/
theorem apportionmentIsExact : Obligations.ApportionmentIsExact := by
  intro target d ns _ hlow hhigh
  refine ⟨apportion_length target d ns, apportion_sum hlow hhigh, fun p hp => ?_, fun p q hp hq hbefore hcent => ?_⟩
  · rw [apportion_getD hp]
    split
    · exact .inr rfl
    · exact .inl rfl
  · have hrank := serveRank_mod_lt hq hp hbefore
    rw [apportion_getD hp] at hcent
    split at hcent
    next hserved => rw [apportion_getD hq, if_pos (hrank.trans hserved)]
    · omega

/-! ## EVEN plans (04 R65) -/

/-- Equal remainders are served in the order of their numbers (04 R63, R65). -/
theorem serveRank_replicate {n p : Nat} (hp : p < n) (r : Nat) : serveRank (List.replicate n r) p = p := by
  classical
  have hbefore : (Finset.range n).filter (fun q => ServedBefore (List.replicate n r) q p) = Finset.range p := by
    ext q
    simp only [Finset.mem_filter, Finset.mem_range]
    constructor
    · rintro ⟨hq, h⟩
      simpa [ServedBefore, hq, hp] using h
    · intro hqp
      have hq := hqp.trans hp
      exact ⟨hq, .inr ⟨by simp [hq, hp], hqp⟩⟩
  rw [serveRank_eq_card, List.length_replicate, hbefore, Finset.card_range]

/-- Each portion of an EVEN plan receives the floor, the first ones of the remainder a cent more (04 R65). -/
theorem evenShares_getElem? (total : Nat) {n p : Nat} (hp : p < n) :
    (evenShares total n)[p]? = some (total / n + if p < total % n then 1 else 0) := by
  have hleftover : total - n * (total / n) = total % n := (Nat.mod_def total n).symm
  rw [evenShares, apportion_getElem?, List.map_replicate, List.map_replicate, serveRank_replicate hp,
    List.getElem?_replicate, if_pos hp, List.sum_replicate, smul_eq_mul, hleftover, Option.map_some]
  split <;> rfl

theorem evenShares_length (total n : Nat) : (evenShares total n).length = n := by simp [evenShares]

theorem evenShares_zero (n : Nat) : evenShares 0 n = List.replicate n 0 := by
  refine List.ext_getElem? fun p => ?_
  by_cases hp : p < n
  · simp [evenShares_getElem? 0 hp, hp]
  · rw [List.getElem?_eq_none (by rw [evenShares_length]; omega), List.getElem?_eq_none (by simp; omega)]

/-- A fresh portion has its whole share to pay (05 R81, R83). -/
theorem freshPortions_balance {shares : List Nat} {seats : List (Option Nat)} {p : Portion}
    (hp : p ∈ freshPortions shares seats) : p.balance = p.share := by
  obtain ⟨⟨⟨share, seat⟩, i⟩, -, rfl⟩ := List.mem_map.mp hp
  rfl

/-- A portion of share 0 counts as settled (04 R65). -/
theorem Plan.settled_of_balances {plan : Plan} (h : ∀ p ∈ plan.portions, p.share ≠ 0 → p.balance = 0) :
    plan.settled = true := by
  refine List.all_eq_true.mpr fun p hp => beq_iff_eq.mpr ?_
  by_cases hshare : p.share = 0
  · rw [Portion.balance, hshare, Nat.zero_sub]
  · exact h p hp hshare

/-- Settles O32: equal remainders give the leftover cents to the first portions. -/
theorem evenSharesRule : Obligations.EvenSharesRule := by
  refine ⟨fun total n hn => ⟨evenShares_length total n, evenShares_sum total hn, rfl,
      fun p hp => evenShares_getElem? total hp⟩, fun total n p htotal hle hp => ?_, fun w covers n lines _ => ⟨?_, ?_⟩,
    fun plan => Plan.settled_of_balances, by decide, by decide, evenShares_zero⟩
  · rw [evenShares_getElem? total hp, Nat.div_eq_of_lt htotal, Nat.mod_eq_of_lt htotal, if_neg (Nat.not_lt_of_le hle)]
  · exact freshPortions_shares (by simp [evenShares_length])
  · exact fun p hp => freshPortions_balance hp

/-! ## BY_SEAT plans (04 R66 to R69) -/

/-- Settles O33: each apportionment of a BY_SEAT plan sums to the figure that it divides. -/
theorem seatSharesAddUp : Obligations.SeatSharesAddUp := by
  intro w covers lines hlines hne
  have hseat : ∀ l ∈ lines, l.void = false → l.seat ≤ 30 := fun l hl hv => (hlines l hl hv).1
  exact ⟨fun cls _ => portionBases_sum hseat hne cls, fun cls _ => portionTaxes_sum hseat hne cls,
    serviceParts_sum hseat hne, seatShares_length w covers lines _, seatShares_sum hseat hne⟩

/-! ## Tax and service (04 R57, R60, R61) -/

/-- HALF_EVEN rounds up past the half, and at the half to the even cent (04 R57). -/
theorem roundCent_one (q : Nat) :
    roundCent 1 q = q / 100000 + if 50000 < q % 100000 ∨ q % 100000 = 50000 ∧ q / 100000 % 2 = 1 then 1 else 0 :=
  (apply_ite (q / 100000 + ·) _ 1 0).symm

/-- The class base is the sum of quantity times price less discount over the ACTIVE lines of the class (04 R58, R59). -/
theorem classBase_eq_sum (lines : List Line) (cls : Nat) :
    classBase lines cls
      = ((lines.filter fun l => !l.void && l.cls == cls).map fun l => l.quantity * l.price - l.discount).sum := by
  refine congrArg List.sum (List.map_congr_left fun l hl => ?_)
  have hactive : l.void = false := by simpa using (Bool.and_eq_true_iff.mp (List.mem_filter.mp hl).2).1
  rw [Line.net, hactive, if_neg Bool.false_ne_true, Line.gross]

/-- The taxes stand in the order of their classes (04 R60). -/
theorem totalsOf_taxes_getElem? (w : Settings) (covers : Nat) (lines : List Line) {cls : Nat} (h1 : 1 ≤ cls)
    (h8 : cls ≤ 8) : (totalsOf w covers lines).taxes[cls - 1]? = some (classTax w lines cls) := by
  have hplace : taxClasses[cls - 1]? = some cls := by interval_cases cls <;> rfl
  simp [totalsOf, hplace]

/-- No tax is due on a base of 0 or at a rate of 0 (04 R60). -/
theorem classTax_eq_zero {w : Settings} {lines : List Line} {cls : Nat}
    (h : classBase lines cls = 0 ∨ w.value cls = 0) : classTax w lines cls = 0 := by
  rcases h with h | h <;> simp [classTax, h]

/-- The bounds of the tax rate settings (11 R188). -/
theorem settingBounds_taxRate {cls : Nat} (h1 : 1 ≤ cls) (h8 : cls ≤ 8) : settingBounds cls = (0, 30000) := by
  interval_cases cls <;> rfl

/-- The threshold admits the service charge for these covers (04 R61). -/
theorem serviceOf_of_admitted {w : Settings} {covers : Nat} (h : w.value 11 ≠ 0 ∧ w.value 11 ≤ covers)
    (lines : List Line) : serviceOf w covers lines = roundCent (w.value 9) (subtotalOf lines * w.value 10) := if_pos h

theorem serviceOf_of_not_admitted {w : Settings} {covers : Nat} (h : ¬ (w.value 11 ≠ 0 ∧ w.value 11 ≤ covers))
    (lines : List Line) : serviceOf w covers lines = 0 := if_neg h

theorem serviceOf_of_no_rate {w : Settings} (h : w.value 10 = 0) (covers : Nat) (lines : List Line) :
    serviceOf w covers lines = 0 := by
  unfold serviceOf
  split <;> simp [h]

/-- The covers matter to the service charge only at its threshold (04 R61). -/
theorem serviceOf_congr {w : Settings} {covers covers' : Nat} (h : w.value 11 ≤ covers ↔ w.value 11 ≤ covers')
    (lines : List Line) : serviceOf w covers lines = serviceOf w covers' lines := by
  simp only [serviceOf, h]

/-- Settles O29: R60 and R61 as the Tally Engine computes them. -/
theorem taxAndServiceRules : Obligations.TaxAndServiceRules := by
  refine ⟨fun q => ⟨rfl, roundCent_one q⟩, fun w covers lines => ⟨rfl, ?_⟩, fun w covers covers' lines => ?_, rfl, rfl,
    fun w c c' hok => ?_⟩
  · rintro cls base h1 h8 hbase
    rw [← classBase_eq_sum] at hbase
    subst hbase
    rw [totalsOf_taxes_getElem? w covers lines h1 h8]
    exact ⟨rfl, fun h0 => congrArg some (classTax_eq_zero h0), settingBounds_taxRate h1 h8⟩
  · exact ⟨rfl, fun hne hle => serviceOf_of_admitted ⟨hne, hle⟩ lines,
      fun hor => serviceOf_of_not_admitted (by omega) lines, fun h0 => serviceOf_of_no_rate h0 covers lines,
      fun hiff => serviceOf_congr hiff lines⟩
  · obtain ⟨-, -, rfl⟩ := recompute_eq_ok hok
    rfl

end Sys2Proof.Machine
end

section
/-! GRANT, the LINK_OK input, NO_LINK completions and the departure from UP (07 R125 to R135). -/

namespace Sys2Proof.Machine

/-! ## GRANT (07 R133 to R135) -/

section
variable {s : State}

theorem grant_completes {n : Need} {rest : List Need} {j : Nat} {x : Tender} (hrun : s.running = true)
    (hup : s.aqp.link = .up) (hfree : s.freeEntry = some j) (hqueue : s.aqp.queue = n :: rest)
    (hx : s.tender? n.tender = some x) : exec .grant s = .next (s.grantNeed j n x) := by
  have hgrant : s.mayGrant = true := by simp [State.mayGrant, hrun, hup, hfree, hqueue]
  refine congrArg Host.Outcome.next ?_
  rw [if_pos hgrant, hqueue]
  dsimp only
  rw [hx, hfree]
  rfl

/-! ## Ends of needs (07 R129) -/

/-- A need completed as NO_LINK leaves the queue, and the INCREMENT of a tender whose withdraw was requested places the
REVERSE that the withdraw asks for (06 R107 to R109, 07 R129). -/
theorem State.completeNoLink_queue {n : Need} (hn : n.kind.ofHold = true) :
    ∃ placed : List Need, (∀ m ∈ placed, m.kind = .reverse ∧ m.tender = n.tender)
      ∧ (s.completeNoLink n).aqp.queue = s.aqp.queue.filter (fun m => m.tender != n.tender) ++ placed := by
  unfold State.completeNoLink State.endExchange
  split
  · exact ⟨[], nofun, (List.append_nil _).symm⟩
  next x _ =>
    cases hk : n.kind with
    | auth => exact ⟨[], nofun, by simp [State.endAuth, State.removeNeed]⟩
    | increment =>
      simp only [State.endIncrement, State.settleAuthorized]
      split
      · refine ⟨[{ tender := n.tender, kind := .reverse }], by simp, ?_⟩
        simp [State.reverseTender, State.placeNeed, State.removeNeed]
      · exact ⟨[], nofun, by simp [State.removeNeed]⟩
    | reverse | capture => simp [hk, NeedKind.ofHold] at hn

/-- Needs of different tenders completed one after another leave the others in their order, and after them the REVERSE
needs that they place. -/
theorem State.foldl_completeNoLink_queue {l : List Need} (hhold : ∀ n ∈ l, n.kind.ofHold = true)
    (hnodup : (l.map Need.tender).Nodup) :
    ∃ placed : List Need, (∀ m ∈ placed, m.kind = .reverse ∧ m.tender ∈ l.map Need.tender)
      ∧ (l.foldl State.completeNoLink s).aqp.queue
        = s.aqp.queue.filter (fun m => m.tender ∉ l.map Need.tender) ++ placed := by
  induction l generalizing s with
  | nil => exact ⟨[], nofun, by simp⟩
  | cons n l ih =>
    obtain ⟨hn, hl⟩ := List.nodup_cons.mp hnodup
    obtain ⟨hnhold, hlhold⟩ := List.forall_mem_cons.mp hhold
    obtain ⟨first, hfirst, hqueue⟩ := s.completeNoLink_queue hnhold
    obtain ⟨later, hlater, hqueues⟩ := ih (s := s.completeNoLink n) hlhold hl
    have hstay : first.filter (fun m => m.tender ∉ l.map Need.tender) = first :=
      List.filter_eq_self.mpr fun m hm => decide_eq_true (by rw [(hfirst m hm).2]; exact hn)
    refine ⟨first ++ later, fun m hm => ?_, ?_⟩
    · rcases List.mem_append.mp hm with hm | hm
      · exact ⟨(hfirst m hm).1, by simp [(hfirst m hm).2]⟩
      · exact ⟨(hlater m hm).1, List.mem_cons_of_mem _ (hlater m hm).2⟩
    · rw [List.foldl_cons, hqueues, hqueue, List.filter_append, hstay, List.filter_filter, List.append_assoc]
      congr 2
      funext m
      rw [Bool.eq_iff_iff]
      simp [not_or, and_comm]

/-- The departure from UP completes every queued AUTH and INCREMENT need, and leaves the others in their order
(07 R129). -/
theorem State.departUp_queue (hnodup : (s.aqp.queue.map Need.tender).Nodup) :
    ∃ placed : List Need, (∀ m ∈ placed, m.kind = .reverse)
      ∧ s.departUp.aqp.queue = (s.aqp.queue.filter fun n => !n.kind.ofHold) ++ placed := by
  obtain ⟨placed, hplaced, hqueue⟩ := State.foldl_completeNoLink_queue (s := s)
    (l := s.aqp.queue.filter fun n => n.kind.ofHold) (fun n hn => (List.mem_filter.mp hn).2)
    (hnodup.sublist (List.filter_sublist.map _))
  refine ⟨placed, fun m hm => (hplaced m hm).1, hqueue.trans (congrArg (· ++ placed) ?_)⟩
  refine List.filter_congr fun m hm => ?_
  have hsame : ∀ n ∈ s.aqp.queue, n.tender = m.tender → n = m := fun n hn he =>
    List.inj_on_of_nodup_map hnodup hn hm he
  have hiff : m.tender ∈ (s.aqp.queue.filter fun n => n.kind.ofHold).map Need.tender ↔ m.kind.ofHold = true := by
    constructor
    · intro hmem
      obtain ⟨n, hn, he⟩ := List.mem_map.mp hmem
      obtain ⟨hnq, hnhold⟩ := List.mem_filter.mp hn
      exact hsame n hnq he ▸ hnhold
    · exact fun hhold => List.mem_map_of_mem (List.mem_filter.mpr ⟨hm, hhold⟩)
  simp only [hiff]
  cases m.kind.ofHold <;> rfl

theorem NeedKind.ofHold_eq_false {k : NeedKind} : k.ofHold = false ↔ k = .reverse ∨ k = .capture := by
  cases k <;> simp [NeedKind.ofHold]

theorem NeedKind.ofHold_eq_true {k : NeedKind} : k.ofHold = true ↔ k = .auth ∨ k = .increment := by
  cases k <;> simp [NeedKind.ofHold]

/-- The oldest AUTH or INCREMENT need is the one completed (07 R129; log entry 9). -/
theorem noLinkCompletion_completes {before after : List Need} {n : Need} (hrun : s.running = true)
    (hdown : s.aqp.link ≠ .up) (hqueue : s.aqp.queue = before ++ n :: after)
    (hbefore : ∀ m ∈ before, m.kind = .reverse ∨ m.kind = .capture) (hn : n.kind = .auth ∨ n.kind = .increment) :
    exec .noLinkCompletion s = .next (s.completeNoLink n).flushPushes := by
  have hskipped : before.find? (fun m => m.kind.ofHold) = none :=
    List.find?_eq_none.mpr fun m hm => by simp [NeedKind.ofHold_eq_false.mpr (hbefore m hm)]
  have holdest : s.aqp.queue.find? (fun m => m.kind.ofHold) = some n := by
    rw [hqueue, List.find?_append, hskipped, Option.none_or,
      List.find?_cons_of_pos (p := fun m : Need => m.kind.ofHold) (NeedKind.ofHold_eq_true.mpr hn)]
  refine congrArg Host.Outcome.next ?_
  rw [if_pos (by simp [hrun, hdown]), holdest]

/-! ## The LINK_OK input (07 R127, R130) -/

theorem linkOkFall_completes (hrun : s.running = true) :
    exec .linkOkFall s = .next (if s.aqp.link = .up then
      (({ s with aqp := { s.aqp with linkOk := false, link := .down } } : State).departUp).flushPushes
      else { s with aqp := { s.aqp with linkOk := false } }) := by
  refine congrArg Host.Outcome.next ?_
  by_cases hup : s.aqp.link = .up
  · simp only [hrun, hup, decide_true, Bool.and_self, if_true]
    rfl
  · simp only [hrun, hup, decide_false, Bool.and_false, if_false, Bool.false_eq_true]
    rfl

theorem linkOkRise_completes (hrun : s.running = true) :
    exec .linkOkRise s = .next { s with aqp := { s.aqp with
      linkOk := true, link := if s.aqp.link = .down then .up else s.aqp.link } } := by
  refine congrArg Host.Outcome.next ?_
  by_cases hdown : s.aqp.link = .down
  · simp only [hrun, hdown, decide_true, Bool.and_self, if_true]
    rfl
  · simp only [hrun, hdown, decide_false, Bool.and_false, if_false, Bool.false_eq_true]
    rfl

end

/-- Settles O25: a grant writes its entry, its message and its tender's marks; the link events follow LINK_OK; and the
needs that a departure completes leave the queue. -/
theorem grantAndLinkEventsComplete : Obligations.GrantAndLinkEventsComplete := by
  refine ⟨fun s n rest j x hrun hup hfree hqueue hx => ?_, fun s hrun => linkOkFall_completes hrun,
    fun s hrun => linkOkRise_completes hrun, fun s before after n hrun hdown hqueue hbefore hn => ?_,
    fun s hnodup => ?_⟩
  · rw [grant_completes hrun hup hfree hqueue hx, State.grantNeed, GatewayPort.sendMessage_eq, hqueue]
    rfl
  · rw [noLinkCompletion_completes hrun hdown hqueue hbefore hn]
    rfl
  · obtain ⟨placed, hplaced, hqueue⟩ := s.departUp_queue hnodup
    rw [hqueue]
    refine ⟨fun n hn => ?_, ⟨placed, rfl⟩⟩
    rcases List.mem_append.mp hn with hn | hn
    · exact NeedKind.ofHold_eq_false.mp (by simpa using (List.mem_filter.mp hn).2)
    · exact .inl (hplaced n hn)

end Sys2Proof.Machine
end

section
/-! SUBMIT TIP as it is carried out (06 R104 to R106; 04 R74 to R77). -/

namespace Sys2Proof.Machine

/-! ## SUBMIT TIP (06 R104 to R106) -/

section
variable {s : State} {h : Hdr} {number slot tender form figure i : Nat} {c : Check} {x : Tender} {tip : Nat}

/-- The tip that a request names, as a figure or as a rate within 200,000 (04 R74). -/
def TipNamed (s : State) (form figure amount tip : Nat) : Prop :=
  (form = 0 ∧ tip = figure) ∨ (form = 1 ∧ figure ≤ 200000 ∧ tip = roundCent (s.setting 9) (amount * figure))

theorem TipNamed.tipAsked_eq {amount : Nat} (htip : TipNamed s form figure amount tip) :
    tipAsked s.sst.work (form == 1) amount figure = tip := by
  rcases htip with ⟨rfl, rfl⟩ | ⟨rfl, -, rfl⟩ <;> rfl

/-- No test of SUBMIT TIP refuses: the request is TAKEN (06 R104). -/
theorem submitTip_completes (hj : Judged s h .change) (hn : Named s number slot c)
    (hmay : s.mayChange h.term c = true) (hx : NamedTender (s.hear h.term) c tender i x)
    (htip : TipNamed s form figure x.amount tip) (hcap : tip ≤ x.amount * s.setting 12 / 100000)
    (hmax : x.amount + tip ≤ 99999999) (hready : Ready c h) (hopen : c.closeRunning = false)
    (hdone : x.state.isDone = false) (hidle : x.state.exchanging = false)
    (hclaim : x.needsIncrement tip = true → c.claimedByOther i x = false) :
    exec (.submitTip h number tender form figure) s = .next
      ((fun t : State => t.finish h 0x41 .taken (t.tenderBody i)) ((s.hear h.term).takeTip i x tip)) := by
  obtain ⟨hstale, hheld⟩ := hready
  have hform : ¬ 1 < form := by rcases htip with ⟨rfl, -⟩ | ⟨rfl, -⟩ <;> omega
  have hrate : ¬(form = 1 ∧ Config.maxTipRate < figure) := by
    rintro ⟨rfl, hlt⟩
    rcases htip with ⟨hzero, -⟩ | ⟨-, hle, -⟩
    · cases hzero
    · exact absurd hle (Nat.not_le_of_lt hlt)
  have hwithin : ¬ tipCap s.sst.work x.amount < tip := Nat.not_lt_of_le hcap
  have hrange : ¬ Config.maxAmount < x.amount + tip := Nat.not_lt_of_le hmax
  refine congrArg Host.Outcome.next (request_eq_finish hj ?_)
  rw [withCheck_of_named (hn.hear _), State.hear_mayChange, hmay, if_neg (by simp), withTender_of_named hx,
    State.hear_sst]
  dsimp only
  rw [htip.tipAsked_eq, judged_of_pass]
  simp only [judge_eq_none_cons, judge_nil, hdone, hstale, hheld, hopen, hidle, Bool.and_eq_false_imp,
    Bool.or_eq_false_iff, decide_eq_false_iff_not, beq_iff_eq, and_true, true_and]
  exact ⟨hform, fun h1 hlt => hrate ⟨h1, hlt⟩, ⟨hwithin, hrange⟩, hclaim⟩

/-- The tip of a TIP_WAIT tender sends it to AUTHORIZING for amount plus tip (06 R105). -/
theorem State.takeTip_of_tipWait (hwait : x.state = .tipWait) (tip : Nat) :
    s.takeTip i x tip = (s.tenderEvent i fun y => y.tipGiven tip).placeNeed i .auth := if_pos hwait

/-- An AUTHORIZED tender takes a new tip within its ceiling at once, and the tip it has without a change (06 R106). -/
theorem State.takeTip_of_within (hauth : x.state = .authorized) (hwithin : x.amount + tip ≤ x.ceiling.getD 0) :
    s.takeTip i x tip = if tip = x.tip then s else s.tenderEvent i fun y => { y with tip } := by
  have hneeds : ¬ x.needsIncrement tip = true := by
    simp only [Tender.needsIncrement, Bool.and_eq_true, decide_eq_true_eq]
    omega
  rw [State.takeTip, if_neg (by simp [hauth]), if_neg hneeds]

theorem Tender.needsIncrement_of_above (hauth : x.state = .authorized) (habove : x.ceiling.getD 0 < x.amount + tip) :
    x.needsIncrement tip = true := by simp [Tender.needsIncrement, hauth, habove]

/-- Above the ceiling the tip is held while an INCREMENT runs (06 R106). -/
theorem State.takeTip_of_above (hauth : x.state = .authorized) (habove : x.ceiling.getD 0 < x.amount + tip) :
    s.takeTip i x tip = (s.tenderEvent i fun y => y.tipHeld tip).placeNeed i .increment := by
  rw [State.takeTip, if_neg (by simp [hauth]), if_pos (Tender.needsIncrement_of_above hauth habove)]

end

/-- Settles O15: in each of its four cases the request is TAKEN, and the tender does what its state and its ceiling
say. -/
theorem submitTipCompletes : Obligations.SubmitTipCompletes := by
  intro s h number slot tender form figure i c x tip hj hn hmay hx htip hcap hmax hready hopen
  have htaken := submitTip_completes hj hn hmay hx htip hcap hmax hready hopen
  have hauthTaken (hauth : x.state = .authorized) :=
    htaken (by rw [hauth]; rfl) (by rw [hauth]; rfl)
  have hnone (hwithin : x.amount + tip ≤ x.ceiling.getD 0) (hneeds : x.needsIncrement tip = true) :
      c.claimedByOther i x = false := by
    simp only [Tender.needsIncrement, Bool.and_eq_true, decide_eq_true_eq] at hneeds
    omega
  refine ⟨fun hwait => ?_, fun hauth hwithin hnew => ?_, fun hauth hwithin hsame => ?_, fun hauth habove hclaim => ?_⟩
  · rw [htaken (by rw [hwait]; rfl) (by rw [hwait]; rfl) (by simp [Tender.needsIncrement, hwait]),
      State.takeTip_of_tipWait hwait]
    rfl
  · rw [hauthTaken hauth (hnone hwithin), State.takeTip_of_within hauth hwithin, if_neg hnew]
  · rw [hauthTaken hauth (hnone hwithin), State.takeTip_of_within hauth hwithin, if_pos hsame]
  · rw [hauthTaken hauth fun _ => hclaim, State.takeTip_of_above hauth habove]
    rfl

end Sys2Proof.Machine
end

section
/-! START TENDER as it is carried out, and what a new tender and a need make of the state (06 R99 to R103; 05 R87 to
R91; 01 R9, R10). -/

namespace Sys2Proof.Machine

/-! ## What an event handed on leaves alone (09 R162) -/

theorem State.recordHit_frame (s : State) (t n : Nat) (k : EventKind) :
    s.recordHit t n k = { s with wnu := (s.recordHit t n k).wnu } := by
  simp only [State.recordHit, State.raise]
  (repeat' split) <;> rfl

/-- An event handed on changes the Watch and Notice Unit alone (09 R162). -/
theorem State.handEvent_frame (s : State) (n : Nat) (k : EventKind) :
    s.handEvent n k = { s with wnu := (s.handEvent n k).wnu } := by
  unfold State.handEvent
  generalize s.wnu.watches = ws
  induction ws generalizing s with
  | nil => rfl
  | cons w ws ih =>
    rw [List.foldl_cons]
    split
    · refine (ih _).trans ?_
      rw [s.recordHit_frame w.terminal n k]
    · exact ih s

theorem WatchUnit.eq_of_fields {w v : WatchUnit} (hwatches : w.watches = v.watches) (hhits : w.hits = v.hits)
    (hcounts : w.pendCounts = v.pendCounts) (hstartup : w.startup = v.startup) (hkind : w.startKind = v.startKind)
    (hpushes : w.pushes = v.pushes) : w = v := by
  cases w
  cases v
  simp_all

/-- What an event hands on depends on the Watch and Notice Unit and the presence of terminals alone (09 R162, R165). -/
theorem State.handEvent_wnu_congr {s u : State} (hwnu : u.wnu = s.wnu) (hfmp : u.fmp = s.fmp) (n : Nat)
    (k : EventKind) : (u.handEvent n k).wnu = (s.handEvent n k).wnu := by
  have hhits := State.handEvent_hits_congr (s := u) (t := s) (by rw [hwnu]) (by rw [hwnu]) n k
  have hpushes := State.handEvent_pushes_congr (s := u) (t := s) (by rw [hwnu]) (by rw [hwnu]) (by rw [hfmp])
    (by rw [hwnu]) n k
  exact WatchUnit.eq_of_fields (by simp [hwnu]) hhits (by simp [hwnu]) (by simp [hwnu]) (by simp [hwnu]) hpushes

/-! ## The derivation of a check's state (01 R9, R10) -/

section
variable {s : State} {slot : Nat} {c : Check} {afterStart : Bool}

/-- A check outside CLOSING and CLOSE_FAULT is derived anew after a START TENDER (01 R9). -/
def Check.derives (c : Check) (afterStart : Bool) : Bool :=
  decide (c.state = .settling) || decide (c.state = .paid) || (afterStart && c.orderable)

theorem Check.derives_of_open (hc : c.closeRunning = false) : c.derives true = true := by
  cases hstate : c.state <;> simp_all [Check.derives, Check.closeRunning, Check.orderable]

/-- The derivation of a check that is derived anew: its new state, with its event where it is another one (01 R10). -/
theorem State.derive_eq (hc : s.check? slot = some c) (hderives : c.derives afterStart = true) :
    s.derive afterStart slot = if derivedState c.plan (s.tendersOf c) = c.state then s
      else (s.modCheck slot fun c' => { c' with state := derivedState c.plan (s.tendersOf c) }).handEvent c.number
        (derivedEvent (derivedState c.plan (s.tendersOf c))) := by
  have happlies : (decide (c.state = .settling) || decide (c.state = .paid) || (afterStart && c.orderable)) = true :=
    hderives
  simp only [State.derive, hc, happlies, true_and, ne_eq, ite_not]

theorem State.derive_check? (hc : s.check? slot = some c) (hderives : c.derives afterStart = true) :
    (s.derive afterStart slot).check? slot = some { c with state := derivedState c.plan (s.tendersOf c) } := by
  rw [State.derive_eq hc hderives]
  split
  next hsame => rw [hc, hsame]
  · rw [State.handEvent_check?, State.modCheck_check?_self, hc, Option.map_some]

theorem State.derive_check?_of_ne {j : Nat} (hj : j ≠ slot) : (s.derive afterStart slot).check? j = s.check? j := by
  unfold State.derive
  split
  · rfl
  · dsimp only
    split
    · rw [State.handEvent_check?, State.modCheck_check?, if_neg (Ne.symm hj)]
    · rfl

theorem State.derive_wnu (hc : s.check? slot = some c) (hderives : c.derives afterStart = true) :
    (s.derive afterStart slot).wnu = if derivedState c.plan (s.tendersOf c) = c.state then s.wnu
      else (s.handEvent c.number (derivedEvent (derivedState c.plan (s.tendersOf c)))).wnu := by
  rw [State.derive_eq hc hderives]
  split
  · rfl
  · exact State.handEvent_wnu_congr (State.modCheck_wnu s slot _) (State.modCheck_fmp s slot _) _ _

/-- A derivation writes the Check Table's slots and the Watch and Notice Unit alone (01 R10). -/
theorem State.derive_frame (s : State) (afterStart : Bool) (slot : Nat) :
    s.derive afterStart slot = { s with
      ckt := { s.ckt with slots := (s.derive afterStart slot).ckt.slots }
      wnu := (s.derive afterStart slot).wnu } := by
  unfold State.derive
  split
  · rfl
  · dsimp only
    split
    · rw [State.handEvent_ckt]
      exact State.handEvent_frame _ _ _
    · rfl

end

/-! ## A new tender (06 R97, R99; 05 R87, R90) -/

section
variable {s : State} {i : Nat} {x : Tender} {c : Check}

/-- A check that a new tender has joined, before its state is derived (06 R97; 05 R87, R90). -/
def Check.joined (c : Check) (i : Nat) (x : Tender) : Check :=
  { c.stepVersion with
    tenders := c.tenders ++ [i]
    plan := { c.plan with portions := c.plan.portions.map fun q =>
      if q.number = x.portion then q.begin i x else q } }

/-- The state that a new tender has joined, before the state of its check is derived. -/
def State.withTenderJoined (s : State) (i : Nat) (x : Tender) : State :=
  ({ s with tdu := { s.tdu with pool := s.tdu.pool.set i (some x) } } : State).modCheck x.slot (Check.joined · i x)

theorem State.beginTender_eq (s : State) (i : Nat) (x : Tender) :
    s.beginTender i x = (s.withTenderJoined i x).derive true x.slot := rfl

theorem TenderState.claims_iff {st : TenderState} :
    st.claims = true ↔ st = .tipWait ∨ st = .authorizing .auth ∨ st = .authorizing .increment := by
  cases st with
  | authorizing sub => cases sub <;> simp [TenderState.claims]
  | _ => simp [TenderState.claims]

/-- A portion that a new tender counts against (05 R87, R90). -/
theorem Portion.begin_eq (q : Portion) (i : Nat) (x : Tender) :
    q.begin i x = { q with
      counted := q.counted + x.amount
      claim := if x.state = .tipWait ∨ x.state = .authorizing .auth ∨ x.state = .authorizing .increment
        then some i else q.claim } := by
  simp only [Portion.begin, TenderState.claims_iff]

theorem State.withTenderJoined_check? (hc : s.check? x.slot = some c) (i : Nat) :
    (s.withTenderJoined i x).check? x.slot = some (c.joined i x) := by
  rw [State.withTenderJoined, State.modCheck_check?_self]
  exact congrArg (Option.map _) hc

theorem State.beginTender_check? (hc : s.check? x.slot = some c) (hopen : c.closeRunning = false) (i : Nat) :
    (s.beginTender i x).check? x.slot = some { c.joined i x with
      state := derivedState (c.joined i x).plan ((s.beginTender i x).tendersOf (c.joined i x)) } := by
  rw [State.beginTender_eq, State.derive_check? (State.withTenderJoined_check? hc i) (Check.derives_of_open hopen)]
  have htenders : ((s.withTenderJoined i x).derive true x.slot).tendersOf (c.joined i x)
      = (s.withTenderJoined i x).tendersOf (c.joined i x) :=
    State.tendersOf_congr (State.derive_tdu _ true x.slot) _
  rw [htenders]

theorem State.beginTender_check?_of_ne {j : Nat} (hj : j ≠ x.slot) : (s.beginTender i x).check? j = s.check? j := by
  rw [State.beginTender_eq, State.derive_check?_of_ne hj, State.withTenderJoined, State.modCheck_check?,
    if_neg (Ne.symm hj)]
  rfl

/-- The new tender's check hands on its event where its state is another one (01 R10). -/
theorem State.beginTender_wnu (hc : s.check? x.slot = some c) (hopen : c.closeRunning = false) (i : Nat) :
    (s.beginTender i x).wnu
      = if derivedState (c.joined i x).plan ((s.beginTender i x).tendersOf (c.joined i x)) = c.state then s.wnu
        else (s.handEvent c.number (derivedEvent
          (derivedState (c.joined i x).plan ((s.beginTender i x).tendersOf (c.joined i x))))).wnu := by
  have htenders : (s.beginTender i x).tendersOf (c.joined i x) = (s.withTenderJoined i x).tendersOf (c.joined i x) :=
    State.tendersOf_congr (State.derive_tdu _ true x.slot) _
  rw [htenders, State.beginTender_eq,
    State.derive_wnu (State.withTenderJoined_check? hc i) (Check.derives_of_open hopen)]
  have hwnu : (s.withTenderJoined i x).wnu = s.wnu := rfl
  have hfmp : (s.withTenderJoined i x).fmp = s.fmp := rfl
  exact if_congr Iff.rfl rfl (State.handEvent_wnu_congr hwnu hfmp _ _)

/-- A new tender touches the Check Table's slots, the tender pool and what its event hands on (06 R97, 01 R10). -/
theorem State.beginTender_frame (s : State) (i : Nat) (x : Tender) :
    s.beginTender i x = { s with
      ckt := { s.ckt with slots := (s.beginTender i x).ckt.slots }
      tdu := { s.tdu with pool := (s.beginTender i x).tdu.pool }
      wnu := (s.beginTender i x).wnu } := by
  have hpool : (s.beginTender i x).tdu = { s.tdu with pool := s.tdu.pool.set i (some x) } := State.derive_tdu _ _ _
  rw [hpool]
  exact State.derive_frame (s.withTenderJoined i x) true x.slot

/-- A need that is placed joins the end of the wait queue, and clears sent on its tender (06 R103, 07 R132). -/
theorem placeNeed_spec (s : State) (i : Nat) (k : NeedKind) :
    (s.placeNeed i k).aqp = { s.aqp with queue := s.aqp.queue ++ [{ tender := i, kind := k }] }
    ∧ (s.placeNeed i k).tender? i = (s.tender? i).map (fun x => { x with sent := false })
    ∧ ∀ j, j ≠ i → (s.placeNeed i k).tender? j = s.tender? j :=
  ⟨rfl, State.modTender_tender?_self s i _,
    fun j hj => (State.modTender_tender? s i _ j).trans (if_neg (Ne.symm hj))⟩

end

/-! ## START TENDER (06 R99 to R102) -/

section
variable {s : State} {h : Hdr} {number slot portion kind asked i amount : Nat} {token : List Byte} {c : Check}
  {p : Portion} {k : TenderKind}

@[simp] theorem State.hear_freeTenderIndex (s : State) (t : Nat) : (s.hear t).freeTenderIndex = s.freeTenderIndex := by
  rw [State.freeTenderIndex, State.hear_pool, List.findIdx?_map, State.freeTenderIndex]
  congr 1
  funext o
  cases o <;> rfl

/-- No test of START TENDER refuses: the request is TAKEN, and the tender counts the amount found (06 R100). -/
theorem startTender_completes (hj : Judged s h .change) (hn : Named s number slot c)
    (hmay : s.mayChange h.term c = true) (htoken : token.length = 32) (hle : portion ≤ c.plan.count)
    (hp : c.plan.portion? portion = some p) (hasked : asked ≤ 99999999) (hclaim : p.claim = none) (hready : Ready c h)
    (hbusy : c.startBusy = false) (hroom : c.tenders.length < 16) (hfree : s.freeTenderIndex = some i)
    (hkind : TenderKind.ofNat? kind = some k) (hamount : startAmount k asked p.balance = some amount) :
    exec (.startTender h number portion kind asked token) s = .next
      ((fun t : State => t.finish h 0x40 .taken (be1 (c.tenders.length + 1) ++ t.tenderBody i))
        ((s.hear h.term).startTender i
          (newTender slot (c.tenders.length + 1) portion k (holderOf h.term) (s.sectionOf c.table) amount) k asked
          p.balance token)) := by
  obtain ⟨hstale, hheld⟩ := hready
  have hmax : ¬ Config.maxAmount < asked := Nat.not_lt_of_le hasked
  have hlist : ¬ Config.tenderListMax ≤ c.tenders.length := Nat.not_le_of_lt hroom
  show Host.Outcome.next (if token.length ≠ 32 then _ else _) = _
  rw [if_neg (not_not.mpr htoken)]
  refine congrArg Host.Outcome.next (request_eq_finish hj ?_)
  rw [State.tryTender, withCheck_of_named (hn.hear _)]
  dsimp only
  rw [if_pos hle, hp, hkind, Option.getD_some, Option.map_some, Option.getD_some, hamount, Option.getD_some,
    State.hear_freeTenderIndex, hfree, Option.getD_some, State.hear_sectionOf, State.hear_mayChange, judged_of_pass]
  simp [judge_eq_none_cons, judge_nil, hmay, hmax, hstale, hheld, hclaim, hbusy, hlist]

/-- The money that is given, or asked for: 0 stands for the whole balance (04 R72, R73). -/
def moneyGiven (asked balance : Nat) : Nat := if asked = 0 then balance else asked

/-- Cash counts the smaller of what is given and the balance (04 R73). -/
theorem startAmount_cash {balance : Nat} (hasked : asked ≤ 99999999) (hbalance : balance ≠ 0) :
    startAmount .cash asked balance = some (min (moneyGiven asked balance) balance) := by
  have hmax : ¬ Config.maxAmount < asked := Nat.not_lt_of_le hasked
  have hcounted : min (moneyGiven asked balance) balance ≠ 0 := by
    unfold moneyGiven
    split <;> omega
  exact (if_neg hmax).trans (congrArg (Option.map _) (if_neg hcounted))

/-- A card tender counts the amount asked for (04 R72). -/
theorem startAmount_card {balance : Nat} (hk : k ≠ .cash) (hasked : asked ≤ 99999999)
    (hpos : moneyGiven asked balance ≠ 0) (hle : asked ≤ balance) :
    startAmount k asked balance = some (moneyGiven asked balance) := by
  have hmax : ¬ Config.maxAmount < asked := Nat.not_lt_of_le hasked
  have hwithin : ¬(moneyGiven asked balance = 0 ∨ balance < moneyGiven asked balance) := by
    rintro (h0 | hlt)
    · exact hpos h0
    · unfold moneyGiven at hlt
      split at hlt <;> omega
  cases k with
  | cash => exact absurd rfl hk
  | tipFirst | tipLater => exact (if_neg hmax).trans (if_neg hwithin)

end

/-- Settles O14: no test refuses, the kinds differ in what their tender becomes, and the tender and its need are
written as R97, R99 and R103 say. -/
theorem startTenderCompletes : Obligations.StartTenderCompletes := by
  refine ⟨fun s h number slot portion kind asked i token c p hj hn hmay htoken hle hp hasked hclaim hready hbusy hroom
    hfree => ?_, fun s i x c hc hi hopen => ⟨_, State.beginTender_check? hc hopen i, ?_,
      State.beginTender_wnu hc hopen i, ?_, fun j hj => ?_, fun j hj => State.beginTender_check?_of_ne hj,
      s.beginTender_frame i x⟩, placeNeed_spec⟩
  · have htaken {k : TenderKind} {amount : Nat} :=
      startTender_completes (k := k) (amount := amount) (kind := kind) hj hn hmay htoken hle hp hasked hclaim hready
        hbusy hroom hfree
    refine ⟨?_, ?_, ?_⟩
    · rintro rfl hbalance
      exact htaken rfl (startAmount_cash hasked hbalance)
    · rintro rfl hpos hwithin
      rw [htaken rfl (startAmount_card nofun hasked hpos hwithin)]
      simp only [State.startTender, State.hear_now, State.hear_setting]
      rfl
    · rintro rfl hpos hwithin
      exact htaken rfl (startAmount_card nofun hasked hpos hwithin)
  · simp only [← Portion.begin_eq]
    rfl
  · rw [State.beginTender_tender? hi, if_pos rfl]
  · rw [State.beginTender_tender? hi, if_neg hj]

end Sys2Proof.Machine
end

section
/-! The books of a check: what stands against its portions, and who claims them (05 R81, R87, R90). A change of the part
either leaves the books alone or changes those of one check, and is then judged there. -/

namespace Sys2Proof.Machine

/-! ## Stakes and ledgers -/

/-- What the portions of a check see of a tender (05 R87, R90). -/
structure Stake where
  slot : Nat
  portion : Nat
  amount : Nat
  counts : Bool
  claims : Bool

/-- What a tender stakes. -/
def Tender.stake (x : Tender) : Stake :=
  { slot := x.slot, portion := x.portion, amount := x.amount, counts := x.state.counts, claims := x.state.claims }

/-- The tender list and the portions of a check. -/
structure Ledger where
  tenders : List Nat
  portions : List Portion

/-- The ledger of a check. -/
def Check.ledger (c : Check) : Ledger := { tenders := c.tenders, portions := c.plan.portions }

/-- The stake of the tender with pool index i. -/
def State.stake? (s : State) (i : Nat) : Option Stake := (s.tender? i).map Tender.stake

/-- The ledger of the check in a slot. -/
def State.ledger? (s : State) (slot : Nat) : Option Ledger := (s.check? slot).map Check.ledger

/-- What a stake puts against portion number n (05 R87). -/
def Stake.against (x : Stake) (n : Nat) : Nat := if x.counts = true ∧ x.portion = n then x.amount else 0

theorem Tender.stake_against (x : Tender) (n : Nat) :
    x.stake.against n = if x.state.counts = true ∧ x.portion = n then x.amount else 0 := rfl

/-- What the tenders of a list put against portion number n (05 R87). -/
def sumAgainst (stakes : Nat → Option Stake) (n : Nat) (l : List Nat) : Nat :=
  (l.map fun i => ((stakes i).map (Stake.against · n)).getD 0).sum

/-- What PortionsCounted and TendersListed say of the ledger of the check in a slot (05 R87, R90; 06 R97). -/
structure Ledger.Balanced (stakes : Nat → Option Stake) (slot : Nat) (l : Ledger) : Prop where
  nodup : l.tenders.Nodup
  listed : ∀ i ∈ l.tenders, ∃ x, stakes i = some x ∧ x.slot = slot
  numbered : (l.portions.map Portion.number).Nodup
  placed : ∀ i ∈ l.tenders, ∀ x, stakes i = some x → x.counts = true → x.portion ∈ l.portions.map Portion.number
  counted : ∀ p ∈ l.portions, p.counted = sumAgainst stakes p.number l.tenders
  within : ∀ p ∈ l.portions, p.counted ≤ p.share
  claimed : ∀ p ∈ l.portions, ∀ i, p.claim = some i ↔
    i ∈ l.tenders ∧ ∃ x, stakes i = some x ∧ x.portion = p.number ∧ x.claims = true

/-- Every ledger is balanced, and every tender stands in the ledger of its check. -/
structure Books (s : State) : Prop where
  balanced : ∀ slot l, s.ledger? slot = some l → l.Balanced s.stake? slot
  owned : ∀ i x, s.stake? i = some x → ∃ l, s.ledger? x.slot = some l ∧ i ∈ l.tenders

section
variable {s t : State} {i slot n : Nat} {x : Tender} {c : Check}

theorem State.stake?_of_tender? (hx : s.tender? i = some x) : s.stake? i = some x.stake := by
  rw [State.stake?, hx, Option.map_some]

theorem State.ledger?_of_check? (hc : s.check? slot = some c) : s.ledger? slot = some c.ledger := by
  rw [State.ledger?, hc, Option.map_some]

theorem State.stake?_eq_some {z : Stake} : s.stake? i = some z ↔ ∃ x, s.tender? i = some x ∧ x.stake = z :=
  Option.map_eq_some_iff

theorem State.ledger?_eq_some {l : Ledger} : s.ledger? slot = some l ↔ ∃ c, s.check? slot = some c ∧ c.ledger = l :=
  Option.map_eq_some_iff

/-- A tender that claims counts (05 R87, R90). -/
theorem TenderState.counts_of_claims {st : TenderState} (h : st.claims = true) : st.counts = true := by
  cases st <;> simp_all [TenderState.claims, TenderState.counts]

theorem State.countedSum_eq (s : State) (c : Check) (n : Nat) : s.countedSum c n = sumAgainst s.stake? n c.tenders := by
  unfold State.countedSum State.tendersOf sumAgainst
  induction c.tenders with
  | nil => rfl
  | cons i l ih =>
    rw [List.map_cons, List.sum_cons, ← ih, List.filterMap_cons]
    cases hx : s.tender? i with
    | none => simp [State.stake?, hx]
    | some x =>
      rw [State.stake?_of_tender? hx, Option.map_some, Option.getD_some, Tender.stake_against, List.filter_cons]
      simp only [Bool.and_eq_true, beq_iff_eq]
      by_cases h : x.state.counts = true ∧ x.portion = n
      · rw [if_pos h, if_pos h, List.map_cons, List.sum_cons]
      · rw [if_neg h, if_neg h, Nat.zero_add]

theorem State.mem_tendersOf : x ∈ s.tendersOf c ↔ ∃ i ∈ c.tenders, s.tender? i = some x := List.mem_filterMap

/-! ## The tender list of a check (06 R96 to R98) -/

section
variable {i slot : Nat} (hc : s.check? slot = some c)
include hc

theorem TendersListed.nodup (hlisted : TendersListed s) : c.tenders.Nodup := by
  obtain ⟨-, hlists, -⟩ := hlisted
  obtain ⟨-, hentry⟩ := hlists slot c hc
  refine List.nodup_iff_getElem?_ne_getElem?.mpr fun j k hjk hk he => ?_
  obtain ⟨i, hi⟩ : ∃ i, c.tenders[k]? = some i := ⟨_, List.getElem?_eq_getElem hk⟩
  obtain ⟨x, hx, -, hnumber⟩ := hentry k i hi
  obtain ⟨y, hy, -, hnumber'⟩ := hentry j i (he.trans hi)
  obtain rfl := Option.some.inj (hx.symm.trans hy)
  omega

theorem TendersListed.mem_tenders (hlisted : TendersListed s) :
    i ∈ c.tenders ↔ ∃ x, s.tender? i = some x ∧ x.slot = slot := by
  obtain ⟨-, hlists, htenders⟩ := hlisted
  constructor
  · intro hi
    obtain ⟨k, hk⟩ := List.getElem?_of_mem hi
    obtain ⟨x, hx, hslot, -⟩ := (hlists slot c hc).2 k i hk
    exact ⟨x, hx, hslot⟩
  · rintro ⟨x, hx, rfl⟩
    obtain ⟨d, k, hd, hk, -⟩ := htenders i x hx
    obtain rfl := Option.some.inj (hc.symm.trans hd)
    exact List.mem_of_getElem? hk

end

/-- The invariants of the statement, read as books. -/
theorem Books.of_invariants (hlisted : TendersListed s) (hcounted : PortionsCounted s) : Books s := by
  refine ⟨fun slot l hl => ?_, fun i z hz => ?_⟩
  · obtain ⟨c, hc, rfl⟩ := State.ledger?_eq_some.mp hl
    obtain ⟨hnumbered, hplaced, hportions⟩ := hcounted slot c hc
    refine ⟨hlisted.nodup hc, fun i hi => ?_, hnumbered, fun i hi z hz hcounts => ?_, fun p hp => ?_, fun p hp => ?_,
      fun p hp i => ?_⟩
    · obtain ⟨x, hx, hslot⟩ := (hlisted.mem_tenders hc).mp hi
      exact ⟨x.stake, State.stake?_of_tender? hx, hslot⟩
    · obtain ⟨x, hx, rfl⟩ := State.stake?_eq_some.mp hz
      exact hplaced x (State.mem_tendersOf.mpr ⟨i, hi, hx⟩) hcounts
    · rw [(hportions p hp).1, State.countedSum_eq]; rfl
    · exact (hportions p hp).2.1
    · rw [(hportions p hp).2.2 i]
      refine and_congr_right fun _ => ⟨fun ⟨x, hx, hn, hclaims⟩ => ⟨x.stake, State.stake?_of_tender? hx, hn, hclaims⟩, ?_⟩
      rintro ⟨z, hz, hn, hclaims⟩
      obtain ⟨x, hx, rfl⟩ := State.stake?_eq_some.mp hz
      exact ⟨x, hx, hn, hclaims⟩
  · obtain ⟨x, hx, rfl⟩ := State.stake?_eq_some.mp hz
    obtain ⟨-, -, htenders⟩ := hlisted
    obtain ⟨c, k, hc, hk, -⟩ := htenders i x hx
    exact ⟨c.ledger, State.ledger?_of_check? hc, List.mem_of_getElem? hk⟩

/-- Balanced ledgers are counted portions. -/
theorem Books.portionsCounted (hs : Books s) : PortionsCounted s := by
  intro slot c hc
  have hbalanced := hs.balanced slot _ (State.ledger?_of_check? hc)
  refine ⟨hbalanced.numbered, fun x hx hcounts => ?_, fun p hp =>
    ⟨(hbalanced.counted p hp).trans (s.countedSum_eq c p.number).symm, hbalanced.within p hp, fun i => ?_⟩⟩
  · obtain ⟨i, hi, hx⟩ := State.mem_tendersOf.mp hx
    exact hbalanced.placed i hi _ (State.stake?_of_tender? hx) hcounts
  · rw [hbalanced.claimed p hp i]
    refine and_congr_right fun _ => ⟨?_, fun ⟨x, hx, hn, hclaims⟩ => ⟨x.stake, State.stake?_of_tender? hx, hn, hclaims⟩⟩
    rintro ⟨z, hz, hn, hclaims⟩
    obtain ⟨x, hx, rfl⟩ := State.stake?_eq_some.mp hz
    exact ⟨x, hx, hn, hclaims⟩

/-! ## Books that stay as they are -/

/-- Two states with the same ledgers and the same stakes. -/
structure SameBooks (s t : State) : Prop where
  ledger : ∀ slot, t.ledger? slot = s.ledger? slot
  stake : ∀ i, t.stake? i = s.stake? i

theorem SameBooks.refl (s : State) : SameBooks s s := ⟨fun _ => rfl, fun _ => rfl⟩

theorem SameBooks.trans {u : State} (hst : SameBooks s t) (htu : SameBooks t u) : SameBooks s u :=
  ⟨fun j => (htu.ledger j).trans (hst.ledger j), fun i => (htu.stake i).trans (hst.stake i)⟩

theorem SameBooks.foldl {α : Type} {f : State → α → State} (h : ∀ s a, SameBooks s (f s a)) (l : List α) (s : State) :
    SameBooks s (l.foldl f s) := by
  induction l generalizing s with
  | nil => exact .refl s
  | cons a l ih => exact (h s a).trans (ih _)

/-- What leaves the Check Table and the Tender Unit alone leaves the books alone. -/
theorem SameBooks.of_eq (h : t.ckt = s.ckt ∧ t.tdu = s.tdu) : SameBooks s t :=
  ⟨fun _ => by rw [State.ledger?, State.check?, h.1]; rfl, fun _ => by rw [State.stake?, State.tender?, h.2]; rfl⟩

/-- A change of the tenders alone, each of which keeps its stake. -/
theorem SameBooks.of_tenders {g : Nat → Tender → Tender} (hckt : t.ckt = s.ckt)
    (h : ∀ i, t.tender? i = (s.tender? i).map (g i))
    (hg : ∀ i x, s.tender? i = some x → (g i x).stake = x.stake) : SameBooks s t := by
  refine ⟨fun _ => by rw [State.ledger?, State.check?, hckt]; rfl, fun i => ?_⟩
  rw [State.stake?, h, State.stake?]
  cases hx : s.tender? i with
  | none => rfl
  | some x => exact congrArg some (hg i x hx)

/-- A change of one tender that keeps its stake. -/
theorem SameBooks.modTender {f : Tender → Tender} (hf : ∀ x, s.tender? i = some x → (f x).stake = x.stake) :
    SameBooks s (s.modTender i f) :=
  .of_tenders (g := fun j x => if i = j then f x else x) rfl
    (fun j => by rw [State.modTender_tender?]; split <;> simp) fun j x hx => by
      split
      next hij => exact hf x (hij ▸ hx)
      · rfl

/-- A change of a check that keeps its ledger. -/
theorem SameBooks.modCheck {f : Check → Check} (hf : ∀ c, s.check? slot = some c → (f c).ledger = c.ledger) :
    SameBooks s (s.modCheck slot f) := by
  refine ⟨fun j => ?_, fun i => by rw [State.stake?, State.modCheck_tender?]; rfl⟩
  rw [State.ledger?, State.modCheck_check?, State.ledger?]
  split
  next hj =>
    subst hj
    cases hc : s.check? slot with
    | none => rfl
    | some c => exact congrArg some (hf c hc)
  · rfl

theorem Ledger.Balanced.congr {stakes stakes' : Nat → Option Stake} {l : Ledger}
    (h : ∀ i ∈ l.tenders, stakes' i = stakes i) (hl : l.Balanced stakes slot) : l.Balanced stakes' slot where
  nodup := hl.nodup
  listed i hi := h i hi ▸ hl.listed i hi
  numbered := hl.numbered
  placed i hi := h i hi ▸ hl.placed i hi
  counted p hp := by
    have hsum : sumAgainst stakes' p.number l.tenders = sumAgainst stakes p.number l.tenders :=
      congrArg List.sum (List.map_congr_left fun i hi => by rw [h i hi])
    rw [hsum]
    exact hl.counted p hp
  within := hl.within
  claimed p hp i := (hl.claimed p hp i).trans (and_congr_right fun hi => by rw [h i hi])

theorem SameBooks.books (h : SameBooks s t) (hs : Books s) : Books t where
  balanced slot l hl := (hs.balanced slot l (h.ledger slot ▸ hl)).congr fun i _ => h.stake i
  owned i x hx := by
    obtain ⟨l, hl, hi⟩ := hs.owned i x (h.stake i ▸ hx)
    exact ⟨l, (h.ledger _).trans hl, hi⟩

/-- What leaves the Check Table and the Tender Unit alone keeps the books. -/
theorem Books.of_eq (hs : Books s) (h : t.ckt = s.ckt ∧ t.tdu = s.tdu) : Books t := (SameBooks.of_eq h).books hs

/-! ## The books of one check -/

/-- A change that touches the books of one check alone keeps all books when it keeps those. -/
theorem Books.of_slot (hs : Books s) (slot : Nat) (hledger : ∀ j, j ≠ slot → t.ledger? j = s.ledger? j)
    (hstake : ∀ i z, z.slot ≠ slot → (t.stake? i = some z ↔ s.stake? i = some z))
    (hhere : ∀ l, t.ledger? slot = some l → l.Balanced t.stake? slot)
    (howned : ∀ i z, t.stake? i = some z → z.slot = slot → ∃ l, t.ledger? slot = some l ∧ i ∈ l.tenders) : Books t where
  balanced j l hl := by
    by_cases hj : j = slot
    · exact hj ▸ hhere l (hj ▸ hl)
    · have hbalanced := hs.balanced j l (hledger j hj ▸ hl)
      refine hbalanced.congr fun i hi => ?_
      obtain ⟨z, hz, hzj⟩ := hbalanced.listed i hi
      exact ((hstake i z (hzj.symm ▸ hj)).mpr hz).trans hz.symm
  owned i z hz := by
    by_cases hslot : z.slot = slot
    · exact hslot ▸ howned i z hz hslot
    · obtain ⟨l, hl, hi⟩ := hs.owned i z ((hstake i z hslot).mp hz)
      exact ⟨l, (hledger _ hslot).trans hl, hi⟩

/-- What one tender puts against a portion is part of the sum of a list that names it once. -/
theorem sumAgainst_update {stakes stakes' : Nat → Option Stake} {z z' : Stake} (hz : stakes i = some z)
    (hz' : stakes' i = some z') (hsame : ∀ j, j ≠ i → stakes' j = stakes j) {l : List Nat} (hl : l.Nodup) (hi : i ∈ l) :
    sumAgainst stakes' n l + z.against n = sumAgainst stakes n l + z'.against n := by
  unfold sumAgainst
  induction l with
  | nil => cases hi
  | cons k l ih =>
    obtain ⟨hk, hl⟩ := List.nodup_cons.mp hl
    simp only [List.map_cons, List.sum_cons]
    by_cases hki : k = i
    · subst hki
      have hrest : (l.map fun i => ((stakes' i).map (Stake.against · n)).getD 0)
          = l.map fun i => ((stakes i).map (Stake.against · n)).getD 0 :=
        List.map_congr_left fun j hj => by rw [hsame j (by rintro rfl; exact hk hj)]
      rw [hrest, hz, hz', Option.map_some, Option.map_some, Option.getD_some, Option.getD_some]
      omega
    · have := ih hl ((List.mem_cons.mp hi).resolve_left (Ne.symm hki))
      rw [hsame k hki]
      omega

end
end Sys2Proof.Machine
end

section
/-! The changes of the books: a tender event, a new tender, new figures, a new check and a retirement (05 R83, R87, R88,
R90; 01 R11, R21). -/

namespace Sys2Proof.Machine

section
variable {s t : State} {i slot : Nat} {x y : Tender} {c : Check} {f : Tender → Tender}

/-! ## Tender events (05 R87, R88, R90) -/

/-- A change of a tender that stays where it is: it never counts again once it has stopped, and takes a claim only
where no other tender has it (05 R87, R90). -/
structure Tender.Follows (s : State) (i : Nat) (x y : Tender) : Prop where
  slot : y.slot = x.slot
  portion : y.portion = x.portion
  amount : y.amount = x.amount
  counts : y.state.counts = true → x.state.counts = true
  claims : y.state.claims = true → x.state.claims = true
    ∨ ∀ c, s.check? x.slot = some c → ∀ p ∈ c.plan.portions, p.number = x.portion → ∀ j, p.claim = some j → j = i

theorem Portion.follow_number (p : Portion) (i : Nat) (x y : Tender) : (p.follow i x y).number = p.number := rfl

/-- A portion that a tender stands against, after a change of the tender (05 R87, R90). -/
theorem Portion.follow_balanced {stakes stakes' : Nat → Option Stake} {l : Ledger} {p : Portion}
    (hl : l.Balanced stakes x.slot) (hi : i ∈ l.tenders) (hx : stakes i = some x.stake) (hy : stakes' i = some y.stake)
    (hsame : ∀ j, j ≠ i → stakes' j = stakes j) (hp : p ∈ l.portions) (hnumber : p.number = x.portion)
    (hportion : y.portion = x.portion) (hamount : y.amount = x.amount)
    (hclaims : y.state.claims = true → ∀ j, p.claim = some j → j = i) (hcounts : x.state.counts = true) :
    (p.follow i x y).counted = sumAgainst stakes' p.number l.tenders ∧ (p.follow i x y).counted ≤ p.share
      ∧ ∀ j, (p.follow i x y).claim = some j ↔
        j ∈ l.tenders ∧ ∃ z, stakes' j = some z ∧ z.portion = p.number ∧ z.claims = true := by
  have hsum := sumAgainst_update (n := p.number) hx hy hsame hl.nodup hi
  rw [Tender.stake_against, Tender.stake_against, if_pos ⟨hcounts, hnumber.symm⟩, hportion, hamount,
    ← hl.counted p hp] at hsum
  have hwithin := hl.within p hp
  have hcounted : (p.follow i x y).counted = if y.state.counts = true then p.counted else p.counted - x.amount := by
    cases hy : y.state.counts <;> simp [Portion.follow, hcounts, hy]
  refine ⟨?_, ?_, fun j => ?_⟩
  · rw [hcounted]
    split at hsum
    next h => rw [if_pos h.1]; omega
    next h => rw [if_neg fun hc => h ⟨hc, hnumber.symm⟩]; omega
  · rw [hcounted]
    split <;> omega
  · have hold := hl.claimed p hp
    by_cases hji : j = i
    · subst hji
      have hnew : (∃ z, stakes' j = some z ∧ z.portion = p.number ∧ z.claims = true) ↔ y.state.claims = true := by
        constructor
        · rintro ⟨z, hz, -, hzc⟩
          obtain rfl := Option.some.inj (hy.symm.trans hz)
          exact hzc
        · exact fun h => ⟨_, hy, hportion.trans hnumber.symm, h⟩
      rw [hnew]
      simp only [Portion.follow]
      cases hyc : y.state.claims
      · simp only [Bool.false_eq_true, if_false, and_false, iff_false]
        split
        · exact nofun
        next h => exact h
      · simp [hi]
    · rw [hsame j hji, ← hold j]
      simp only [Portion.follow]
      split
      next h =>
        refine ⟨fun he => absurd (Option.some.inj he).symm hji, fun he => absurd (hclaims h j he) hji⟩
      · split
        next h => rw [h]; exact ⟨nofun, fun he => absurd (Option.some.inj he).symm hji⟩
        · exact Iff.rfl

/-- A portion that a tender does not stand against is not touched by a change of the tender (05 R87, R90). -/
theorem Ledger.Balanced.apart {stakes stakes' : Nat → Option Stake} {l : Ledger} {p : Portion}
    (hl : l.Balanced stakes x.slot) (hi : i ∈ l.tenders) (hx : stakes i = some x.stake) (hy : stakes' i = some y.stake)
    (hsame : ∀ j, j ≠ i → stakes' j = stakes j) (hp : p ∈ l.portions)
    (happart : ∀ z : Tender, z = x ∨ z = y → z.state.counts = true → p.number ≠ z.portion) :
    p.counted = sumAgainst stakes' p.number l.tenders
      ∧ ∀ j, p.claim = some j ↔
        j ∈ l.tenders ∧ ∃ z, stakes' j = some z ∧ z.portion = p.number ∧ z.claims = true := by
  have hnone : ∀ z : Tender, z = x ∨ z = y → z.stake.against p.number = 0 := fun z hz =>
    (z.stake_against _).trans (if_neg fun h => happart z hz h.1 h.2.symm)
  have hnoclaim : ∀ z : Tender, z = x ∨ z = y → ¬(z.portion = p.number ∧ z.state.claims = true) := fun z hz h =>
    happart z hz (TenderState.counts_of_claims h.2) h.1.symm
  refine ⟨?_, fun j => ?_⟩
  · have hsum := sumAgainst_update (n := p.number) hx hy hsame hl.nodup hi
    rw [hnone x (.inl rfl), hnone y (.inr rfl)] at hsum
    rw [hl.counted p hp]
    exact hsum.symm
  · rw [hl.claimed p hp j]
    by_cases hji : j = i
    · subst hji
      refine and_congr_right fun _ => iff_of_false ?_ ?_
      · rintro ⟨z, hz, h⟩
        obtain rfl := Option.some.inj (hx.symm.trans hz)
        exact hnoclaim x (.inl rfl) h
      · rintro ⟨z, hz, h⟩
        obtain rfl := Option.some.inj (hy.symm.trans hz)
        exact hnoclaim y (.inr rfl) h
    · rw [hsame j hji]

/-- The ledger of a check after a change of one of its tenders. -/
def Ledger.follow (l : Ledger) (i : Nat) (x y : Tender) : Ledger :=
  { l with portions := if x.state.counts then
      l.portions.map fun q => if q.number = x.portion then q.follow i x y else q
    else l.portions }

theorem Check.follow_ledger (c : Check) (i : Nat) (x y : Tender) :
    ({ c with plan := c.plan.follow i x y } : Check).ledger = c.ledger.follow i x y := by
  unfold Check.ledger Ledger.follow Plan.follow
  dsimp only
  split <;> rfl

theorem Ledger.follow_numbers (l : Ledger) (i : Nat) (x y : Tender) :
    (l.follow i x y).portions.map Portion.number = l.portions.map Portion.number := by
  unfold Ledger.follow
  split
  · rw [List.map_map]
    refine List.map_congr_left fun q _ => ?_
    dsimp only [Function.comp]
    split <;> rfl
  · rfl

theorem Ledger.mem_follow {l : Ledger} {p' : Portion} (hp : p' ∈ (l.follow i x y).portions) :
    ∃ p ∈ l.portions, (p' = p.follow i x y ∧ p.number = x.portion ∧ x.state.counts = true)
      ∨ (p' = p ∧ (x.state.counts = true → p.number ≠ x.portion)) := by
  unfold Ledger.follow at hp
  split at hp
  next hcounts =>
    obtain ⟨p, hmem, rfl⟩ := List.mem_map.mp hp
    refine ⟨p, hmem, ?_⟩
    split
    next h => exact .inl ⟨rfl, h, hcounts⟩
    next h => exact .inr ⟨rfl, fun _ => h⟩
  next hcounts => exact ⟨p', hp, .inr ⟨rfl, fun h => absurd h hcounts⟩⟩

/-- The ledger of a tender that changes follows it (05 R87, R90). -/
theorem Ledger.follow_balanced {stakes' : Nat → Option Stake} (hs : Books s) (hc : s.check? x.slot = some c)
    (hx : s.tender? i = some x) (hfollows : x.Follows s i y) (hy : stakes' i = some y.stake)
    (hsame : ∀ j, j ≠ i → stakes' j = s.stake? j) : (c.ledger.follow i x y).Balanced stakes' x.slot := by
  have hbalanced := hs.balanced _ _ (State.ledger?_of_check? hc)
  have hx' := State.stake?_of_tender? hx
  obtain ⟨l, hl, hi⟩ := hs.owned i _ hx'
  obtain rfl := Option.some.inj (hl.symm.trans (State.ledger?_of_check? hc))
  have hclaims : ∀ p ∈ c.ledger.portions, p.number = x.portion → y.state.claims = true →
      ∀ j, p.claim = some j → j = i := by
    intro p hp hnumber hyc j hj
    rcases hfollows.claims hyc with hxc | hfree
    · have hclaim := (hbalanced.claimed p hp i).mpr ⟨hi, _, hx', hnumber.symm, hxc⟩
      exact Option.some.inj (hj.symm.trans hclaim)
    · exact hfree c hc p hp hnumber j hj
  have happart : ∀ p : Portion, (x.state.counts = true → p.number ≠ x.portion) →
      ∀ z : Tender, z = x ∨ z = y → z.state.counts = true → p.number ≠ z.portion := by
    rintro p hp z (rfl | rfl) hcounts
    · exact hp hcounts
    · exact hfollows.portion ▸ hp (hfollows.counts hcounts)
  refine ⟨hbalanced.nodup, fun j hj => ?_, ?_, fun j hj z hz hcounts => ?_, fun p' hp' => ?_, fun p' hp' => ?_,
    fun p' hp' => ?_⟩
  · by_cases hji : j = i
    · subst hji
      exact ⟨y.stake, hy, hfollows.slot⟩
    · rw [hsame j hji]
      exact hbalanced.listed j hj
  · rw [Ledger.follow_numbers]
    exact hbalanced.numbered
  · rw [Ledger.follow_numbers]
    by_cases hji : j = i
    · subst hji
      obtain rfl := Option.some.inj (hy.symm.trans hz)
      exact (congrArg (· ∈ _) hfollows.portion).mpr (hbalanced.placed j hj _ hx' (hfollows.counts hcounts))
    · exact hbalanced.placed j hj z (hsame j hji ▸ hz) hcounts
  · obtain ⟨p, hp, ⟨rfl, hnumber, hcounts⟩ | ⟨rfl, hne⟩⟩ := Ledger.mem_follow hp'
    · exact (Portion.follow_balanced hbalanced hi hx' hy hsame hp hnumber hfollows.portion hfollows.amount
        (hclaims p hp hnumber) hcounts).1
    · exact (hbalanced.apart hi hx' hy hsame hp (happart p' hne)).1
  · obtain ⟨p, hp, ⟨rfl, hnumber, hcounts⟩ | ⟨rfl, hne⟩⟩ := Ledger.mem_follow hp'
    · exact (Portion.follow_balanced hbalanced hi hx' hy hsame hp hnumber hfollows.portion hfollows.amount
        (hclaims p hp hnumber) hcounts).2.1
    · exact hbalanced.within p' hp
  · obtain ⟨p, hp, ⟨rfl, hnumber, hcounts⟩ | ⟨rfl, hne⟩⟩ := Ledger.mem_follow hp'
    · exact (Portion.follow_balanced hbalanced hi hx' hy hsame hp hnumber hfollows.portion hfollows.amount
        (hclaims p hp hnumber) hcounts).2.2
    · exact (hbalanced.apart hi hx' hy hsame hp (happart p' hne)).2

theorem State.moveTender_eq (hx : s.tender? i = some x) :
    s.moveTender i f = (s.modTender i f).modCheck x.slot fun c => { c with plan := c.plan.follow i x (f x) } := by
  rw [State.moveTender, hx]

/-- The tender and its portion change together (05 R88). -/
theorem State.moveTender_books (hs : Books s) (hf : ∀ x, s.tender? i = some x → x.Follows s i (f x)) :
    Books (s.moveTender i f) := by
  cases hx : s.tender? i with
  | none =>
    rw [State.moveTender, hx]
    exact hs
  | some x =>
    have hfollows := hf x hx
    have hx' := State.stake?_of_tender? hx
    obtain ⟨l, hl, hi⟩ := hs.owned i _ hx'
    obtain ⟨c, hc, rfl⟩ := State.ledger?_eq_some.mp hl
    have hhere : (s.moveTender i f).ledger? x.slot = some (c.ledger.follow i x (f x)) := by
      have hc' : s.check? x.slot = some c := hc
      rw [State.moveTender_eq hx, State.ledger?, State.modCheck_check?_self, State.modTender_check?, hc', Option.map_some,
        Option.map_some, Check.follow_ledger]
    have hself : (s.moveTender i f).stake? i = some (f x).stake := by
      rw [State.stake?, State.moveTender_tender?, if_pos rfl, hx]; rfl
    have hsame : ∀ j, j ≠ i → (s.moveTender i f).stake? j = s.stake? j := fun j hj => by
      rw [State.stake?, State.moveTender_tender?, if_neg hj, State.stake?]
    refine hs.of_slot x.slot (fun j hj => ?_) (fun j z hz => ?_) (fun l hl => ?_) (fun j z hz hslot => ?_)
    · rw [State.moveTender_eq hx, State.ledger?, State.modCheck_check?, if_neg (Ne.symm hj), State.modTender_check?,
        State.ledger?]
    · by_cases hji : j = i
      · subst hji
        rw [hself, hx']
        refine iff_of_false ?_ ?_ <;> intro he <;> refine hz ?_ <;> rw [← Option.some.inj he]
        · exact hfollows.slot
        · rfl
      · rw [hsame j hji]
    · obtain rfl := Option.some.inj (hhere.symm.trans hl)
      exact Ledger.follow_balanced hs hc hx hfollows hself hsame
    · refine ⟨_, hhere, ?_⟩
      by_cases hji : j = i
      · exact hji ▸ hi
      · obtain ⟨l, hl', hj⟩ := hs.owned j z (hsame j hji ▸ hz)
        rw [hslot] at hl'
        obtain rfl := Option.some.inj (hl.symm.trans hl')
        exact hj

theorem SameBooks.handEvent (h : SameBooks s t) (n : Nat) (k : EventKind) : SameBooks s (t.handEvent n k) :=
  h.trans (.of_eq (by simp))

theorem State.derive_sameBooks (s : State) (b : Bool) (slot : Nat) : SameBooks s (s.derive b slot) := by
  simp only [State.derive]
  split
  · exact .refl s
  · split
    · refine SameBooks.handEvent (.modCheck ?_) _ _
      exact fun _ _ => rfl
    · exact .refl s

/-- A tender event carries its portion along (05 R88). -/
theorem State.tenderEvent_books (hs : Books s) (hf : ∀ x, s.tender? i = some x → x.Follows s i (f x)) :
    Books (s.tenderEvent i f) := by
  unfold State.tenderEvent
  split
  · exact hs
  · refine (State.derive_sameBooks _ _ _).books (SameBooks.books ?_ (State.moveTender_books hs hf))
    exact .modCheck fun _ _ => rfl

/-- Where a tender stands: its check, its portion and its amount. -/
def Tender.place (x : Tender) : Nat × Nat × Nat := (x.slot, x.portion, x.amount)

/-- A tender that stays where it is and takes no claim keeps to its portion, if it has counted or counts no more. -/
theorem Tender.Follows.of_unclaiming (hplace : y.place = x.place)
    (hcounts : y.state.counts = true → x.state.counts = true) (hclaims : y.state.claims = false) :
    x.Follows s i y := by
  simp only [Tender.place, Prod.mk.injEq] at hplace
  obtain ⟨hslot, hportion, hamount⟩ := hplace
  exact ⟨hslot, hportion, hamount, hcounts, fun h => absurd h (by simp [hclaims])⟩

end
end Sys2Proof.Machine
end

section
/-! The books of a check that a new tender joins, that gets new figures, that is new, or that retires. -/

namespace Sys2Proof.Machine

section
variable {s t : State} {i slot : Nat} {x : Tender} {c c' : Check}

/-! ## A new tender (06 R97; 05 R87, R90) -/

/-- The ledger of a check that a new tender has joined. -/
def Ledger.joined (l : Ledger) (i : Nat) (x : Tender) : Ledger :=
  { tenders := l.tenders ++ [i], portions := l.portions.map fun q => if q.number = x.portion then q.begin i x else q }

theorem Check.joined_ledger (c : Check) (i : Nat) (x : Tender) : (c.joined i x).ledger = c.ledger.joined i x := rfl

theorem Ledger.joined_numbers (l : Ledger) (i : Nat) (x : Tender) :
    (l.joined i x).portions.map Portion.number = l.portions.map Portion.number := by
  rw [Ledger.joined, List.map_map]
  refine List.map_congr_left fun q _ => ?_
  dsimp only [Function.comp]
  split <;> rfl

theorem sumAgainst_append (stakes : Nat → Option Stake) (n : Nat) (l m : List Nat) :
    sumAgainst stakes n (l ++ m) = sumAgainst stakes n l + sumAgainst stakes n m := by
  simp [sumAgainst]

theorem sumAgainst_congr {stakes stakes' : Nat → Option Stake} {l : List Nat} (n : Nat)
    (h : ∀ i ∈ l, stakes' i = stakes i) : sumAgainst stakes' n l = sumAgainst stakes n l :=
  congrArg List.sum (List.map_congr_left fun i hi => by rw [h i hi])

/-- A portion has room for a new tender: what it counts fits its balance, and no other tender claims it (04 R72, R73;
05 R90). -/
structure Portion.Admits (p : Portion) (x : Tender) : Prop where
  number : p.number = x.portion
  amount : x.amount ≤ p.balance
  unclaimed : p.claim = none

section
variable {stakes stakes' : Nat → Option Stake} {l : Ledger} {p q : Portion} (hl : l.Balanced stakes x.slot)
  (hx : stakes' i = some x.stake) (hsame : ∀ j, j ≠ i → stakes' j = stakes j)
include hl hx hsame

/-- What stands against a portion after a new tender. -/
theorem Ledger.Balanced.sum_joined (hnew : i ∉ l.tenders) (hcounts : x.state.counts = true) (hq : q ∈ l.portions) :
    sumAgainst stakes' q.number (l.tenders ++ [i]) = q.counted + if q.number = x.portion then x.amount else 0 := by
  have hone : sumAgainst stakes' q.number [i] = if q.number = x.portion then x.amount else 0 := by
    simp [sumAgainst, hx, Tender.stake_against, hcounts, eq_comm]
  rw [sumAgainst_append, sumAgainst_congr _ fun j hj => hsame j (by rintro rfl; exact hnew hj), ← hl.counted q hq, hone]

/-- Who claims a portion after a new tender. -/
theorem Ledger.Balanced.claim_joined (hnew : i ∉ l.tenders) (hq : q ∈ l.portions) (j : Nat) :
    (j ∈ l.tenders ++ [i] ∧ ∃ z, stakes' j = some z ∧ z.portion = q.number ∧ z.claims = true)
      ↔ q.claim = some j ∨ (j = i ∧ q.number = x.portion ∧ x.state.claims = true) := by
  rw [List.mem_append, List.mem_singleton, hl.claimed q hq j]
  by_cases hji : j = i
  · subst hji
    simp only [hnew, false_or, true_and, false_and, hx, Option.some.injEq, exists_eq_left']
    exact and_congr_left fun _ => eq_comm
  · simp only [hji, or_false, false_and, hsame j hji]

/-- A new tender against a portion with room for it (05 R87, R90). -/
theorem Ledger.Balanced.joined (hfree : stakes i = none) (hp : p ∈ l.portions) (hadmits : p.Admits x)
    (hcounts : x.state.counts = true) : (l.joined i x).Balanced stakes' x.slot := by
  have hnew : i ∉ l.tenders := fun hi => by
    obtain ⟨z, hz, -⟩ := hl.listed i hi
    cases hfree.symm.trans hz
  have hold : ∀ j ∈ l.tenders, stakes' j = stakes j := fun j hj => hsame j (by rintro rfl; exact hnew hj)
  have hmem : ∀ j, j ∈ (l.joined i x).tenders ↔ j ∈ l.tenders ∨ j = i := by simp [Ledger.joined]
  have hunique : ∀ q ∈ l.portions, q.number = x.portion → q = p := fun q hq hn =>
    List.inj_on_of_nodup_map hl.numbered hq hp (hn.trans hadmits.number.symm)
  refine ⟨?_, fun j hj => ?_, ?_, fun j hj z hz hzc => ?_, fun q' hq' => ?_, fun q' hq' => ?_, fun q' hq' j => ?_⟩
  · exact List.nodup_append.mpr ⟨hl.nodup, List.nodup_singleton i, fun a ha b hb => by
      rintro rfl
      exact hnew (List.mem_singleton.mp hb ▸ ha)⟩
  · rcases (hmem j).mp hj with hj | rfl
    · rw [hold j hj]; exact hl.listed j hj
    · exact ⟨_, hx, rfl⟩
  · rw [Ledger.joined_numbers]; exact hl.numbered
  · rw [Ledger.joined_numbers]
    rcases (hmem j).mp hj with hj | rfl
    · exact hl.placed j hj z (hold j hj ▸ hz) hzc
    · obtain rfl := Option.some.inj (hx.symm.trans hz)
      exact List.mem_map.mpr ⟨p, hp, hadmits.number⟩
  · obtain ⟨q, hq, rfl⟩ := List.mem_map.mp hq'
    have hsum := hl.sum_joined hx hsame hnew hcounts hq
    split
    next hn => rw [if_pos hn] at hsum; exact hsum.symm
    next hn => rw [if_neg hn] at hsum; exact hsum.symm
  · obtain ⟨q, hq, rfl⟩ := List.mem_map.mp hq'
    have hwithin := hl.within q hq
    split
    next hn =>
      obtain rfl := hunique q hq hn
      have hroom := hadmits.amount
      simp only [Portion.balance] at hroom
      show q.counted + x.amount ≤ q.share
      omega
    · exact hwithin
  · obtain ⟨q, hq, rfl⟩ := List.mem_map.mp hq'
    have hclaim := hl.claim_joined hx hsame hnew hq j
    split
    next hn =>
      obtain rfl := hunique q hq hn
      refine Iff.trans ?_ hclaim.symm
      rw [hadmits.unclaimed]
      simp only [Portion.begin, hadmits.unclaimed]
      cases hxc : x.state.claims <;> simp [hn, eq_comm]
    next hn => exact Iff.trans (by simp [hn]) hclaim.symm

end

theorem State.withTenderJoined_stake? (hi : i < s.tdu.pool.length) (x : Tender) (j : Nat) :
    (s.withTenderJoined i x).stake? j = if j = i then some x.stake else s.stake? j := by
  have htender := State.beginTender_tender? hi x j
  rw [State.beginTender_eq, State.derive_tender?] at htender
  rw [State.stake?, htender]
  split <;> rfl

/-- A new tender stands against its portion (06 R101, R102; 05 R87, R90). -/
theorem State.beginTender_books {p : Portion} (hs : Books s) (hi : s.freeTenderIndex = some i)
    (hc : s.check? x.slot = some c) (hp : p ∈ c.plan.portions) (hadmits : p.Admits x)
    (hcounts : x.state.counts = true) : Books (s.beginTender i x) := by
  obtain ⟨hlt, hnone⟩ := State.freeTenderIndex_spec hi
  have hfree : s.stake? i = none := by rw [State.stake?, hnone, Option.map_none]
  have hhere : (s.withTenderJoined i x).ledger? x.slot = some (c.ledger.joined i x) :=
    State.ledger?_of_check? (State.withTenderJoined_check? hc i)
  have hself : (s.withTenderJoined i x).stake? i = some x.stake := by
    rw [State.withTenderJoined_stake? hlt, if_pos rfl]
  have hsame : ∀ j, j ≠ i → (s.withTenderJoined i x).stake? j = s.stake? j := fun j hj => by
    rw [State.withTenderJoined_stake? hlt, if_neg hj]
  refine (State.derive_sameBooks _ true x.slot).books (hs.of_slot x.slot (fun j hj => ?_) (fun j z hz => ?_)
    (fun l hl => ?_) (fun j z hz hslot => ?_))
  · rw [State.ledger?, State.modCheck_check?, if_neg (Ne.symm hj)]
    rfl
  · show (s.withTenderJoined i x).stake? j = some z ↔ _
    by_cases hji : j = i
    · subst hji
      rw [hself, hfree]
      exact iff_of_false (fun he => hz (Option.some.inj he ▸ rfl)) nofun
    · rw [hsame j hji]
  · obtain rfl := Option.some.inj (hhere.symm.trans hl)
    exact (hs.balanced _ _ (State.ledger?_of_check? hc)).joined hself hsame hfree hp hadmits hcounts
  · refine ⟨_, hhere, List.mem_append.mpr ?_⟩
    by_cases hji : j = i
    · exact .inr (List.mem_singleton.mpr hji)
    · obtain ⟨l, hl, hj⟩ := hs.owned j z (hsame j hji ▸ hz)
      rw [hslot] at hl
      obtain rfl := Option.some.inj (hl.symm.trans (State.ledger?_of_check? hc))
      exact .inl hj

/-! ## New figures (05 R83; 04 R71) -/

/-- Portions against which nothing stands, as a plan is built (05 R83). -/
structure Portions.Fresh (ps : List Portion) : Prop where
  numbered : (ps.map Portion.number).Nodup
  counted : ∀ p ∈ ps, p.counted = 0
  unclaimed : ∀ p ∈ ps, p.claim = none

/-- No tender of the list counts (01 R9). -/
def NoneCounts (stakes : Nat → Option Stake) (l : List Nat) : Prop :=
  ∀ i ∈ l, ∀ z, stakes i = some z → z.counts = false ∧ z.claims = false

theorem NoneCounts.sumAgainst {stakes : Nat → Option Stake} {l : List Nat} (h : NoneCounts stakes l) (n : Nat) :
    sumAgainst stakes n l = 0 := by
  refine List.sum_eq_zero fun a ha => ?_
  obtain ⟨i, hi, rfl⟩ := List.mem_map.mp ha
  cases hz : stakes i with
  | none => rfl
  | some z => simp [Stake.against, (h i hi z hz).1]

/-- Portions against which no tender counts are as a plan is built. -/
theorem Ledger.Balanced.fresh {stakes : Nat → Option Stake} {l : Ledger} (hl : l.Balanced stakes slot)
    (hnone : NoneCounts stakes l.tenders) : Portions.Fresh l.portions where
  numbered := hl.numbered
  counted p hp := (hl.counted p hp).trans (hnone.sumAgainst _)
  unclaimed p hp := by
    rw [Option.eq_none_iff_forall_ne_some]
    intro i hi
    obtain ⟨hmem, z, hz, -, hclaims⟩ := (hl.claimed p hp i).mp hi
    simp [(hnone i hmem z hz).2] at hclaims

/-- A check of which no tender counts may take any portions against which nothing stands. -/
theorem Ledger.Balanced.of_fresh {stakes : Nat → Option Stake} {l l' : Ledger} (hl : l.Balanced stakes slot)
    (hnone : NoneCounts stakes l.tenders) (htenders : l'.tenders = l.tenders) (hfresh : Portions.Fresh l'.portions) :
    l'.Balanced stakes slot where
  nodup := htenders ▸ hl.nodup
  listed i hi := hl.listed i (htenders ▸ hi)
  numbered := hfresh.numbered
  placed i hi z hz hcounts := by simp [(hnone i (htenders ▸ hi) z hz).1] at hcounts
  counted p hp := by rw [htenders, hnone.sumAgainst, hfresh.counted p hp]
  within p hp := by rw [hfresh.counted p hp]; exact Nat.zero_le _
  claimed p hp i := by
    rw [hfresh.unclaimed p hp]
    refine iff_of_false nofun ?_
    rintro ⟨hi, z, hz, -, hclaims⟩
    simp [(hnone i (htenders ▸ hi) z hz).2] at hclaims

/-- A check of which no tender counts takes new figures (05 R83; 04 R71). -/
theorem State.modCheck_books_of_fresh {f : Check → Check} (hs : Books s) (hc : s.check? slot = some c)
    (hnone : NoneCounts s.stake? c.tenders) (htenders : (f c).tenders = c.tenders)
    (hfresh : Portions.Fresh (f c).plan.portions) : Books (s.modCheck slot f) := by
  have hhere : (s.modCheck slot f).ledger? slot = some (f c).ledger := by
    rw [State.ledger?, State.modCheck_check?_self, hc]; rfl
  have hstake : ∀ i, (s.modCheck slot f).stake? i = s.stake? i := fun i => by
    rw [State.stake?, State.modCheck_tender?, State.stake?]
  refine hs.of_slot slot (fun j hj => ?_) (fun i z _ => by rw [hstake]) (fun l hl => ?_) (fun i z hz hslot => ?_)
  · rw [State.ledger?, State.modCheck_check?, if_neg (Ne.symm hj), State.ledger?]
  · obtain rfl := Option.some.inj (hhere.symm.trans hl)
    refine Ledger.Balanced.congr (fun i _ => hstake i) ?_
    exact (hs.balanced _ _ (State.ledger?_of_check? hc)).of_fresh hnone htenders hfresh
  · obtain ⟨l, hl, hi⟩ := hs.owned i z (hstake i ▸ hz)
    rw [hslot] at hl
    obtain rfl := Option.some.inj (hl.symm.trans (State.ledger?_of_check? hc))
    exact ⟨_, hhere, (congrArg (i ∈ ·) htenders).mpr hi⟩

theorem freshPortions_numbers (shares : List Nat) (seats : List (Option Nat)) :
    (freshPortions shares seats).map Portion.number = (List.range (shares.zip seats).length).map (· + 1) := by
  refine List.ext_getElem (by simp [freshPortions]) fun k _ _ => ?_
  simp [freshPortions]

theorem freshPortions_fresh (shares : List Nat) (seats : List (Option Nat)) :
    Portions.Fresh (freshPortions shares seats) := by
  refine ⟨?_, fun p hp => ?_, fun p hp => ?_⟩
  · rw [freshPortions_numbers]
    exact List.nodup_range.map (fun _ _ => Nat.succ.inj)
  all_goals
    obtain ⟨⟨⟨share, seat⟩, k⟩, -, rfl⟩ := List.mem_map.mp hp
    rfl

theorem buildPlan_fresh (w : Settings) (covers : Nat) (lines : List Line) (kind : PlanKind) (n : Nat) :
    Portions.Fresh (buildPlan w covers lines kind n).portions := by
  cases kind <;> exact freshPortions_fresh _ _

/-- A recomputation leaves nothing standing where nothing stood (04 R71). -/
theorem rebuiltPlan_fresh (w : Settings) {c : Check} (total : Nat) (hc : Portions.Fresh c.plan.portions) :
    Portions.Fresh (rebuiltPlan w c total).portions := by
  unfold rebuiltPlan
  split
  · split <;> exact hc
  · exact buildPlan_fresh _ _ _ _ _

/-- An amount entered writes shares alone (05 R84). -/
theorem Plan.enter_fresh {p : Plan} (hp : Portions.Fresh p.portions) (n amount : Nat) :
    Portions.Fresh (p.enter n amount).portions := by
  have hkept : ∀ q : Portion, (if q.number = n then { q with share := amount } else q).number = q.number
      ∧ (if q.number = n then { q with share := amount } else q).counted = q.counted
      ∧ (if q.number = n then { q with share := amount } else q).claim = q.claim := fun q => by
    split <;> exact ⟨rfl, rfl, rfl⟩
  refine ⟨?_, fun q' hq' => ?_, fun q' hq' => ?_⟩
  · have hnumbers : (p.enter n amount).portions.map Portion.number = p.portions.map Portion.number := by
      rw [Plan.enter, List.map_map]
      exact List.map_congr_left fun q _ => (hkept q).1
    exact hnumbers ▸ hp.numbered
  all_goals obtain ⟨q, hq, rfl⟩ := List.mem_map.mp hq'
  · exact (hkept q).2.1.trans (hp.counted q hq)
  · exact (hkept q).2.2.trans (hp.unclaimed q hq)

/-! ## New checks, retirement and cleared memory (01 R11, R21; 11 R197) -/

/-- A new check has no tender, and nothing stands against its one portion (01 R11, 05 R80). -/
theorem State.placeCheck_books (hs : Books s) (hslot : s.freeSlot = some slot) (hnone : c.tenders = [])
    (hfresh : Portions.Fresh c.plan.portions) : Books (s.placeCheck slot c) := by
  obtain ⟨hlt, hfree⟩ := State.freeSlot_spec hslot
  have hstake : ∀ i, (s.placeCheck slot c).stake? i = s.stake? i := fun i => by
    rw [State.stake?, State.placeCheck_tender?, State.stake?]
  have hempty : NoneCounts (s.placeCheck slot c).stake? [] := fun _ hi => by cases hi
  refine hs.of_slot slot (fun j hj => ?_) (fun i z _ => by rw [hstake]) (fun l hl => ?_) (fun i z hz hz' => ?_)
  · rw [State.ledger?, State.placeCheck_check? hlt, if_neg hj, State.ledger?]
  · rw [State.ledger?, State.placeCheck_check? hlt, if_pos rfl] at hl
    obtain rfl := Option.some.inj hl
    have hblank : Ledger.Balanced (s.placeCheck slot c).stake? slot { tenders := [], portions := [] } :=
      ⟨List.nodup_nil, nofun, List.nodup_nil, nofun, nofun, nofun, nofun⟩
    exact hblank.of_fresh hempty hnone hfresh
  · obtain ⟨l, hl, -⟩ := hs.owned i z (hstake i ▸ hz)
    rw [hz', State.ledger?, hfree] at hl
    cases hl

/-- A check that retires takes its tenders along, and no other (01 R21). -/
theorem State.retire_books (hs : Books s) (slot : Nat) : Books (s.retire slot) := by
  cases hc : s.check? slot with
  | none => rw [State.retire_of_free hc]; exact hs
  | some c =>
    have hl := State.ledger?_of_check? hc
    have hstake : ∀ i, (s.retire slot).stake? i = if i ∈ c.tenders then none else s.stake? i := fun i => by
      rw [State.stake?, State.retire_tender? hc, State.stake?]
      split <;> rfl
    have hgone : (s.retire slot).ledger? slot = none := by
      rw [State.ledger?, State.retire_check? hc, if_pos rfl, Option.map_none]
    have hown : ∀ i z, s.stake? i = some z → (i ∈ c.tenders ↔ z.slot = slot) := by
      intro i z hz
      constructor
      · intro hi
        obtain ⟨z', hz', hslot⟩ := (hs.balanced slot _ hl).listed i hi
        exact Option.some.inj (hz.symm.trans hz') ▸ hslot
      · intro hslot
        obtain ⟨l, hl', hi⟩ := hs.owned i z hz
        rw [hslot] at hl'
        obtain rfl := Option.some.inj (hl.symm.trans hl')
        exact hi
    refine hs.of_slot slot (fun j hj => ?_) (fun i z hz => ?_) (fun l hl => ?_) (fun i z hz hslot => ?_)
    · rw [State.ledger?, State.retire_check? hc, if_neg hj, State.ledger?]
    · rw [hstake]
      split
      next hi => exact iff_of_false nofun fun he => hz ((hown i z he).mp hi)
      · exact Iff.rfl
    · cases hgone.symm.trans hl
    · rw [hstake] at hz
      split at hz
      · cases hz
      next hi => exact absurd ((hown i z hz).mpr hslot) hi

/-- Cleared memory holds no check and no tender (11 R197). -/
theorem Books.of_cleared (hckt : t.ckt = State.reset.ckt) (htdu : t.tdu = State.reset.tdu) : Books t where
  balanced slot l hl := by
    rw [State.ledger?, State.check?, hckt] at hl
    change (State.reset.check? slot).map Check.ledger = some l at hl
    rw [State.reset_check?] at hl
    cases hl
  owned i z hz := by
    rw [State.stake?, State.tender?, htdu] at hz
    change (State.reset.tender? i).map Tender.stake = some z at hz
    rw [State.reset_tender?] at hz
    cases hz

end
end Sys2Proof.Machine
end

section
/-! What the shared operations do to the books: each leaves them alone or keeps them. -/

namespace Sys2Proof.Machine

section
variable {s t : State} {i slot : Nat} {x y : Tender} {c : Check} {f : Tender → Tender}

/-! ## Operations that leave the books alone -/

theorem SameBooks.of_tender? (hckt : t.ckt = s.ckt) (h : ∀ i, t.tender? i = s.tender? i) : SameBooks s t :=
  .of_tenders (g := fun _ x => x) hckt (fun i => by rw [h, Option.map_id']) fun _ _ _ => rfl

theorem Tender.withStatus_stake (x : Tender) (st : Status) : (x.withStatus st).stake = x.stake := by
  unfold Tender.withStatus
  split <;> rfl

theorem State.setStatus_sameBooks (s : State) (i : Nat) (st : Status) : SameBooks s (s.setStatus i st) :=
  .of_tenders (g := fun j x => if j = i then x.withStatus st else x) (by simp)
    (fun j => by rw [State.setStatus_tender?]; split <;> simp) fun j x _ => by
      split
      · exact x.withStatus_stake st
      · rfl

theorem State.placeNeed_sameBooks (s : State) (i : Nat) (k : NeedKind) : SameBooks s (s.placeNeed i k) := by
  have hsent : SameBooks s (s.modTender i fun x => { x with sent := false }) := .modTender fun _ _ => rfl
  exact hsent.trans (.of_eq ⟨rfl, rfl⟩)

theorem State.collect_sameBooks (s : State) (i : Nat) : SameBooks s (s.collect i) := by
  unfold State.collect
  split
  · exact .refl s
  next x _ =>
    split
    · have hcleared : SameBooks s (s.modTender i fun x => { x with primary := none, latest := none }) :=
        .modTender fun _ _ => rfl
      exact hcleared.trans (.of_tender? (by simp) (State.unlist_tender? _ i _))
    · exact .refl s

theorem State.mapLeases_sameBooks (s : State) (slot : Nat) (g : Lease → Lease) : SameBooks s (s.mapLeases slot g) :=
  .of_tenders rfl (s.mapLeases_tender? slot g) fun _ x _ => by split <;> rfl

theorem State.addHold_sameBooks (s : State) (slot : Nat) (r : HoldReason) : SameBooks s (s.addHold slot r) := by
  simp only [State.addHold]
  split
  · exact .refl s
  next c _ =>
    have hput : SameBooks s (s.modCheck slot fun c =>
        { c with holds := c.holds.put r true, version := nextVersion c.version }) := .modCheck fun _ _ => rfl
    split
    · exact hput
    · exact (hput.handEvent c.number .held).trans (State.mapLeases_sameBooks _ slot _)

theorem State.withRecord_sameBooks (s : State) (a : Approval) : SameBooks s (s.withRecord a) := .of_eq ⟨rfl, rfl⟩

theorem State.park_sameBooks (s : State) (slot term : Nat) (change : Parked) :
    SameBooks s (s.park slot term change).1 := by
  rw [s.park_fst]
  have hheld : SameBooks s ((s.withRecord (s.parkRecord slot term change)).addHold slot .approval) :=
    (s.withRecord_sameBooks _).trans (State.addHold_sameBooks _ slot .approval)
  dsimp only
  split
  · exact hheld.trans (.of_eq (by simp))
  · exact hheld

theorem State.hear_sameBooks (s : State) (t : Nat) : SameBooks s (s.hear t) :=
  .of_tenders (by simp) (s.hear_tender? t) fun _ x _ => by
    unfold Tender.heardBy
    split <;> rfl

theorem State.startClose_sameBooks (s : State) (slot : Nat) (c : Check) :
    SameBooks s (s.startClose slot (s.toCapture c)) := by
  refine ⟨fun j => ?_, fun i => ?_⟩
  · have hcaptures : ∀ (l : List Nat) (u : State), (l.foldl State.startCapture u).check? j = u.check? j := fun l u => by
      induction l generalizing u with
      | nil => rfl
      | cons i l ih => rw [List.foldl_cons, ih, State.startCapture_check?]
    have hopened : SameBooks s (s.modCheck slot fun c =>
        { c.stepVersion with state := .closing, closeFault := none }) := .modCheck fun _ _ => rfl
    rw [State.startClose, State.ledger?, hcaptures]
    exact hopened.ledger j
  · rw [State.stake?, State.startClose_tender?, State.stake?]
    cases hx : s.tender? i with
    | none => rfl
    | some x =>
      refine congrArg some ?_
      split
      next hi =>
        have hstate := State.toCapture_authorized hi hx
        simp [Tender.stake, Tender.toCapturing, hstate, TenderState.counts, TenderState.claims]
      · rfl

/-- A faulted tender that is written off still counts (06 R116; 05 R87). -/
theorem State.writeOff_sameBooks (hx : s.tender? i = some x) (hfaulted : x.faulted = true) :
    SameBooks s (s.writeOff slot i) := by
  simp only [Tender.faulted, Bool.and_eq_true, decide_eq_true_eq] at hfaulted
  have hended : SameBooks s (s.modTender i fun x => { x with state := .done .writtenOff, captureFault := false }) := by
    refine .modTender fun y hy => ?_
    obtain rfl := Option.some.inj (hx.symm.trans hy)
    simp [Tender.stake, hfaulted.1, TenderState.counts, TenderState.claims]
  refine hended.trans (.modCheck ?_)
  exact fun _ _ => rfl

/-! ## Tender events and ends of exchanges (06, 6.5) -/

theorem Tender.finish_follows (x : Tender) {o : TenderEnd} (ho : (TenderState.done o).counts = false) :
    x.Follows s i (x.finish o) :=
  .of_unclaiming rfl (fun h => by cases h.symm.trans ho) rfl

theorem Tender.toReversing_follows (hplace : y.place = x.place) (hcounts : x.state.counts = true) :
    x.Follows s i y.toReversing := .of_unclaiming hplace (fun _ => hcounts) rfl

theorem Tender.toAuthorized_follows (hplace : y.place = x.place) (hcounts : x.state.counts = true) :
    x.Follows s i y.toAuthorized := .of_unclaiming hplace (fun _ => hcounts) rfl

section
variable (hs : Books s) (hx : s.tender? i = some x)
include hs hx

/-- A tender event on a record that is known. -/
theorem State.tenderEvent_books_of (hf : x.Follows s i (f x)) : Books (s.tenderEvent i f) :=
  State.tenderEvent_books hs fun y hy => by
    obtain rfl := Option.some.inj (hx.symm.trans hy)
    exact hf

theorem State.reverseTender_books (hcounts : x.state.counts = true) (hplace : (f x).place = x.place) :
    Books (s.reverseTender i f) :=
  (State.placeNeed_sameBooks _ i .reverse).books
    (State.tenderEvent_books_of hs hx (Tender.toReversing_follows hplace hcounts))

theorem State.settleAuthorized_books (hcounts : x.state.counts = true) (withdraw : Bool)
    (hplace : (f x).place = x.place) : Books (s.settleAuthorized i withdraw f) := by
  unfold State.settleAuthorized
  split
  · exact State.reverseTender_books hs hx hcounts hplace
  · exact State.tenderEvent_books_of hs hx (Tender.toAuthorized_follows hplace hcounts)

/-- A tender that ends with an outcome against which nothing stands, and the status it takes. -/
theorem State.finish_books {o : TenderEnd} (ho : (TenderState.done o).counts = false) (st : Status) :
    Books ((s.tenderEvent i fun y => y.finish o).setStatus i st) :=
  (State.setStatus_sameBooks _ i st).books (State.tenderEvent_books_of hs hx (x.finish_follows ho))

theorem State.endAuth_books (hcounts : x.state.counts = true) (e : ExchangeEnd) : Books (s.endAuth i x e) := by
  cases e with
  | approved ref code => exact State.settleAuthorized_books hs hx hcounts _ rfl
  | refused => exact State.finish_books hs hx rfl .declined
  | timeout => exact (State.setStatus_sameBooks _ i _).books (State.reverseTender_books hs hx hcounts rfl)
  | noLink => exact State.finish_books hs hx rfl .noLink

theorem State.endIncrement_books (hcounts : x.state.counts = true) (e : ExchangeEnd) :
    Books (s.endIncrement i x e) := by
  cases e with
  | approved ref code => exact State.settleAuthorized_books hs hx hcounts _ rfl
  | refused | timeout | noLink =>
    exact (State.setStatus_sameBooks _ i _).books (State.settleAuthorized_books hs hx hcounts _ rfl)

theorem State.endReverse_books (e : ExchangeEnd) : Books (s.endReverse i x e) := by
  cases e with
  | approved ref code => exact State.finish_books hs hx rfl .reversed
  | refused | timeout | noLink =>
    simp only [State.endReverse]
    split
    · have htried : SameBooks s (s.modTender i fun y => { y with attempts := x.attempts + 1, sent := false }) :=
        .modTender fun _ _ => rfl
      exact (htried.trans (State.placeNeed_sameBooks _ i .reverse)).books hs
    · refine (State.setStatus_sameBooks _ i _).books (State.tenderEvent_books_of hs hx ?_)
      exact .of_unclaiming rfl (fun h => by cases h) rfl

omit hx in
theorem State.closeStep_books (slot : Nat) : Books (s.closeStep slot) := by
  simp only [State.closeStep]
  split
  · exact hs
  next c _ =>
    split
    · exact hs
    · split
      · exact State.retire_books hs slot
      · refine SameBooks.books (.handEvent (.modCheck ?_) c.number .closeFault) hs
        exact fun _ _ => rfl

theorem State.endCapture_books (hcounts : x.state.counts = true) (e : ExchangeEnd) : Books (s.endCapture i x e) := by
  refine State.closeStep_books (State.tenderEvent_books_of hs hx ?_) _
  cases e with
  | approved ref code | refused | timeout | noLink => exact .of_unclaiming rfl (fun _ => hcounts) rfl

omit hs hx in
/-- A tender in a state that places a need counts (05 R87, 07 R132). -/
theorem NeedKind.tenderState_counts (k : NeedKind) : k.tenderState.counts = true := by cases k <;> rfl

/-- An exchange that ends for a tender in the state that placed its need keeps the books (06, 6.5). -/
theorem State.endExchange_books {k : NeedKind} (hstate : x.state = k.tenderState) (e : ExchangeEnd) :
    Books (s.endExchange k i e) := by
  have hcounts : x.state.counts = true := hstate ▸ k.tenderState_counts
  simp only [State.endExchange, hx]
  cases k with
  | auth => exact State.endAuth_books hs hx hcounts e
  | increment => exact State.endIncrement_books hs hx hcounts e
  | reverse => exact State.endReverse_books hs hx e
  | capture => exact State.endCapture_books hs hx hcounts e

end

theorem State.removeNeed_sameBooks (s : State) (i : Nat) : SameBooks s (s.removeNeed i) := .of_eq ⟨rfl, rfl⟩

theorem State.completeNoLink_books (hs : Books s) {n : Need} (hn : n.Matched s) : Books (s.completeNoLink n) := by
  obtain ⟨x, hx, hstate⟩ := hn
  exact State.endExchange_books ((s.removeNeed_sameBooks n.tender).books hs)
    ((s.removeNeed_tender? n.tender _).trans hx) hstate .noLink

/-- Needs of different tenders, completed one after another, find their tenders as they were. -/
theorem State.foldl_completeNoLink_books (hs : Books s) {l : List Need} (hhold : ∀ n ∈ l, n.kind.ofHold = true)
    (hnodup : (l.map Need.tender).Nodup) (hmatched : ∀ n ∈ l, n.Matched s) :
    Books (l.foldl State.completeNoLink s) := by
  induction l generalizing s with
  | nil => exact hs
  | cons n l ih =>
    obtain ⟨hn, hl⟩ := List.nodup_cons.mp hnodup
    obtain ⟨hnhold, hlhold⟩ := List.forall_mem_cons.mp hhold
    obtain ⟨hnmatched, hlmatched⟩ := List.forall_mem_cons.mp hmatched
    refine ih (State.completeNoLink_books hs hnmatched) hlhold hl fun m hm => ?_
    obtain ⟨x, hx, hstate⟩ := hlmatched m hm
    have hne : m.tender ≠ n.tender := fun he => hn (he ▸ List.mem_map_of_mem hm)
    exact ⟨x, (State.completeNoLink_tender?_of_ne hnhold hne).trans hx, hstate⟩

/-- The departure from UP meets only tenders that wait for their AUTH or INCREMENT (07 R129). -/
theorem State.departUp_books (hs : Books s) (hnodup : (s.aqp.queue.map Need.tender).Nodup)
    (hmatched : ∀ n ∈ s.aqp.queue, n.Matched s) : Books s.departUp :=
  State.foldl_completeNoLink_books hs (fun _ hn => (List.mem_filter.mp hn).2)
    (hnodup.sublist (List.filter_sublist.map _)) fun n hn => hmatched n (List.mem_of_mem_filter hn)

/-! ## Withdraws, holds and releases -/

theorem State.withdraw_books (hs : Books s) (i : Nat) : Books (s.withdraw i) := by
  have hremoved : Books (s.removeNeed i) := (s.removeNeed_sameBooks i).books hs
  unfold State.withdraw
  split
  · exact hs
  next x hx =>
    have hx' : (s.removeNeed i).tender? i = some x := hx
    split
    next hstate => exact State.tenderEvent_books_of hs hx (x.finish_follows rfl)
    next hstate =>
      split
      · exact SameBooks.books (.modTender fun _ _ => rfl) hs
      · split
        · exact State.tenderEvent_books_of hremoved hx' (x.finish_follows rfl)
        · exact State.reverseTender_books hremoved hx' (by rw [hstate]; rfl) rfl
    next hstate => exact State.reverseTender_books hs hx (by rw [hstate]; rfl) rfl
    · exact hs

theorem State.expireLease_books (hs : Books s) (i : Nat) : Books (s.expireLease i) :=
  (State.setStatus_sameBooks _ i _).books (State.tenderEvent_books hs fun x _ => x.finish_follows rfl)

theorem State.actDeferred_books (hs : Books s) (i : Nat) : Books (s.actDeferred i) := by
  unfold State.actDeferred
  split
  · exact hs
  · split
    · refine State.withdraw_books (SameBooks.books (.modTender ?_) hs) i
      exact fun _ _ => rfl
    · exact hs

/-- What each step keeps, a fold keeps. -/
theorem foldl_books {α : Type} {f : State → α → State} (hf : ∀ {s : State} (a : α), Books s → Books (f s a))
    (l : List α) (hs : Books s) : Books (l.foldl f s) := by
  induction l generalizing s with
  | nil => exact hs
  | cons a l ih => exact ih (hf a hs)

theorem State.releaseHeld_books (hs : Books s) (slot : Nat) : Books (s.releaseHeld slot) := by
  unfold State.releaseHeld
  split
  · exact hs
  next c _ =>
    have hevent : Books (s.handEvent c.number .released) := ((SameBooks.refl s).handEvent _ _).books hs
    exact (State.mapLeases_sameBooks _ slot _).books
      (foldl_books (fun i hu => State.actDeferred_books hu i) c.tenders hevent)

theorem State.removeHold_books (hs : Books s) (slot : Nat) (r : HoldReason) : Books (s.removeHold slot r) := by
  simp only [State.removeHold]
  split
  · exact hs
  next c _ =>
    have hput : Books (s.modCheck slot fun d =>
        { d with holds := c.holds.put r false, version := nextVersion d.version }) :=
      SameBooks.books (.modCheck fun _ _ => rfl) hs
    split
    · exact hput
    · exact State.releaseHeld_books hput slot

theorem State.dropApproval_sameBooks (s : State) (a : Approval) : SameBooks s (s.dropApproval a) := .of_eq ⟨rfl, rfl⟩

/-- An approval record that ends takes its hold along (08 R155). -/
theorem State.announcedRelease_books (hs : Books s) (a : Approval) (number outcome : Nat) :
    Books ((s.removeHold a.slot .approval).announceEnding a number outcome) :=
  (State.removeHold_books hs a.slot .approval).of_eq (by simp)

theorem State.endApproval_books (hs : Books s) (a : Approval) (outcome : Nat) : Books (s.endApproval a outcome) :=
  State.announcedRelease_books ((s.dropApproval_sameBooks a).books hs) a _ outcome

theorem State.unhold_sameBooks (s : State) (i : Nat) : SameBooks s (s.unhold i) := .modTender fun _ _ => rfl

theorem State.setPresent_sameBooks (s : State) (t : Nat) (b : Bool) : SameBooks s (s.setPresent t b) := .of_eq ⟨rfl, rfl⟩

theorem State.releaseTerminal_books (hs : Books s) (t : Nat) : Books (s.releaseTerminal t).1 := by
  have hexpired : Books (s.withLeasesExpired t) :=
    foldl_books (fun i hu => State.expireLease_books hu i) _ ((s.setPresent_sameBooks t false).books hs)
  have hunheld : Books ((s.withLeasesExpired t).withNoHolder t) :=
    (SameBooks.foldl State.unhold_sameBooks _ _).books hexpired
  rw [State.releaseTerminal_fst]
  exact hunheld.of_eq ⟨rfl, rfl⟩

/-! ## The recovery of a warm start (06 R124) -/

theorem Tender.recover_stake (hx : x.recovers = false) : x.recover.stake = x.stake := by
  unfold Tender.recover
  cases hstate : x.state with
  | authorizing sub => simp [Tender.recovers, Tender.restarts, hstate] at hx
  | capturing => simp [Tender.recovers, hstate] at hx
  | _ => first | rfl | simp [Tender.stake, hstate]

theorem State.recoverTender_books (hs : Books s) (i : Nat) : Books (s.recoverTender i) := by
  unfold State.recoverTender
  split
  · exact hs
  next x hx =>
    split
    next hrecovers =>
      have hmoved : Books (s.moveTender i Tender.recover) := State.moveTender_books hs fun y hy => by
        obtain rfl := Option.some.inj (hx.symm.trans hy)
        obtain ⟨hcounts, hclaims, -⟩ := Tender.recover_counts hrecovers
        obtain ⟨-, -, hslot, hportion, hamount⟩ := x.recover_kept
        exact .of_unclaiming (by simp [Tender.place, hslot, hportion, hamount]) (fun _ => hcounts) hclaims
      dsimp only
      split
      · exact (State.setStatus_sameBooks _ i _).books hmoved
      · exact hmoved
    next hrecovers =>
      refine SameBooks.books (.modTender fun y hy => ?_) hs
      obtain rfl := Option.some.inj (hx.symm.trans hy)
      exact Tender.recover_stake (by simpa using hrecovers)

theorem State.settleStart_sameBooks (s : State) (changed : List Nat) (slot : Nat) :
    SameBooks s (s.settleStart changed slot) := by
  have hat := s.settleStart_check? changed slot
  refine ⟨fun j => ?_, fun i => by rw [State.stake?, State.tender?, State.settleStart_tdu]; rfl⟩
  rw [State.ledger?, hat, State.ledger?]
  split
  · cases s.check? j with
    | none => rfl
    | some c =>
      obtain ⟨hplan, htenders, -⟩ := c.settled_kept (decide (j ∈ changed)) (s.tendersOf c)
      simp [Check.ledger, hplan, htenders]
  · rfl

theorem State.restartLeases_sameBooks (s : State) : SameBooks s s.restartLeases :=
  .of_tenders rfl s.restartLeases_tender? fun _ x _ => by
    unfold Tender.leased
    split <;> rfl

theorem State.restartApprovals_sameBooks (s : State) : SameBooks s s.restartApprovals := .of_eq ⟨rfl, rfl⟩

theorem State.recoverAll_books (hs : Books s) : Books s.recoverAll := by
  rw [State.recoverAll_eq]
  have htenders : Books s.tendersRecovered := foldl_books (fun i hu => State.recoverTender_books hu i) _ hs
  have hchecks : Books (s.tendersRecovered.checksSettled s.recovering) :=
    (SameBooks.foldl (fun u slot => u.settleStart_sameBooks s.recovering slot) _ _).books htenders
  have hleases := (State.restartLeases_sameBooks _).books hchecks
  have happrovals := (State.restartApprovals_sameBooks _).books hleases
  exact (SameBooks.foldl (fun u i => u.placeNeed_sameBooks i .reverse) _ _).books happrovals

end
end Sys2Proof.Machine
end

section
/-! Every request keeps the books of a part whose orderable checks have no tender that counts (01 R9). -/

namespace Sys2Proof.Machine

/-- Books in order, no tender that counts on a check in OPEN or PRESENTED, and a line change parked on no other check
(01 R9; 03 R50, R52). -/
structure Accounts (s : State) : Prop where
  books : Books s
  quiet : ∀ slot c, s.check? slot = some c → c.orderable = true → NoneCounts s.stake? c.tenders
  parked : ∀ a ∈ s.apu.table, (∃ line, a.change = .voidLine line ∨ ∃ d, a.change = .discountLine line d) →
    ∀ c, s.check? a.slot = some c → c.orderable = true

section
variable {s t : State} {i slot : Nat} {x : Tender} {c c' : Check}

theorem Accounts.of_invariants (hlisted : TendersListed s) (hfit : TendersFitChecks s) (hcounted : PortionsCounted s) :
    Accounts s := by
  obtain ⟨hadmits, hparked⟩ := hfit
  refine ⟨.of_invariants hlisted hcounted, fun slot c hc horderable i hi z hz => ?_, hparked⟩
  obtain ⟨x, hx, rfl⟩ := State.stake?_eq_some.mp hz
  have hadmitted := (hadmits slot c hc).1 x (State.mem_tendersOf.mpr ⟨i, hi, hx⟩)
  have hcounts : x.state.counts = false := by
    cases hstate : c.state <;> simp_all [CheckState.admitsTender, Check.orderable]
  refine ⟨hcounts, Bool.eq_false_iff.mpr fun hclaims => ?_⟩
  cases hcounts.symm.trans (TenderState.counts_of_claims hclaims)

/-- What leaves the records of the checks, the stakes and the approval table alone keeps the accounts. -/
theorem Accounts.of_eq (hs : Accounts s) (hcheck : ∀ j, t.check? j = s.check? j) (hstake : ∀ i, t.stake? i = s.stake? i)
    (happrovals : ∀ a ∈ t.apu.table, a ∈ s.apu.table) : Accounts t := by
  have hsame : SameBooks s t := ⟨fun j => by rw [State.ledger?, hcheck, State.ledger?], hstake⟩
  refine ⟨hsame.books hs.books, fun slot c hc horderable i hi z hz => ?_, fun a ha hline c hc => ?_⟩
  · exact hs.quiet slot c (hcheck slot ▸ hc) horderable i hi z (hstake i ▸ hz)
  · exact hs.parked a (happrovals a ha) hline c (hcheck _ ▸ hc)

theorem Accounts.hear (hs : Accounts s) (t : Nat) : Accounts (s.hear t) :=
  hs.of_eq (s.hear_check? t) (s.hear_sameBooks t).stake fun a ha => by rwa [State.hear_apu] at ha

theorem Accounts.dropApproval (hs : Accounts s) (a : Approval) : Accounts (s.dropApproval a) :=
  hs.of_eq (fun _ => rfl) (fun _ => rfl) fun _ hb => List.mem_of_mem_filter hb

/-! ## New figures -/

/-- A recomputation keeps the tenders, and leaves nothing standing where nothing stood (04 R71). -/
theorem recompute_fresh {w : Settings} (h : recompute w c = .ok c') :
    c'.tenders = c.tenders ∧ (Portions.Fresh c.plan.portions → Portions.Fresh c'.plan.portions) := by
  obtain ⟨-, -, rfl⟩ := recompute_eq_ok h
  exact ⟨rfl, rebuiltPlan_fresh w _⟩

/-- A check in OPEN or PRESENTED may take any plan against which nothing stands (05 R83, R84; 04 R71). -/
theorem Accounts.replan (hs : Accounts s) (hc : s.check? slot = some c) (horderable : c.orderable = true)
    {f : Check → Check} (htenders : (f c).tenders = c.tenders)
    (hfresh : Portions.Fresh c.plan.portions → Portions.Fresh (f c).plan.portions) : Books (s.modCheck slot f) := by
  have hnone := hs.quiet slot c hc horderable
  exact State.modCheck_books_of_fresh hs.books hc hnone htenders
    (hfresh ((hs.books.balanced slot _ (State.ledger?_of_check? hc)).fresh hnone))

/-- The figures of a check in OPEN or PRESENTED, found with its lines or covers changed (04 R71). -/
theorem Accounts.refigure (hs : Accounts s) (hc : s.check? slot = some c) (horderable : c.orderable = true)
    {w : Settings} {changed : Check} (hchanged : changed.ledger = c.ledger) (h : recompute w changed = .ok c')
    {f : Check → Check} (hf : (f c).ledger = c'.ledger) : Books (s.modCheck slot f) := by
  simp only [Check.ledger, Ledger.mk.injEq] at hchanged hf
  obtain ⟨htenders, hfresh⟩ := recompute_fresh h
  refine hs.replan hc horderable (hf.1.trans (htenders.trans hchanged.1)) fun hold => ?_
  rw [hf.2]
  exact hfresh (hchanged.2 ▸ hold)

theorem Accounts.writeFigures (hs : Accounts s) (hc : s.check? slot = some c) (horderable : c.orderable = true)
    {w : Settings} {changed : Check} (hchanged : changed.ledger = c.ledger) :
    Books (s.writeFigures slot (recompute w changed)) := by
  unfold State.writeFigures
  split
  next h => exact hs.refigure hc horderable hchanged h rfl
  · exact hs.books

theorem Accounts.takeLines (hs : Accounts s) (hc : s.check? slot = some c) (horderable : c.orderable = true) (n : Nat)
    {w : Settings} {changed : Check} (hchanged : changed.ledger = c.ledger) :
    Books (s.takeLines slot c n (recompute w changed)) := by
  have hdrawn : Accounts { s with freeLines := s.freeLines - n } := hs.of_eq (fun _ => rfl) (fun _ => rfl) fun _ ha => ha
  have hwritten := hdrawn.writeFigures (w := w) hc horderable hchanged
  simp only [State.takeLines]
  split
  · refine SameBooks.books (.handEvent (.modCheck ?_) _ _) hwritten
    exact fun _ _ => rfl
  · exact hwritten

theorem Check.mapLine_ledger (c : Check) (n : Nat) (f : Line → Line) : (c.mapLine n f).ledger = c.ledger := rfl

/-! ## The second judgement of a parked change (08 R154) -/

theorem State.moveCheck_sameBooks (s : State) (slot : Nat) (c : Check) (table owner : Nat) :
    SameBooks s (s.moveCheck slot c table owner) := by
  have hmoved : SameBooks s (if movesTable c table then (s.unseat c.table slot).seatAt table slot else s) := by
    split
    · exact .of_eq (by simp)
    · exact .refl s
  refine hmoved.trans (.modCheck ?_)
  exact fun _ _ => rfl

theorem Accounts.evaluate (hs : Accounts s) (hc : s.check? slot = some c) (change : Parked)
    (hline : (∃ line, change = .voidLine line ∨ ∃ d, change = .discountLine line d) → c.orderable = true) :
    Books ((s.evaluate slot c change).state s) := by
  have happlied : c.orderable = true → ∀ (l : Line) (changed : Check), changed.ledger = c.ledger →
      Books ((s.applyLine slot l changed).state s) := by
    intro horderable l changed hchanged
    unfold State.applyLine
    split
    next h =>
      split
      · exact hs.books
      · exact hs.refigure hc horderable hchanged h rfl
    · exact hs.books
  cases change with
  | voidLine n =>
    have horderable := hline ⟨n, .inl rfl⟩
    simp only [State.evaluate]
    split
    · exact hs.books
    · exact happlied horderable _ _ (c.mapLine_ledger _ _)
  | discountLine n d =>
    have horderable := hline ⟨n, .inr ⟨d, rfl⟩⟩
    simp only [State.evaluate]
    split
    · exact hs.books
    · exact happlied horderable _ _ (c.mapLine_ledger _ _)
  | voidCheck =>
    simp only [State.evaluate]
    split
    · exact hs.books
    · split
      · exact hs.books
      · exact State.retire_books hs.books slot
  | transferCheck table owner =>
    simp only [State.evaluate, State.applyTransfer]
    split
    · exact hs.books
    · split
      · exact hs.books
      · split
        · exact hs.books
        · exact (s.moveCheck_sameBooks slot c table owner).books hs.books

theorem Accounts.approveRecord (hs : Accounts s) {a : Approval} (ha : a ∈ s.apu.table) (hc : s.check? a.slot = some c) :
    Books (s.approveRecord a c).1 := by
  have heval := (hs.dropApproval a).evaluate (slot := a.slot) (c := c) hc a.change fun hline => hs.parked a ha hline c hc
  unfold State.approveRecord
  dsimp only
  cases he : (s.dropApproval a).evaluate a.slot c a.change with
  | refused code | applied t =>
    rw [he] at heval
    exact State.announcedRelease_books heval a _ _
  | retired t =>
    rw [he] at heval
    exact heval.of_eq (by simp [Evaluation.state])

/-! ## Requests -/

/-- A meaning that answers a next state with its books in order. -/
def BooksTo (o : Out) : Prop := ∀ t, o = .next t → Books t

theorem booksTo_next (h : Books t) : BooksTo (.next t) := by
  rintro u hu
  obtain rfl := Host.Outcome.next.inj hu
  exact h

theorem State.frame_books (hs : Accounts s) {h : Hdr} {kind : Nat} {act : State → State × Reply}
    (hact : ∀ u, Accounts u → Books (act u).1) : Books (s.frame h kind act) := by
  unfold State.frame
  split
  · exact hs.books
  · exact hs.books.of_eq (by simp)
  · exact hs.books.of_eq (by simp)
  · exact hs.books.of_eq (by simp)
  · exact (hact _ (hs.hear h.term)).of_eq (by simp)

variable {h : Hdr} {kind n : Nat} {cls : ReqClass}

theorem booksTo_request (hs : Accounts s) {act : State → State × Reply} (hact : ∀ u, Accounts u → Books (act u).1) :
    BooksTo (.next (s.request h kind cls act)) := by
  refine booksTo_next (State.frame_books hs fun u hu => ?_)
  split
  · exact hact u hu
  · exact hu.books

/-- A request whose act leaves the books alone, whatever its judgement. -/
theorem booksTo_judged (hs : Accounts s) {tests : State → List (Bool × Reply)} {act : State → State × Reply}
    (hact : ∀ u, Accounts u → judge (tests u) = none → Books (act u).1) :
    BooksTo (.next (s.request h kind cls fun u => judged u (tests u) (act u))) :=
  booksTo_request hs fun u hu => judged_fst hu.books fun ht => hact u hu ht

/-- A request on a check is judged and acted on with the check in its slot. -/
theorem booksTo_onCheck (hs : Accounts s) {k : State → Nat → Check → State × Reply}
    (hk : ∀ u slot c, Accounts u → u.check? slot = some c → Books (k u slot c).1) :
    BooksTo (.next (s.request h kind cls fun u => u.withCheck n (k u))) :=
  booksTo_request hs fun u hu => State.withCheck_fst hu.books fun slot c hc => hk u slot c hu hc

theorem booksTo_malformed (hs : Accounts s) (h : Hdr) (kind reason : Nat) :
    BooksTo (.next (s.malformedFrame h kind reason)) :=
  booksTo_next (State.frame_books hs fun _ hu => hu.books)

/-- A request that names a tender of a check finds it in the tender list of the check. -/
theorem State.withTender_fst_of_listed {P : State → Prop} (hs : P s) {k : Nat → Tender → State × Reply}
    (hk : ∀ i x, i ∈ c.tenders → s.tender? i = some x → P (k i x).1) : P (s.withTender c n k).1 := by
  unfold State.withTender
  split
  · exact hs
  next i hi =>
    split
    · exact hs
    next x hx =>
      refine hk i x ?_ hx
      unfold Check.tenderIndex? at hi
      split at hi
      · cases hi
      · exact List.mem_of_getElem? hi

/-- A request that names the approval record of a check finds it in the table, on the check. -/
theorem State.withApproval_fst_of_listed {P : State → Prop} (hs : P s) {k : Nat → Check → Approval → State × Reply}
    (hk : ∀ slot c a, a ∈ s.apu.table → s.check? a.slot = some c → P (k slot c a).1) : P (s.withApproval n k).1 := by
  refine State.withCheck_fst hs fun slot c hc => ?_
  split
  · exact hs
  next a ha =>
    have hslot : a.slot = slot := by simpa using List.find?_some ha
    exact hk slot c a (List.mem_of_find?_eq_some ha) (hslot ▸ hc)

/-! ## Requests on checks, lines and plans -/

theorem newCheck_fresh (number table covers owner day minute : Nat) :
    Portions.Fresh (newCheck number table covers owner day minute).plan.portions := freshPortions_fresh _ _

theorem execOpenCheck_booksTo (hs : Accounts s) (table covers owner : Nat) :
    BooksTo (execOpenCheck h table covers owner s) := by
  refine booksTo_judged hs fun u hu ht => ?_
  simp only [judge_eq_none_cons] at ht
  obtain ⟨-, -, -, -, -, -, hfree, -⟩ := ht
  obtain ⟨slot, hslot⟩ := Option.isSome_iff_exists.mp (by simpa using hfree)
  dsimp only
  rw [hslot]
  exact State.placeCheck_books hu.books hslot rfl (newCheck_fresh ..)

theorem execUpdateCheck_booksTo (hs : Accounts s) (check covers : Nat) : BooksTo (execUpdateCheck h check covers s) := by
  refine booksTo_onCheck hs fun u slot c hu hc => judged_fst hu.books fun ht => ?_
  simp only [judge_eq_none_cons, Bool.not_eq_false'] at ht
  obtain ⟨-, -, -, -, -, horderable, -⟩ := ht
  exact hu.writeFigures hc horderable rfl

theorem execPresentCheck_booksTo (hs : Accounts s) (check : Nat) : BooksTo (execPresentCheck h check s) := by
  refine booksTo_onCheck hs fun u slot c hu _ => judged_fst hu.books fun _ => ?_
  refine SameBooks.books (.handEvent (.modCheck ?_) c.number .presented) hu.books
  exact fun _ _ => rfl

theorem execTransferCheck_booksTo (hs : Accounts s) (check table owner : Nat) :
    BooksTo (execTransferCheck h check table owner s) := by
  refine booksTo_onCheck hs fun u slot c hu _ => judged_fst hu.books fun _ => ?_
  split
  · exact (u.park_sameBooks slot h.term _).books hu.books
  · refine SameBooks.books (.trans (u.moveCheck_sameBooks slot c table owner) (.modCheck ?_)) hu.books
    exact fun _ _ => rfl

theorem execVoidCheck_booksTo (hs : Accounts s) (check : Nat) : BooksTo (execVoidCheck h check s) := by
  refine booksTo_onCheck hs fun u slot c hu _ => judged_fst hu.books fun _ => ?_
  split
  · exact (u.park_sameBooks slot h.term _).books hu.books
  · exact State.retire_books hu.books slot

theorem execCloseCheck_booksTo (hs : Accounts s) (check : Nat) : BooksTo (execCloseCheck h check s) := by
  refine booksTo_onCheck hs fun u slot c hu _ => judged_fst hu.books fun _ => ?_
  split
  · exact State.retire_books hu.books slot
  · exact (u.startClose_sameBooks slot c).books hu.books

theorem execAddLines_booksTo (hs : Accounts s) (check : Nat) (entries : List LineEntry) :
    BooksTo (execAddLines h check entries s) := by
  unfold execAddLines
  split
  · exact booksTo_malformed hs h _ _
  · refine booksTo_onCheck hs fun u slot c hu hc => judged_fst hu.books fun ht => ?_
    simp only [Tally.test, judge_eq_none_cons, Bool.not_eq_false'] at ht
    obtain ⟨-, -, -, -, -, horderable, -⟩ := ht
    exact hu.takeLines hc horderable _ rfl

theorem execVoidLine_booksTo (hs : Accounts s) (check line : Nat) : BooksTo (execVoidLine h check line s) := by
  refine booksTo_onCheck hs fun u slot c hu hc => ?_
  split
  · exact hu.books
  · split
    · exact hu.books
    · refine judged_fst hu.books fun ht => ?_
      simp only [Tally.test, judge_append, judge_eq_none_cons, Bool.or_eq_false_iff, Bool.not_eq_false'] at ht
      obtain ⟨⟨-, -, -, ⟨horderable, -⟩, -⟩, -⟩ := ht
      split
      · exact (u.park_sameBooks slot h.term _).books hu.books
      · exact hu.writeFigures hc horderable (c.mapLine_ledger _ _)

theorem execDiscountLine_booksTo (hs : Accounts s) (check line amount : Nat) :
    BooksTo (execDiscountLine h check line amount s) := by
  refine booksTo_onCheck hs fun u slot c hu hc => ?_
  split
  · exact hu.books
  · split
    · exact hu.books
    · refine judged_fst hu.books fun ht => ?_
      simp only [Tally.test, judge_append, judge_eq_none_cons, Bool.or_eq_false_iff, Bool.not_eq_false'] at ht
      obtain ⟨⟨-, -, -, -, ⟨horderable, -⟩, -⟩, -⟩ := ht
      split
      · exact (u.park_sameBooks slot h.term _).books hu.books
      · exact hu.writeFigures hc horderable (c.mapLine_ledger _ _)

theorem execSetSplit_booksTo (hs : Accounts s) (check kind count : Nat) :
    BooksTo (execSetSplit h check kind count s) := by
  refine booksTo_onCheck hs fun u slot c hu hc => judged_fst hu.books fun ht => ?_
  simp only [judge_eq_none_cons, Bool.not_eq_false'] at ht
  obtain ⟨-, -, -, -, -, -, horderable, -⟩ := ht
  exact hu.replan hc horderable rfl fun _ => buildPlan_fresh ..

theorem execSetPortion_booksTo (hs : Accounts s) (check portion amount : Nat) :
    BooksTo (execSetPortion h check portion amount s) := by
  refine booksTo_onCheck hs fun u slot c hu hc => judged_fst hu.books fun ht => ?_
  simp only [judge_eq_none_cons, Bool.or_eq_false_iff, Bool.not_eq_false'] at ht
  obtain ⟨-, -, -, -, -, -, ⟨horderable, -⟩, -⟩ := ht
  exact hu.replan hc horderable rfl fun hfresh => Plan.enter_fresh hfresh portion amount

theorem execLockSplit_booksTo (hs : Accounts s) (check : Nat) : BooksTo (execLockSplit h check s) := by
  refine booksTo_onCheck hs fun u slot c hu _ => ?_
  have hnoted : Books (u.modCheck slot fun d =>
      { d with splitFault := some (splitFaultOf c.plan.shareSum c.totals.total) }) :=
    SameBooks.books (.modCheck fun _ _ => rfl) hu.books
  dsimp only
  split
  · exact hu.books
  · split
    · split
      · exact hnoted
      · exact hu.books
    · refine judged_fst hu.books fun _ => SameBooks.books (.modCheck ?_) hu.books
      exact fun _ _ => rfl

/-! ## Requests on tenders -/

/-- A new tender counts at most the balance it is tested against (04 R72, R73). -/
theorem startAmount_le {k : TenderKind} {asked balance amount : Nat} (h : startAmount k asked balance = some amount) :
    amount ≤ balance := by
  unfold startAmount at h
  split at h
  · cases h
  · split at h
    · obtain ⟨figures, hfigures, rfl⟩ := Option.map_eq_some_iff.mp h
      obtain ⟨-, hfigures⟩ := Option.ite_none_left_eq_some.mp hfigures
      obtain rfl := Option.some.inj hfigures
      exact Nat.min_le_right _ _
    · obtain ⟨hwithin, h⟩ := Option.ite_none_left_eq_some.mp h
      obtain rfl := Option.some.inj h
      exact Nat.le_of_not_lt fun hlt => hwithin (.inr hlt)

theorem State.startTender_books {p : Portion} (hs : Books s) (hi : s.freeTenderIndex = some i)
    (hc : s.check? x.slot = some c) (hp : p ∈ c.plan.portions) (hadmits : p.Admits x) (kind : TenderKind)
    (asked balance : Nat) (token : List Byte) : Books (s.startTender i x kind asked balance token) := by
  have hplaced : ∀ y : Tender, y.place = x.place → y.state.counts = true → Books (s.beginTender i y) := by
    intro y hplace hcounts
    simp only [Tender.place, Prod.mk.injEq] at hplace
    obtain ⟨hslot, hportion, hamount⟩ := hplace
    exact State.beginTender_books hs hi (hslot ▸ hc) hp
      ⟨hadmits.number.trans hportion.symm, hamount ▸ hadmits.amount, hadmits.unclaimed⟩ hcounts
  cases kind with
  | cash => exact hplaced _ rfl rfl
  | tipFirst => exact hplaced _ rfl rfl
  | tipLater => exact (State.placeNeed_sameBooks _ i .auth).books (hplaced _ rfl rfl)

theorem execStartTender_booksTo (hs : Accounts s) (check portion kind amount : Nat) (token : List Byte) :
    BooksTo (execStartTender h check portion kind amount token s) := by
  unfold execStartTender
  split
  · exact booksTo_malformed hs h _ _
  · refine booksTo_onCheck hs fun u slot c hu hc => judged_fst hu.books fun ht => ?_
    simp only [judge_eq_none_cons] at ht
    obtain ⟨-, -, hnamed, -, hamount, -, -, hclaim, -, -, hfree, -⟩ := ht
    obtain ⟨i, hi⟩ := Option.isSome_iff_exists.mp (by simpa using hfree)
    obtain ⟨p, hp⟩ := Option.isSome_iff_exists.mp (by simpa using hnamed)
    rw [hp] at hamount hclaim
    obtain ⟨counted, hcounted⟩ := Option.isSome_iff_exists.mp (by simpa using hamount)
    obtain ⟨-, hfound⟩ := Option.ite_none_right_eq_some.mp hp
    have hnumber : p.number = portion := by simpa using List.find?_some hfound
    dsimp only
    rw [hi, hp, Option.map_some, Option.getD_some, Option.getD_some, hcounted]
    refine State.startTender_books hu.books hi hc (List.mem_of_find?_eq_some hfound) ⟨hnumber, ?_, ?_⟩ _ _ _ _
    · exact startAmount_le hcounted
    · simpa using hclaim

/-- A tip that is taken finds its tender in TIP_WAIT or AUTHORIZED; an INCREMENT takes the claim only where no other
tender has it (06 R104 to R106; 05 R90). -/
theorem State.takeTip_books (hs : Books s) (hx : s.tender? i = some x) (hc : s.check? x.slot = some c)
    (hdone : x.state.isDone = false) (hidle : x.state.exchanging = false) (tip : Nat)
    (hclaimed : x.needsIncrement tip = true → c.claimedByOther i x = false) : Books (s.takeTip i x tip) := by
  unfold State.takeTip
  split
  next hwait =>
    have hcounts : x.state.counts = true := by rw [hwait]; rfl
    have hclaims : x.state.claims = true := by rw [hwait]; rfl
    exact (State.placeNeed_sameBooks _ i .auth).books (State.tenderEvent_books_of hs hx
      ⟨rfl, rfl, rfl, fun _ => hcounts, fun _ => .inl hclaims⟩)
  next hwait =>
    have hauthorized : x.state = .authorized := by
      cases hstate : x.state <;> simp_all [TenderState.isDone, TenderState.exchanging]
    have hcounts : x.state.counts = true := by rw [hauthorized]; rfl
    split
    next hneeds =>
      refine (State.placeNeed_sameBooks _ i .increment).books (State.tenderEvent_books_of hs hx
        ⟨rfl, rfl, rfl, fun _ => hcounts, fun _ => .inr fun d hd p hp hnumber j hj => ?_⟩)
      obtain rfl := Option.some.inj (hc.symm.trans hd)
      have hunique : c.plan.portion? x.portion = some p := by
        have hnumbered := (hs.balanced _ _ (State.ledger?_of_check? hc)).numbered
        obtain ⟨q, hq⟩ : ∃ q, c.plan.portion? x.portion = some q :=
          Option.isSome_iff_exists.mp (List.find?_isSome.mpr ⟨p, hp, by simp [hnumber]⟩)
        have hqn : q.number = x.portion := by simpa using List.find?_some hq
        rw [hq, List.inj_on_of_nodup_map hnumbered (List.mem_of_find?_eq_some hq) hp (hqn.trans hnumber.symm)]
      simpa [Check.claimedByOther, hunique, hj] using hclaimed hneeds
    · split
      · exact hs
      · exact State.tenderEvent_books_of hs hx (.of_unclaiming rfl (fun _ => hcounts) (by rw [hauthorized]; rfl))

theorem execSubmitTip_booksTo (hs : Accounts s) (check tender form figure : Nat) :
    BooksTo (execSubmitTip h check tender form figure s) := by
  refine booksTo_onCheck hs fun u slot c hu hc => ?_
  split
  · exact hu.books
  · refine State.withTender_fst_of_listed hu.books fun i x hi hx => judged_fst hu.books fun ht => ?_
    simp only [judge_eq_none_cons, Bool.or_eq_false_iff, Bool.and_eq_false_imp] at ht
    obtain ⟨hdone, -, -, -, -, -, hclaimed, ⟨-, hidle⟩, -⟩ := ht
    obtain ⟨z, hz, hslot⟩ := (hu.books.balanced slot _ (State.ledger?_of_check? hc)).listed i hi
    obtain rfl := Option.some.inj ((State.stake?_of_tender? hx).symm.trans hz)
    have hslot : x.slot = slot := hslot
    exact State.takeTip_books hu.books hx (hslot ▸ hc) hdone hidle _ hclaimed

theorem execWithdrawTender_booksTo (hs : Accounts s) (check tender : Nat) :
    BooksTo (execWithdrawTender h check tender s) := by
  refine booksTo_onCheck hs fun u slot c hu _ => State.withTender_fst hu.books fun i x _ =>
    judged_fst hu.books fun _ => ?_
  split
  · refine SameBooks.books (.modTender ?_) hu.books
    exact fun _ _ => rfl
  · exact State.withdraw_books hu.books i

theorem execAbandonTender_booksTo (hs : Accounts s) (check tender : Nat) :
    BooksTo (execAbandonTender h check tender s) := by
  refine booksTo_onCheck hs fun u slot c hu _ => State.withTender_fst hu.books fun i x hx =>
    judged_fst hu.books fun ht => ?_
  simp only [judge_eq_none_cons, Bool.or_eq_false_iff, Bool.not_eq_false'] at ht
  obtain ⟨-, -, ⟨-, hfaulted⟩, -⟩ := ht
  exact (State.writeOff_sameBooks hx hfaulted).books hu.books

/-! ## Requests on holds, statuses and the floor map -/

theorem execHoldCheck_booksTo (hs : Accounts s) (check : Nat) : BooksTo (execHoldCheck h check s) := by
  refine booksTo_onCheck hs fun u slot c hu _ => judged_fst hu.books fun _ => ?_
  dsimp only [State.takenSummary]
  split
  · exact hu.books
  · exact (u.addHold_sameBooks slot .manager).books hu.books

theorem execFetchNextPending_booksTo (hs : Accounts s) : BooksTo (execFetchNextPending h s) := by
  refine booksTo_request hs fun u hu => ?_
  split
  · exact hu.books
  · exact (u.collect_sameBooks _).books hu.books

theorem State.roleChanged_books (hs : Books s) (t : Nat) (old new : Role) : Books (s.roleChanged t old new) := by
  cases new with
  | off =>
    simp only [State.roleChanged]
    split
    · exact (s.setPresent_sameBooks t false).books hs
    · exact State.releaseTerminal_books hs t
  | server => exact hs
  | manager =>
    simp only [State.roleChanged]
    split
    · exact hs.of_eq (by simp)
    · exact hs

theorem State.writeTerminal_sameBooks (s : State) (t : Nat) (role : Role) (mask : BitVec 8) :
    SameBooks s (s.writeTerminal t role mask) := .of_eq ⟨rfl, rfl⟩

theorem State.loadCopy_books (hs : Books s) (w : Settings) (loaded : LoadedFrom) : Books (s.loadCopy w loaded) := by
  have hloaded : SameBooks s { s with sst := { s.sst with work := w, loaded } } := .of_eq ⟨rfl, rfl⟩
  exact foldl_books (f := fun u t => (u.releaseTerminal t).1) (fun t hu => State.releaseTerminal_books hu t) _
    (hloaded.books hs)

theorem execLoadSettings_booksTo (hs : Accounts s) (source : Nat) : BooksTo (execLoadSettings h source s) := by
  refine booksTo_request hs fun u hu => ?_
  split
  · exact hu.books
  · split
    · exact hu.books
    · exact judged_fst hu.books fun _ => State.loadCopy_books hu.books _ _

theorem State.ackAged_sameBooks (s : State) : SameBooks s s.ackAged := by
  refine ⟨fun j => ?_, fun _ => rfl⟩
  rw [State.ledger?, State.ackAged_check?, State.ledger?]
  cases s.check? j with
  | none => rfl
  | some c =>
    refine congrArg some ?_
    dsimp only
    split <;> rfl

end

/-- A request that a transaction carries keeps the books. -/
theorem execRequest_booksTo (i : Instr) {s : State} (hs : Accounts s) : BooksTo (execRequest i s) := by
  cases i with
  -- requests that leave the checks and the tenders to what their frame does
  | hello h | readPartStatus h => exact booksTo_request hs fun u hu => hu.books
  | readCheck h check | readLines h check first last =>
    exact booksTo_onCheck hs fun u _ _ hu _ => judged_fst hu.books fun _ => hu.books
  | readTable h table | readSetting h number => exact booksTo_judged hs fun u hu _ => hu.books
  | setWatch h check mask =>
    exact booksTo_onCheck hs fun u _ _ hu _ => judged_fst hu.books fun _ => hu.books.of_eq ⟨rfl, rfl⟩
  | setTable h first last sect | setSetting h number value | setClock h day minute =>
    exact booksTo_judged hs fun u hu _ => hu.books.of_eq ⟨rfl, rfl⟩
  | dropWatch h check | ackNoticeStartup h source | saveSettings h =>
    exact booksTo_judged hs fun u hu _ => hu.books.of_eq ⟨rfl, rfl⟩
  | fetchHits h =>
    exact booksTo_request hs fun u hu => hu.books.of_eq ⟨rfl, rfl⟩
  | ackNoticeAged h => exact booksTo_request hs fun u hu => u.ackAged_sameBooks.books hu.books
  | clearLinkFault h =>
    exact booksTo_request hs fun u hu => hu.books.of_eq (by simp)
  -- requests on checks, lines and plans
  | openCheck h table covers owner => exact execOpenCheck_booksTo hs table covers owner
  | updateCheck h check covers => exact execUpdateCheck_booksTo hs check covers
  | presentCheck h check => exact execPresentCheck_booksTo hs check
  | transferCheck h check table owner => exact execTransferCheck_booksTo hs check table owner
  | voidCheck h check => exact execVoidCheck_booksTo hs check
  | closeCheck h check => exact execCloseCheck_booksTo hs check
  | addLines h check entries => exact execAddLines_booksTo hs check entries
  | voidLine h check line => exact execVoidLine_booksTo hs check line
  | discountLine h check line amount => exact execDiscountLine_booksTo hs check line amount
  | setSplit h check kind count => exact execSetSplit_booksTo hs check kind count
  | setPortion h check portion amount => exact execSetPortion_booksTo hs check portion amount
  | lockSplit h check => exact execLockSplit_booksTo hs check
  -- requests on tenders
  | startTender h check portion kind amount token => exact execStartTender_booksTo hs check portion kind amount token
  | submitTip h check tender form figure => exact execSubmitTip_booksTo hs check tender form figure
  | withdrawTender h check tender => exact execWithdrawTender_booksTo hs check tender
  | fetchStatus h check tender =>
    exact booksTo_onCheck hs fun u _ _ hu _ => State.withTender_fst hu.books fun i _ _ =>
      judged_fst hu.books fun _ => (u.collect_sameBooks i).books hu.books
  | abandonTender h check tender => exact execAbandonTender_booksTo hs check tender
  -- requests on holds, approvals, statuses and terminals
  | holdCheck h check => exact execHoldCheck_booksTo hs check
  | releaseCheck h check =>
    exact booksTo_onCheck hs fun u slot _ hu _ => judged_fst hu.books fun _ =>
      State.removeHold_books hu.books slot .manager
  | approve h check number =>
    exact booksTo_request hs fun u hu => State.withApproval_fst_of_listed hu.books fun _ c a ha hc =>
      judged_fst hu.books fun _ => hu.approveRecord ha hc
  | reject h check number =>
    exact booksTo_request hs fun u hu => State.withApproval_fst hu.books fun _ _ a =>
      judged_fst hu.books fun _ => State.endApproval_books hu.books a 17
  | fetchNextPending h => exact execFetchNextPending_booksTo hs
  | setTerminal h terminal role mask =>
    exact booksTo_judged hs fun u hu _ =>
      State.roleChanged_books ((u.writeTerminal_sameBooks terminal _ _).books hu.books) terminal _ _
  | forgetTerminal h terminal => exact booksTo_judged hs fun u hu _ => State.releaseTerminal_books hu.books terminal
  | loadSettings h source => exact execLoadSettings_booksTo hs source
  -- frames that are no well-formed request
  | malformedRequest h kind bodyLen =>
    simp only [execRequest, execMalformedRequest]
    split
    · exact booksTo_next hs.books
    · exact booksTo_malformed hs h kind _
  | tagZeroFrame port =>
    simp only [execRequest, execTagZeroFrame]
    split
    · exact booksTo_next (hs.books.of_eq (by simp))
    · exact booksTo_next hs.books
  | crcErrorFrame _ | frameLenError _ _ | frameIdleTimeout _ _ | requestOverrun _ | fhpTransaction _
  | outputFrameSent _ | result _ _ | nonResultFrame _ | exchangeTimeout _ | grant | noLinkCompletion
  | linkOkFall | linkOkRise | leaseExpiry _ _ | approvalExpiry _ | terminalSilence _ | checkAged _
  | secondTick | minuteTick | saveEnd _ | resetAssert _ | coldStart _ | warmStart _
  | clockAdvanceWithoutPower _ | retentionIndicatorLost => exact booksTo_next hs.books

end Sys2Proof.Machine
end

section
/-! Every event keeps the books, and so does every step (05 R87, R90). -/

namespace Sys2Proof.Machine

section
variable {s t : State}

/-! ## Events at the acquirer -/

theorem State.setEntry_sameBooks (s : State) (j : Nat) (e : Option Exchange) : SameBooks s (s.setEntry j e) :=
  .of_eq ⟨rfl, rfl⟩

theorem State.matchResult_books (hs : Books s) (hneeds : NeedsPlaced s) (tag : Nat) (body : List Byte) :
    Books (s.matchResult tag body) := by
  unfold State.matchResult
  split
  · exact hs.of_eq ⟨rfl, rfl⟩
  next j _ =>
    split
    · exact hs.of_eq ⟨rfl, rfl⟩
    next e he =>
      split
      · exact hs.of_eq ⟨rfl, rfl⟩
      · obtain ⟨x, hx, hstate⟩ := hneeds.exchanged e (State.exchange?_mem he)
        have hend := State.endExchange_books ((s.setEntry_sameBooks j none).books hs) hx hstate (resultEnd body)
        exact hend.of_eq ⟨rfl, rfl⟩

theorem execResult_booksTo (hs : Books s) (hneeds : NeedsPlaced s) (tag : Nat) (body : List Byte) :
    BooksTo (execResult tag body s) := by
  refine booksTo_next ?_
  split
  · exact hs
  · split
    · exact hs.of_eq ⟨rfl, rfl⟩
    · have hcleared : NeedsPlaced s.clearTimeouts :=
        ⟨hneeds.nodup, hneeds.waiting, hneeds.exchanged, hneeds.apart⟩
      have hbooks : Books s.clearTimeouts := hs.of_eq ⟨rfl, rfl⟩
      exact State.matchResult_books hbooks hcleared tag body

/-- A timeout that fails the link completes the queued needs (07 R128, R129). -/
theorem State.raiseTimeouts_books (hs : Books s) (hnodup : (s.aqp.queue.map Need.tender).Nodup)
    (hmatched : ∀ n ∈ s.aqp.queue, n.Matched s) : Books s.raiseTimeouts := by
  simp only [State.raiseTimeouts]
  split
  · exact hs.of_eq ⟨rfl, rfl⟩
  · have hfailed : Books { s with aqp := { s.aqp with timeouts := s.setting 18, link := .failed } } :=
      hs.of_eq ⟨rfl, rfl⟩
    split
    · exact State.departUp_books hfailed hnodup hmatched
    · exact hfailed

theorem execExchangeTimeout_booksTo (hs : Books s) (hneeds : NeedsPlaced s) (tag : Nat) :
    BooksTo (execExchangeTimeout tag s) := by
  refine booksTo_next ?_
  split
  · exact hs
  next j _ =>
    split
    · exact hs
    next e he =>
      split
      · obtain ⟨x, hx, hstate⟩ := hneeds.exchanged e (State.exchange?_mem he)
        have hfreed : Books ((s.doneExchange tag).setEntry j none) := hs.of_eq ⟨rfl, rfl⟩
        obtain ⟨-, hsame⟩ := State.raiseTimeouts_keepsCeilings (s := (s.doneExchange tag).setEntry j none)
          hneeds.nodup hneeds.waiting
        have hx' := (hsame e.tender (hneeds.apart e (State.exchange?_mem he))).trans hx
        have hraised := State.raiseTimeouts_books hfreed hneeds.nodup hneeds.waiting
        exact (State.endExchange_books hraised hx' hstate .timeout).of_eq (by simp)
      · exact hs

/-- A message that is sent changes no stake (07 R135). -/
theorem State.grantNeed_sameBooks (s : State) (j : Nat) (n : Need) (x : Tender) :
    SameBooks s (s.grantNeed j n x) := by
  refine .of_tenders (g := fun i y => if n.tender = i then y.granted n.kind s.nextTag else y) rfl (fun i => ?_)
    fun i y _ => ?_
  · rw [State.grantNeed, State.modTender_tender?]
    split <;> simp [State.tender?]
  · split <;> rfl

theorem execGrant_booksTo (hs : Books s) : BooksTo (execGrant s) := by
  refine booksTo_next ?_
  split
  · split
    · exact hs
    next n _ _ =>
      split
      · exact hs
      next x _ => exact (s.grantNeed_sameBooks _ n x).books hs
  · exact hs

theorem execNoLinkCompletion_booksTo (hs : Books s) (hneeds : NeedsPlaced s) :
    BooksTo (execNoLinkCompletion s) := by
  refine booksTo_next ?_
  split
  · split
    · exact hs
    next n hn =>
      exact (State.completeNoLink_books hs (hneeds.waiting n (List.mem_of_find?_eq_some hn))).of_eq (by simp)
  · exact hs

theorem execLinkOkFall_booksTo (hs : Books s) (hneeds : NeedsPlaced s) : BooksTo (execLinkOkFall s) := by
  refine booksTo_next ?_
  have hdown : Books ((s.setLinkOk false).setLink .down) := hs.of_eq ⟨rfl, rfl⟩
  dsimp only
  split
  · exact (State.departUp_books hdown hneeds.nodup hneeds.waiting).of_eq (by simp)
  · exact hs.of_eq ⟨rfl, rfl⟩

theorem execLinkOkRise_booksTo (hs : Books s) : BooksTo (execLinkOkRise s) := by
  refine booksTo_next ?_
  dsimp only
  split <;> exact hs.of_eq ⟨rfl, rfl⟩

/-! ## Other events -/

theorem execFhpTransaction_booksTo (hs : Accounts s) (bytes : List Byte) : BooksTo (execFhpTransaction bytes s) := by
  have htaken : Books (s.takeIncoming bytes) := by
    unfold State.takeIncoming
    split
    · exact hs.books
    · exact hs.books.of_eq ⟨rfl, rfl⟩
    · exact hs.books.of_eq ⟨rfl, rfl⟩
    · split
      · exact hs.books
      next i _ =>
        cases ho : execRequest i s with
        | next t => exact execRequest_booksTo i hs t ho
        | fault _ | refused _ => exact hs.books
  refine booksTo_next ?_
  split
  · exact hs.books
  · split
    · exact hs.books.of_eq ⟨rfl, rfl⟩
    · exact htaken.of_eq (by simp)

theorem execLeaseExpiry_booksTo (hs : Books s) (check tender : Nat) : BooksTo (execLeaseExpiry check tender s) := by
  refine booksTo_next ?_
  split
  · exact hs
  next i _ =>
    split
    · exact hs
    · split
      · have hdone : Books (s.doneLease i) := hs.of_eq ⟨rfl, rfl⟩
        exact (State.expireLease_books hdone i).of_eq (by simp)
      · exact hs

theorem execApprovalExpiry_booksTo (hs : Books s) (number : Nat) : BooksTo (execApprovalExpiry number s) := by
  refine booksTo_next ?_
  split
  · exact hs
  next a _ =>
    split
    · have hdone : Books (s.doneApproval number) := hs.of_eq ⟨rfl, rfl⟩
      exact (State.endApproval_books hdone a 18).of_eq (by simp)
    · exact hs

theorem execCheckAged_booksTo (hs : Books s) (check : Nat) : BooksTo (execCheckAged check s) := by
  refine booksTo_next ?_
  split
  · exact hs
  · split
    · exact hs
    · split
      · have hdone : Books (s.doneAge check) := hs.of_eq ⟨rfl, rfl⟩
        refine SameBooks.books (.modCheck ?_) hdone
        exact fun _ _ => rfl
      · exact hs

theorem execFrameIdleTimeout_booksTo (hs : Books s) (port : StreamPort) (count : Nat) :
    BooksTo (execFrameIdleTimeout port count s) := by
  refine booksTo_next ?_
  split
  · exact hs
  · split
    · exact hs.of_eq (by simp)
    · split
      · exact hs
      · exact hs.of_eq (by simp)
    · exact hs.of_eq (by simp)
    · exact hs.of_eq (by simp)

theorem execOutputFrameSent_booksTo (hs : Books s) (port : StreamPort) : BooksTo (execOutputFrameSent port s) := by
  refine booksTo_next ?_
  split
  · exact hs
  · cases port with
    | flp => dsimp only; split <;> exact hs.of_eq ⟨rfl, rfl⟩
    | aqp => exact hs.of_eq ⟨rfl, rfl⟩

theorem execSecondTick_booksTo (hs : Books s) : BooksTo (execSecondTick s) := by
  refine booksTo_next ?_
  split
  · dsimp only
    split <;> exact hs.of_eq ⟨rfl, rfl⟩
  · exact hs

theorem execClockAdvanceWithoutPower_booksTo (hs : Books s) (seconds : Nat) :
    BooksTo (execClockAdvanceWithoutPower seconds s) := by
  refine booksTo_next ?_
  split
  · dsimp only
    split
    · rw [State.passMinutes_frame]
      exact hs.of_eq ⟨rfl, rfl⟩
    · exact hs.of_eq ⟨rfl, rfl⟩
  · exact hs

theorem execColdStart_booksTo (hs : Books s) (selLow : Bool) : BooksTo (execColdStart selLow s) := by
  refine booksTo_next ?_
  split
  · exact .of_cleared rfl rfl
  · exact hs

theorem execRetentionIndicatorLost_booksTo (hs : Books s) : BooksTo (execRetentionIndicatorLost s) := by
  refine booksTo_next ?_
  split
  · exact .of_cleared rfl rfl
  · exact hs

theorem execWarmStart_booksTo (hs : Books s) (selLow : Bool) : BooksTo (execWarmStart selLow s) := by
  refine booksTo_next ?_
  have hstarted : Books ((s.startCommon selLow).latchStart .warm) := hs.of_eq ⟨rfl, rfl⟩
  split
  · exact State.recoverAll_books hstarted
  · exact hs

/-- An event that leaves the checks and the tenders alone where its condition holds, and everything where it does
not. -/
theorem booksTo_ite (hs : Books s) {b : Prop} [Decidable b] (h : t.ckt = s.ckt ∧ t.tdu = s.tdu) :
    BooksTo (.next (if b then t else s)) := by
  refine booksTo_next ?_
  split
  · exact hs.of_eq h
  · exact hs

end

/-! ## Every command -/

/-- Every command keeps the books, where each need and each exchange has its tender. -/
theorem exec_booksTo (i : Instr) {s : State} (hs : Accounts s) (hneeds : NeedsPlaced s) : BooksTo (exec i s) := by
  by_cases hi : (requestOf i).isSome = true
  · rw [exec_eq_execRequest hi]
    exact execRequest_booksTo i hs
  cases i with
  | malformedRequest h kind bodyLen => exact execRequest_booksTo (.malformedRequest h kind bodyLen) hs
  | tagZeroFrame port => exact execRequest_booksTo (.tagZeroFrame port) hs
  | crcErrorFrame port => exact booksTo_ite hs.books (by simp)
  | frameLenError port len => exact booksTo_ite hs.books (by simp)
  | frameIdleTimeout port count => exact execFrameIdleTimeout_booksTo hs.books port count
  | requestOverrun port => exact booksTo_ite hs.books (by simp)
  | fhpTransaction bytes => exact execFhpTransaction_booksTo hs bytes
  | outputFrameSent port => exact execOutputFrameSent_booksTo hs.books port
  | result tag body => exact execResult_booksTo hs.books hneeds tag body
  | nonResultFrame kind => exact booksTo_ite hs.books ⟨rfl, rfl⟩
  | exchangeTimeout tag => exact execExchangeTimeout_booksTo hs.books hneeds tag
  | grant => exact execGrant_booksTo hs.books
  | noLinkCompletion => exact execNoLinkCompletion_booksTo hs.books hneeds
  | linkOkFall => exact execLinkOkFall_booksTo hs.books hneeds
  | linkOkRise => exact execLinkOkRise_booksTo hs.books
  | leaseExpiry check tender => exact execLeaseExpiry_booksTo hs.books check tender
  | approvalExpiry number => exact execApprovalExpiry_booksTo hs.books number
  | terminalSilence terminal => exact booksTo_ite hs.books ⟨rfl, rfl⟩
  | checkAged check => exact execCheckAged_booksTo hs.books check
  | secondTick => exact execSecondTick_booksTo hs.books
  | minuteTick => exact booksTo_ite hs.books ⟨rfl, rfl⟩
  | saveEnd matched => exact booksTo_ite hs.books ⟨rfl, rfl⟩
  | resetAssert cause => cases cause <;> exact booksTo_next (hs.books.of_eq ⟨rfl, rfl⟩)
  | coldStart selLow => exact execColdStart_booksTo hs.books selLow
  | warmStart selLow => exact execWarmStart_booksTo hs.books selLow
  | clockAdvanceWithoutPower seconds => exact execClockAdvanceWithoutPower_booksTo hs.books seconds
  | retentionIndicatorLost => exact execRetentionIndicatorLost_booksTo hs.books
  | _ => exact absurd rfl hi

/-- Settles O58: the books of a check change with a tender event, a new tender, new figures of an orderable check, and
with the check itself, and each of these keeps them; every other operation leaves them alone. The seating of the checks
and the approval holds are not needed. -/
theorem portionsStayCounted : Obligations.PortionsStayCounted := by
  intro s t hstep _ hlisted _ hfit hneeds hcounted
  have hs := Accounts.of_invariants hlisted hfit hcounted
  unfold step at hstep
  split at hstep
  · obtain rfl := Host.Outcome.next.inj hstep
    exact hcounted
  next c rest _ =>
    have hplaced := hneeds.placed
    have hs' : Accounts { s with pending := rest } := hs.of_eq (fun _ => rfl) (fun _ => rfl) fun _ ha => ha
    exact (exec_booksTo c hs' ⟨hplaced.nodup, hplaced.waiting, hplaced.exchanged, hplaced.apart⟩ t hstep).portionsCounted

end Sys2Proof.Machine
end

section
/-! The train of a tender event: the tender, its portion, the version, and the derived state with its event (05 R88;
01 R4, R9, R10). -/

namespace Sys2Proof.Machine

section
variable {s : State} {i slot : Nat} {x : Tender} {c : Check} {f : Tender → Tender}

theorem Check.derives_false_iff : c.derives false = true ↔ c.state = .settling ∨ c.state = .paid := by
  simp [Check.derives]

/-- A check that is not derived anew stays as it is (01 R9). -/
theorem State.derive_of_not_derives {afterStart : Bool} (hc : s.check? slot = some c)
    (hderives : ¬c.derives afterStart = true) : s.derive afterStart slot = s := by
  simp only [State.derive, hc]
  exact if_neg fun happlies => hderives happlies.1

/-- The state of a check after a derivation that follows no START TENDER, its plan and tenders given (01 R9). -/
def Check.restated (c : Check) (p : Plan) (ts : List Tender) : CheckState :=
  if c.state = .settling ∨ c.state = .paid then derivedState p ts else c.state

/-- A check that has followed a change of its tender, before its state is derived (05 R88 steps 2 and 3). -/
def Check.followed (c : Check) (i : Nat) (x y : Tender) : Check :=
  { c with version := nextVersion c.version, plan := c.plan.follow i x y }

/-- The state after the first three steps of a tender event, before the derivation (05 R88). -/
def State.carried (s : State) (i slot : Nat) (f : Tender → Tender) : State :=
  (s.moveTender i f).modCheck slot Check.stepVersion

section
variable (hx : s.tender? i = some x) (hc : s.check? x.slot = some c)
include hx

theorem State.tenderEvent_eq : s.tenderEvent i f = (s.carried i x.slot f).derive false x.slot := by
  rw [State.tenderEvent, hx]
  rfl

theorem State.moveTender_check?_of_ne {j : Nat} (hj : j ≠ x.slot) : (s.moveTender i f).check? j = s.check? j := by
  rw [State.moveTender_eq hx, State.modCheck_check?, if_neg (Ne.symm hj), State.modTender_check?]

/-- A tender event changes no check but that of its tender (05 R88). -/
theorem State.tenderEvent_check?_of_ne {j : Nat} (hj : j ≠ x.slot) : (s.tenderEvent i f).check? j = s.check? j := by
  rw [State.tenderEvent_eq hx, State.derive_check?_of_ne hj, State.carried, State.modCheck_check?, if_neg (Ne.symm hj),
    State.moveTender_check?_of_ne hx hj]

include hc

theorem State.carried_check? : (s.carried i x.slot f).check? x.slot = some (c.followed i x (f x)) := by
  rw [State.carried, State.modCheck_check?_self, State.moveTender_eq hx, State.modCheck_check?_self,
    State.modTender_check?, hc]
  rfl

omit hc in
theorem State.carried_tendersOf (c : Check) :
    (s.carried i x.slot f).tendersOf c = (s.tenderEvent i f).tendersOf c := by
  rw [State.tenderEvent_eq hx]
  exact State.tendersOf_congr (State.derive_tdu _ false x.slot).symm c

/-- The check of a tender after its event: its portions have followed, its version has stepped, and in SETTLING and
PAID its state is derived from the records as they then stand (05 R88; 01 R9). -/
theorem State.tenderEvent_check? :
    (s.tenderEvent i f).check? x.slot = some { c.followed i x (f x) with
      state := c.restated (c.plan.follow i x (f x)) ((s.tenderEvent i f).tendersOf c) } := by
  rw [← State.carried_tendersOf hx c, State.tenderEvent_eq hx]
  have hcarried := State.carried_check? (f := f) hx hc
  by_cases hstate : c.state = .settling ∨ c.state = .paid
  · rw [State.derive_check? hcarried (Check.derives_false_iff.mpr hstate), Check.restated, if_pos hstate]
    rfl
  · rw [State.derive_of_not_derives hcarried (mt Check.derives_false_iff.mp hstate), hcarried, Check.restated,
      if_neg hstate]
    rfl

/-- A tender event hands on the event of its check's new state, and nothing where the state stays (01 R10). -/
theorem State.tenderEvent_wnu {state : CheckState}
    (hstate : state = c.restated (c.plan.follow i x (f x)) ((s.tenderEvent i f).tendersOf c)) :
    (s.tenderEvent i f).wnu
      = if state = c.state then s.wnu else (s.handEvent c.number (derivedEvent state)).wnu := by
  have hwnu : (s.carried i x.slot f).wnu = s.wnu := by simp [State.carried]
  have hfmp : (s.carried i x.slot f).fmp = s.fmp := by simp [State.carried]
  have hcarried := State.carried_check? (f := f) hx hc
  subst hstate
  rw [← State.carried_tendersOf hx c, State.tenderEvent_eq hx, Check.restated]
  by_cases hderives : c.state = .settling ∨ c.state = .paid
  · rw [State.derive_wnu hcarried (Check.derives_false_iff.mpr hderives), if_pos hderives, hwnu,
      State.handEvent_wnu_congr hwnu hfmp]
    rfl
  · rw [State.derive_of_not_derives hcarried (mt Check.derives_false_iff.mp hderives), if_neg hderives, if_pos rfl, hwnu]

end
end

/-- Settles O41: each step of the train is read off the state it leaves. -/
theorem tenderEventCarriesTrain : Obligations.TenderEventCarriesTrain := by
  intro s i x c f hx hc
  refine ⟨_, State.tenderEvent_check? hx hc, rfl, rfl, ?_, fun j hj => ?_, fun j hj =>
    State.tenderEvent_check?_of_ne hx hj, State.tenderEvent_wnu hx hc rfl, by simp, by simp, by simp, by simp, by simp,
    by simp⟩
  · rw [State.tenderEvent_tender?, if_pos rfl, hx, Option.map_some]
  · rw [State.tenderEvent_tender?, if_neg hj]

end Sys2Proof.Machine
end

section
/-! The requests on split plans that are carried out, and the plans of a recomputation (05 R82 to R86; 04 R70, R71). -/

namespace Sys2Proof.Machine

/-! ## Plans -/

/-- A portion after an amount has been entered for portion n (05 R84). -/
theorem Plan.enter_getElem? (p : Plan) (n amount k : Nat) :
    (p.enter n amount).portions[k]?
      = p.portions[k]?.map fun q => if q.number = n then { q with share := amount } else q :=
  List.getElem?_map

/-- The portions of a CUSTOM plan as SET SPLIT builds it (05 R83). -/
theorem freshPortions_blank (n : Nat) :
    freshPortions (List.replicate n 0) (List.replicate n none)
      = (List.range n).map fun p => { number := p + 1, share := 0, seat := none, counted := 0, claim := none } := by
  refine List.ext_getElem (by simp [freshPortions]) fun k _ _ => ?_
  simp [freshPortions]

theorem badSeatCount_eq_false {m : Nat} : badSeatCount m = false ↔ 1 ≤ m ∧ m ≤ 20 := by
  simp only [badSeatCount, Bool.or_eq_false_iff, decide_eq_false_iff_not]
  omega

/-- The plan after a recomputation: the amounts of a CUSTOM plan stay, and a new total takes a LOCKED one back to DRAFT;
any other plan is built anew (01 R6, 04 R71). -/
theorem rebuiltPlan_eq (w : Settings) (c : Check) (total : Nat) :
    rebuiltPlan w c total = if c.plan.kind = .custom then
        { c.plan with state := if c.plan.state = .locked ∧ total ≠ c.totals.total then .draft else c.plan.state }
      else buildPlan w c.covers c.lines c.plan.kind c.plan.count := by
  unfold rebuiltPlan
  cases hkind : c.plan.kind with
  | custom =>
    simp only [if_true]
    by_cases htotal : total = c.totals.total
    · simp [htotal]
    · cases hstate : c.plan.state <;> simp [htotal]
  | unsplit | even | bySeat => rfl

/-- When a recomputation succeeds, and what it gives (04 R62, R66, R71). -/
theorem recompute_eq_ok_iff {w : Settings} {c c' : Check} :
    recompute w c = .ok c' ↔
      (totalsOf w c.covers c.lines).total ≤ Config.maxAmount
      ∧ (c.plan.kind = .bySeat → badSeatCount (seatsPresent c.lines).length = false)
      ∧ c' = { c with totals := totalsOf w c.covers c.lines
                      plan := rebuiltPlan w c (totalsOf w c.covers c.lines).total } := by
  simp only [recompute]
  split
  next hmax => exact iff_of_false nofun fun h => Nat.not_lt_of_le h.1 hmax
  next hmax =>
    split
    next hseats =>
      refine iff_of_false nofun fun h => ?_
      cases hseats.2.symm.trans (h.2.1 hseats.1)
    next hseats =>
      rw [Tally.ok.injEq]
      refine ⟨fun h => ⟨Nat.le_of_not_lt hmax, fun hk => ?_, h.symm⟩, fun h => h.2.2.symm⟩
      simpa using fun hbad => hseats ⟨hk, hbad⟩

/-! ## The requests (05 R83 to R85) -/

section
variable {s : State} {h : Hdr} {number slot : Nat} {c : Check}

/-- A check that is rewritten and reported in the answer's summary (01 R12). -/
theorem takenSummary_modCheck {u : State} (hc : u.check? slot = some c) (hfck : u.fck = s.fck) (f : Check → Check) :
    (u.modCheck slot f).takenSummary slot = (u.modCheck slot fun _ => f c, reply .taken (s.summary (f c))) := by
  rw [State.modCheck_congr hc (g := fun _ => f c) rfl, State.takenSummary, summaryAt_modCheck hc hfck]

theorem setSplit_completes {kind count : Nat} {k : PlanKind} (hj : Judged s h .change) (hn : Named s number slot c)
    (hmay : s.mayChange h.term c = true) (hkind : PlanKind.ofNat? kind = some k) (hcount : badSplitCount k count = false)
    (hseats : k = .bySeat → badSeatCount (seatsPresent c.lines).length = false) (hready : Ready c h)
    (hopen : c.orderable = true) {c' : Check}
    (hc' : c' = { c with version := nextVersion c.version, totals := totalsOf s.sst.work c.covers c.lines
                         plan := buildPlan s.sst.work c.covers c.lines k count, splitFault := none }) :
    exec (.setSplit h number kind count) s = .next
      (((s.hear h.term).modCheck slot fun _ => c').finish h 0x30 .taken (s.summary c')) := by
  obtain ⟨hstale, hheld⟩ := hready
  subst hc'
  refine congrArg Host.Outcome.next (request_eq_finish hj ?_)
  rw [withCheck_of_named (hn.hear _)]
  dsimp only
  rw [hkind, Option.getD_some, State.hear_mayChange, State.hear_sst,
    takenSummary_modCheck (hn.hear h.term).2 (s.hear_fck _), judged_of_pass]
  · rfl
  · simpa [judge_eq_none_cons, judge_nil, hmay, hcount, hstale, hheld, hopen] using hseats

theorem setPortion_completes {portion amount : Nat} (hj : Judged s h .change) (hn : Named s number slot c)
    (hmay : s.mayChange h.term c = true) (hcustom : c.plan.kind = .custom) (hpos : 1 ≤ portion)
    (hcount : portion ≤ c.plan.count) (hmax : portion ≤ 20) (hamount : amount ≤ c.totals.total) (hready : Ready c h)
    (hopen : c.orderable = true) :
    exec (.setPortion h number portion amount) s = .next
      (((s.hear h.term).modCheck slot fun _ =>
          { c with version := nextVersion c.version, plan := c.plan.enter portion amount }).finish h 0x31 .taken
        (be1 portion ++ be4 amount ++ be4 (c.plan.enter portion amount).shareSum ++ be4 c.totals.total)) := by
  obtain ⟨hstale, hheld⟩ := hready
  refine congrArg Host.Outcome.next (request_eq_finish hj ?_)
  rw [withCheck_of_named (hn.hear _)]
  dsimp only
  rw [State.hear_mayChange, judged_of_pass]
  · rw [State.modCheck_congr (hn.hear h.term).2]
    rfl
  · have hzero : portion ≠ 0 := by omega
    simp [judge_eq_none_cons, judge_nil, hmay, hcustom, hcount, hmax, hamount, hstale, hheld, hopen, hzero]

/-- LOCK SPLIT on a CUSTOM plan whose amounts sum to the total (05 R85). -/
theorem lockSplit_completes (hj : Judged s h .change) (hn : Named s number slot c)
    (hmay : s.mayChange h.term c = true) (hcustom : c.plan.kind = .custom) (hready : Ready c h)
    (hopen : c.orderable = true) (hsum : c.plan.shareSum = c.totals.total) {c' : Check}
    (hc' : c' = { c with version := nextVersion c.version, plan := { c.plan with state := .locked }
                         splitFault := none }) :
    exec (.lockSplit h number) s = .next
      (((s.hear h.term).modCheck slot fun _ => c').finish h 0x32 .taken (s.summary c')) := by
  obtain ⟨hstale, hheld⟩ := hready
  have hkind : decide (c.plan.kind = .custom) = true := decide_eq_true hcustom
  subst hc'
  refine congrArg Host.Outcome.next (request_eq_finish hj ?_)
  rw [withCheck_of_named (hn.hear _)]
  simp only [State.hear_mayChange, hmay, hkind, hsum, bne_self_eq_false, Bool.and_false, Bool.not_true,
    Bool.false_eq_true, if_false]
  rw [takenSummary_modCheck (hn.hear h.term).2 (s.hear_fck _), judged_of_pass]
  · rfl
  · simp [judge_eq_none_cons, judge_nil, hstale, hheld, hopen]

/-- LOCK SPLIT on a CUSTOM plan whose amounts do not sum to the total (04 R70, 05 R85). -/
theorem lockSplit_faults (hj : Judged s h .change) (hn : Named s number slot c) (hmay : s.mayChange h.term c = true)
    (hcustom : c.plan.kind = .custom) (hready : Ready c h) (hopen : c.orderable = true)
    (hsum : c.plan.shareSum ≠ c.totals.total) {f : SplitFault} (hf : f = splitFaultOf c.plan.shareSum c.totals.total) :
    exec (.lockSplit h number) s = .next
      (((s.hear h.term).modCheck slot fun _ => { c with splitFault := some f }).finish h 0x32 .range
        (be1 5 ++ be1 0 ++ be1 0 ++ be4 f.sum ++ be4 f.total ++ be4 f.difference ++ be1 f.isOver.toNat)) := by
  obtain ⟨hstale, hheld⟩ := hready
  subst hf
  refine congrArg Host.Outcome.next (request_eq_finish hj ?_)
  rw [withCheck_of_named (hn.hear _)]
  simp only [State.hear_mayChange, hmay, hcustom, hstale, hheld, hopen, bne_iff_ne, ne_eq, hsum, not_false_eq_true,
    decide_true, Bool.and_self, Bool.true_and, Bool.not_true, Bool.not_false, Bool.false_eq_true, if_false, if_true]
  rw [State.modCheck_congr (hn.hear h.term).2 (g := fun _ =>
    { c with splitFault := some (splitFaultOf c.plan.shareSum c.totals.total) }) rfl]
  rfl

end

/-- Settles O13: no test refuses the three requests, and the plans are those of their definitions. -/
theorem splitRequestsComplete : Obligations.SplitRequestsComplete := by
  refine ⟨fun s h number slot kind count k c hj hn hmay hkind hcount hseats hready hopen =>
      setSplit_completes hj hn hmay hkind hcount hseats hready hopen rfl,
    fun s h number slot portion amount c => setPortion_completes,
    fun s h number slot c hj hn hmay hcustom hready hopen hsum =>
      lockSplit_completes hj hn hmay hcustom hready hopen hsum rfl,
    fun s h number slot c hj hn hmay hcustom hready hopen hsum =>
      lockSplit_faults hj hn hmay hcustom hready hopen hsum rfl,
    fun plan portion amount => ⟨rfl, rfl, rfl, List.length_map .., fun k q hq => ?_⟩,
    fun w covers n lines => ⟨rfl, rfl, rfl, freshPortions_blank n⟩, fun w c c' => ?_⟩
  · rw [Plan.enter_getElem?, hq, Option.map_some]
  · rw [recompute_eq_ok_iff, rebuiltPlan_eq]
    simp only [badSeatCount_eq_false]
    rfl

end Sys2Proof.Machine
end

section
/-! What the ticks find due, and what is carried out of it (05 R93; 08 R152; 02 R29; 01 R22; 11 R192, R194). -/

namespace Sys2Proof.Machine

section
variable {s : State}

/-! ## The clocks (11 R194) -/

/-- A second on the minute clock is one more second of its cycle of 65,536 days (11 R194). -/
theorem FloorClock.advance_one (c : FloorClock) (hsecond : c.second ≤ 59) (hminute : c.minute ≤ 1439)
    (hday : c.day ≤ 65535) :
    ((c.advance 1).day * 1440 + (c.advance 1).minute) * 60 + (c.advance 1).second
      = ((c.day * 1440 + c.minute) * 60 + c.second + 1) % (65536 * 1440 * 60) := by
  simp only [FloorClock.advance]
  omega

/-- The second that ends a minute is one more minute of the cycle (11 R194). -/
theorem FloorClock.advance_minute (c : FloorClock) (hsecond : c.second = 59) (hminute : c.minute ≤ 1439)
    (hday : c.day ≤ 65535) :
    (c.advance 1).day * 1440 + (c.advance 1).minute = (c.day * 1440 + c.minute + 1) % (65536 * 1440)
      ∧ (c.advance 1).second = 0 := by
  simp only [FloorClock.advance]
  omega

theorem FloorClock.minuteEnds_iff {c : FloorClock} : c.minuteEnds = true ↔ 59 ≤ c.second := decide_eq_true_iff

/-! ## What a tick finds due (11 R194; log entry 6) -/

theorem State.mem_exchangesDue {tag : Nat} :
    tag ∈ s.secondTests.exchanges
      ↔ ∃ (j : Nat) (e : Exchange), s.aqp.entries[j]? = some (some e) ∧ e.tag = tag ∧ e.deadline ≤ s.now := by
  simp only [State.secondTests, List.mem_map, List.mem_filter, List.mem_filterMap, id_eq, exists_eq_right,
    decide_eq_true_eq]
  constructor
  · rintro ⟨e, ⟨he, hdue⟩, htag⟩
    obtain ⟨j, hj⟩ := List.getElem?_of_mem he
    exact ⟨j, e, hj, htag, hdue⟩
  · rintro ⟨j, e, hj, htag, hdue⟩
    exact ⟨e, ⟨List.mem_of_getElem? hj, hdue⟩, htag⟩

theorem Lease.expired_iff {now : Nat} {l : Lease} : l.expired now = true ↔ ∃ d, l = .running d ∧ d ≤ now := by
  cases l <;> simp [Lease.expired]

theorem State.mem_leasesDue {i : Nat} :
    i ∈ s.secondTests.leases ↔ ∃ x d, s.tender? i = some x ∧ x.lease = .running d ∧ d ≤ s.now := by
  refine State.mem_tendersWhere.trans ?_
  simp only [Option.any_eq_true, Lease.expired_iff, exists_and_left]

theorem State.mem_approvalsDue {n : Nat} :
    n ∈ s.secondTests.approvals ↔ ∃ a ∈ s.apu.table, a.number = n ∧ a.deadline ≤ s.now := by
  simp only [State.secondTests, List.mem_map, List.mem_filter, decide_eq_true_eq, and_assoc]
  exact exists_congr fun a => and_congr_right fun _ => and_comm

theorem State.mem_silencesDue {n : Nat} :
    n ∈ s.secondTests.silences ↔ 1 ≤ n ∧ n ≤ 48 ∧ s.isPresent n = true
      ∧ (n ∈ s.due.silences ∨ s.lastHeard n + s.setting 20 ≤ s.now) := by
  have hterminals : n ∈ List.range' 1 Config.terminalCount ↔ 1 ≤ n ∧ n ≤ 48 := by
    rw [List.mem_range'_1, Config.terminalCount]
    omega
  simp only [State.secondTests, List.mem_filter, hterminals, State.silent?, Bool.or_eq_true, Bool.and_eq_true,
    decide_eq_true_eq, List.contains_iff_mem]
  tauto

/-- The checks that a minute tick finds due to become aged (01 R22). -/
theorem State.mem_minuteTests {n : Nat} :
    n ∈ s.minuteTests ↔ ∃ c ∈ s.liveChecks, c.number = n ∧ c.aged = false
      ∧ (n ∈ s.due.ages ∨ s.setting 21 ≠ 0 ∧ s.setting 21 ≤ s.age c) := by
  simp only [State.minuteTests, List.mem_map, List.mem_filter, State.ages?, Bool.or_eq_true, Bool.and_eq_true,
    bne_iff_ne, decide_eq_true_eq, Bool.not_eq_true', List.contains_iff_mem, and_assoc]
  refine exists_congr fun c => and_congr_right fun _ => ?_
  constructor
  · rintro ⟨hdue, rfl⟩
    tauto
  · rintro ⟨rfl, haged, hdue⟩
    tauto

/-! ## The ticks (11 R194) -/

/-- The state that a second leaves where no minute ends with it (11 R194). -/
def State.ticked (s : State) : State :=
  { s with fck := s.fck.tick, due := ({ s with fck := s.fck.tick } : State).secondTests }

theorem execSecondTick_of_running (h : s.running = true) :
    execSecondTick s = .next (if s.fck.minuteEnds then s.ticked.minuteTested else s.ticked) := by
  simp only [execSecondTick, h, if_true]
  rfl

theorem secondTick_completes (hrunning : s.running = true) (hsecond : s.fck.second ≤ 59) (hminute : s.fck.minute ≤ 1439)
    (hday : s.fck.day ≤ 65535) : ∃ t,
    exec .secondTick s = .next t
    ∧ t.fck.timebase = s.fck.timebase + 1 ∧ t.fck.unset = s.fck.unset
    ∧ t.fck.second ≤ 59 ∧ t.fck.minute ≤ 1439
    ∧ (t.fck.day * 1440 + t.fck.minute) * 60 + t.fck.second
        = ((s.fck.day * 1440 + s.fck.minute) * 60 + s.fck.second + 1) % (65536 * 1440 * 60)
    ∧ (∀ tag, tag ∈ t.due.exchanges ↔
        ∃ (j : Nat) (e : Exchange),
          s.aqp.entries[j]? = some (some e) ∧ e.tag = tag ∧ e.deadline ≤ s.fck.timebase + 1)
    ∧ (∀ i, i ∈ t.due.leases ↔
        ∃ x d, s.tender? i = some x ∧ x.lease = .running d ∧ d ≤ s.fck.timebase + 1)
    ∧ (∀ n, n ∈ t.due.approvals ↔ ∃ a ∈ s.apu.table, a.number = n ∧ a.deadline ≤ s.fck.timebase + 1)
    ∧ (∀ n, n ∈ t.due.silences ↔ 1 ≤ n ∧ n ≤ 48 ∧ s.isPresent n = true
        ∧ (n ∈ s.due.silences ∨ s.lastHeard n + s.setting 20 ≤ s.fck.timebase + 1))
    ∧ (s.fck.second < 59 → t.due.ages = s.due.ages)
    ∧ (s.fck.second = 59 → ∀ n, n ∈ t.due.ages ↔ ∃ c ∈ s.liveChecks, c.number = n ∧ c.aged = false
        ∧ (n ∈ s.due.ages ∨ s.setting 21 ≠ 0 ∧ s.setting 21 ≤ t.age c))
    ∧ t = { s with fck := t.fck, due := t.due } := by
  obtain ⟨-, hminute', hsecond'⟩ := s.fck.advance_inRange 1
  have hcycle := s.fck.advance_one hsecond hminute hday
  have hexec := execSecondTick_of_running hrunning
  rcases Nat.lt_or_eq_of_le hsecond with hgoes | hends
  · rw [if_neg fun h => Nat.not_le_of_lt hgoes (FloorClock.minuteEnds_iff.mp h)] at hexec
    exact ⟨_, hexec, rfl, rfl, hsecond', hminute', hcycle, fun _ => State.mem_exchangesDue, fun _ => State.mem_leasesDue,
      fun _ => State.mem_approvalsDue, fun _ => State.mem_silencesDue, fun _ => rfl,
      fun hends => absurd hends (Nat.ne_of_lt hgoes), rfl⟩
  · rw [if_pos (FloorClock.minuteEnds_iff.mpr (Nat.le_of_eq hends.symm))] at hexec
    exact ⟨_, hexec, rfl, rfl, hsecond', hminute', hcycle, fun _ => State.mem_exchangesDue, fun _ => State.mem_leasesDue,
      fun _ => State.mem_approvalsDue, fun _ => State.mem_silencesDue, fun hlt => absurd hends (Nat.ne_of_lt hlt),
      fun _ _ => State.mem_minuteTests, rfl⟩

theorem minuteTick_completes (hmain : s.power.mainLow = false) (hsecond : s.fck.second = 59)
    (hminute : s.fck.minute ≤ 1439) (hday : s.fck.day ≤ 65535) : ∃ t,
    exec .minuteTick s = .next t
    ∧ (t.fck.day * 1440 + t.fck.minute) = (s.fck.day * 1440 + s.fck.minute + 1) % (65536 * 1440)
    ∧ t.fck.minute ≤ 1439 ∧ t.fck.second = 0 ∧ t.fck.timebase = s.fck.timebase ∧ t.fck.unset = s.fck.unset
    ∧ (∀ n, n ∈ t.due.ages ↔ ∃ c ∈ s.liveChecks, c.number = n ∧ c.aged = false
        ∧ (n ∈ s.due.ages ∨ s.setting 21 ≠ 0 ∧ s.setting 21 ≤ t.age c))
    ∧ t = { s with fck := t.fck, due := { s.due with ages := t.due.ages } } := by
  obtain ⟨-, hminute', -⟩ := s.fck.advance_inRange 1
  obtain ⟨hcycle, hzero⟩ := s.fck.advance_minute hsecond hminute hday
  have hticks : (s.powered && s.fck.minuteEnds) = true := by
    simp [State.powered, hmain, FloorClock.minuteEnds_iff, hsecond]
  exact ⟨_, congrArg Host.Outcome.next (if_pos hticks), hcycle, hminute', hzero, rfl, rfl,
    fun _ => State.mem_minuteTests, rfl⟩

/-! ## What was found due is carried out (05 R93; 08 R152; 02 R29; 01 R22) -/

theorem checkNumbered_of_named {number slot : Nat} {c : Check} (hn : Named s number slot c) :
    s.checkNumbered number = some c := by
  rw [State.checkNumbered, hn.1, Option.bind_some, hn.2]

theorem leaseExpiry_completes {number tender slot i deadline : Nat} {c : Check} {x : Tender} (hrunning : s.running = true)
    (hn : Named s number slot c) (ht : NamedTender s c tender i x) (hdue : i ∈ s.due.leases)
    (hlease : x.lease = .running deadline) (hdeadline : deadline ≤ s.fck.timebase) :
    exec (.leaseExpiry number tender) s = .next ((s.doneLease i).expireLease i).flushPushes := by
  have hexpired : s.leaseDue i x = true := by
    simp [State.leaseDue, hrunning, hdue, Lease.expired_iff, hlease, State.now, hdeadline]
  refine congrArg Host.Outcome.next ?_
  rw [checkNumbered_of_named hn, Option.bind_some, ht.1]
  dsimp only
  rw [ht.2]
  exact if_pos hexpired

theorem approvalExpiry_completes {n : Nat} {a : Approval} (hrunning : s.running = true)
    (ha : s.approvalNumbered n = some a) (hdue : n ∈ s.due.approvals) (hdeadline : a.deadline ≤ s.fck.timebase) :
    exec (.approvalExpiry n) s = .next ((s.doneApproval n).endApproval a 18).flushPushes := by
  have hexpired : s.approvalDue n a = true := by simp [State.approvalDue, hrunning, hdue, State.now, hdeadline]
  refine congrArg Host.Outcome.next ?_
  rw [ha]
  exact if_pos hexpired

theorem terminalSilence_completes {n : Nat} (hrunning : s.running = true) (hdue : n ∈ s.due.silences)
    (hpresent : s.isPresent n = true) :
    exec (.terminalSilence n) s = .next ((s.doneSilence n).setPresent n false) :=
  congrArg Host.Outcome.next (if_pos (by simp [hrunning, hdue, hpresent]))

theorem checkAged_completes {number slot : Nat} {c : Check} (hmain : s.power.mainLow = false)
    (hn : Named s number slot c) (hdue : number ∈ s.due.ages) (haged : c.aged = false) :
    exec (.checkAged number) s = .next ((s.doneAge number).modCheck slot fun _ => { c with aged := true }) := by
  have hages : (s.powered && s.due.ages.contains number && !c.aged) = true := by
    simp [State.powered, hmain, hdue, haged]
  refine congrArg Host.Outcome.next ?_
  rw [hn.1]
  dsimp only
  rw [hn.2]
  have hc : (s.doneAge number).check? slot = some c := hn.2
  exact (if_pos hages).trans (State.modCheck_congr hc rfl)

/-! ## The end of a save (11 R192) -/

theorem saveEnd_completes (hrunning : s.running = true) (hsaving : s.sst.save = .saving) (matched : Bool) :
    exec (.saveEnd matched) s = .next (s.finishSave matched) :=
  congrArg Host.Outcome.next (if_pos (by simp [hrunning, State.saving, hsaving]))

end

/-- Settles O26: under its hypotheses each event finds its condition, and a tick lists what its tests find. -/
theorem timerEventsComplete : Obligations.TimerEventsComplete := by
  refine ⟨fun s number tender slot i deadline c x hrunning hn ht hdue hlease hdeadline =>
      leaseExpiry_completes hrunning hn ht hdue hlease hdeadline,
    fun s n a hrunning ha hdue hdeadline => approvalExpiry_completes hrunning ha hdue hdeadline,
    fun s n hrunning hdue hpresent => terminalSilence_completes hrunning hdue hpresent,
    fun s number slot c hmain hn hdue haged => checkAged_completes hmain hn hdue haged,
    fun s hrunning hsecond hminute hday => secondTick_completes hrunning hsecond hminute hday,
    fun s hmain hsecond hminute hday => minuteTick_completes hmain hsecond hminute hday,
    fun s hidle => congrArg Host.Outcome.next (if_neg ?_), fun s hhalted => congrArg Host.Outcome.next (if_neg ?_),
    fun s w hrunning hsaving hcopy => ⟨?_, saveEnd_completes hrunning hsaving false⟩⟩
  · rw [Bool.and_eq_true, FloorClock.minuteEnds_iff]
    rcases hidle with hlt | hlow
    · omega
    · simp [State.powered, hlow]
  · simp [hhalted]
  · rw [saveEnd_completes hrunning hsaving true, State.finishSave, hcopy]
    rfl

end Sys2Proof.Machine
end

section
/-! A hold pauses the leases of a check; its last release lets the deferred withdraws act in tender-list order, and then
resumes the leases (05 R92; 06 R115; 08 R144, R149). -/

namespace Sys2Proof.Machine

section
variable {s u v w : State} {i slot : Nat} {x y : Tender} {c : Check} {r : HoldReason}

/-! ## What a derivation reads of the tenders (01 R9) -/

theorem derivedState_congr {p : Plan} {ts ts' : List Tender} (h : ts.map Tender.state = ts'.map Tender.state) :
    derivedState p ts = derivedState p ts' := by
  have hany (q : TenderState → Bool) : (ts.any fun t => q t.state) = ts'.any fun t => q t.state := by
    simpa only [List.any_map, Function.comp_def] using congrArg (List.any · q) h
  rw [derivedState, derivedState, someInFlight, someInFlight, someCounted, someCounted, hany, hany]

/-- A derivation does not see a change that keeps the state of every tender (01 R9). -/
theorem State.derivedState_tendersOf (h : ∀ j, (v.tender? j).map Tender.state = (u.tender? j).map Tender.state)
    (c : Check) (p : Plan) : derivedState p (v.tendersOf c) = derivedState p (u.tendersOf c) := by
  refine derivedState_congr ?_
  rw [State.tendersOf, State.tendersOf, List.map_filterMap, List.map_filterMap]
  exact List.filterMap_congr fun j _ => h j

/-- While a tender counts, a derivation gives PAID or SETTLING (01 R9). -/
theorem derivedState_of_counted {p : Plan} {ts : List Tender} (h : someCounted ts = true) :
    derivedState p ts = .settling ∨ derivedState p ts = .paid := by
  rw [derivedState, h]
  split
  · exact .inr rfl
  · exact .inl rfl

theorem Check.restated_of_derives {p : Plan} {ts : List Tender} (h : c.state = .settling ∨ c.state = .paid) :
    c.restated p ts = derivedState p ts := if_pos h

theorem Check.restated_of_not_derives {p : Plan} {ts : List Tender} (h : ¬(c.state = .settling ∨ c.state = .paid)) :
    c.restated p ts = c.state := if_neg h

/-! ## A deferred withdraw acts (06 R113, R115) -/

theorem Tender.released_slot (x : Tender) : x.released.slot = x.slot := by
  unfold Tender.released
  (repeat' split) <;> rfl

theorem Tender.released_of_undeferred (h : x.deferredWithdraw = false) : x.released = x := by
  rw [Tender.released, h]
  exact if_neg Bool.false_ne_true

/-- Only a tender that counts is moved to another state by the release of its check (06 R113, R115). -/
theorem Tender.counts_of_endsHold (h : x.endsHold = true) : x.state.counts = true := by
  cases hstate : x.state with
  | done o =>
    have hstays : x.released.state = x.state := by
      unfold Tender.released
      split
      · rw [hstate]
      · rfl
    exact absurd hstays (of_decide_eq_true h)
  | tipWait | authorizing | authorized | reversing | capturing => rfl

/-- The flag of a deferred withdraw is cleared (06 R115). -/
def Tender.undeferred (x : Tender) : Tender := { x with deferredWithdraw := false }

/-- A deferred withdraw ends the tender in DONE(WITHDRAWN) (06 R113). -/
theorem Tender.released_of_finishes (hdeferred : x.deferredWithdraw = true)
    (h : x.state = .tipWait ∨ x.state = .authorizing .auth ∧ x.sent = false) :
    x.released = x.undeferred.finish .withdrawn := by
  rcases h with hstate | ⟨hstate, hsent⟩ <;> simp_all [Tender.released, Tender.undeferred]

/-- A deferred withdraw takes the tender to REVERSING (06 R113). -/
theorem Tender.released_of_reverses (hdeferred : x.deferredWithdraw = true)
    (h : x.state = .authorized ∨ x.state = .authorizing .increment ∧ x.sent = false) :
    x.released = x.undeferred.toReversing := by
  rcases h with hstate | ⟨hstate, hsent⟩ <;> simp_all [Tender.released, Tender.undeferred]

/-- A deferred withdraw on a sent tender requests its withdraw (06 R113). -/
theorem Tender.released_of_sent {sub : SubKind} (hdeferred : x.deferredWithdraw = true)
    (hstate : x.state = .authorizing sub) (hsent : x.sent = true) :
    x.released = { x.undeferred with withdrawRequested := true } := by
  simp [Tender.released, Tender.undeferred, hdeferred, hstate, hsent]

/-- A deferred withdraw on a tender past its authorization only loses its flag (06 R115). -/
theorem Tender.released_of_past (hdeferred : x.deferredWithdraw = true)
    (h : x.state = .reversing ∨ x.state = .capturing ∨ ∃ o, x.state = .done o) : x.released = x.undeferred := by
  rcases h with hstate | hstate | ⟨o, hstate⟩ <;> simp [Tender.released, Tender.undeferred, hdeferred, hstate]

/-- The release of its check takes the tender's AUTH or INCREMENT need out of the wait queue (06 R113). -/
def Tender.dropsNeed (x : Tender) : Bool :=
  x.endsHold && (decide (x.state = .authorizing .auth) || decide (x.state = .authorizing .increment))

/-- The release of its check places a REVERSE need for the tender (06 R113). -/
def Tender.placesReverse (x : Tender) : Bool := x.endsHold && decide (x.released.state = .reversing)

/-- A check after an event of one of its tenders, which has left it the plan p and the tenders ts (05 R88). -/
def Check.eventful (c : Check) (p : Plan) (ts : List Tender) : Check :=
  { c with version := nextVersion c.version, plan := p, state := c.restated p ts }

theorem Tender.dropsNeed_of_idle (hauth : x.state ≠ .authorizing .auth) (hincrement : x.state ≠ .authorizing .increment) :
    x.dropsNeed = false := by
  simp [Tender.dropsNeed, hauth, hincrement]

theorem Tender.endsHold_of_stays (h : x.released.state = x.state) : x.endsHold = false := by
  rw [Tender.endsHold, h]
  simp

theorem Tender.endsHold_of_finish {o : TenderEnd} (h : x.released = y.finish o) (hstate : x.state ≠ .done o) :
    x.endsHold = true := decide_eq_true (h ▸ Ne.symm hstate)

theorem Tender.endsHold_of_toReversing (h : x.released = y.toReversing) (hstate : x.state ≠ .reversing) :
    x.endsHold = true := decide_eq_true (h ▸ Ne.symm hstate)

theorem Tender.state_of_not_endsHold (h : x.endsHold = false) : x.released.state = x.state :=
  Decidable.not_not.mp (of_decide_eq_false h)

theorem Tender.dropsNeed_of_stays (h : x.released.state = x.state) : x.dropsNeed = false := by
  rw [Tender.dropsNeed, Tender.endsHold_of_stays h]
  rfl

theorem Tender.dropsNeed_of_authorizing {sub : SubKind} (hends : x.endsHold = true) (hstate : x.state = .authorizing sub) :
    x.dropsNeed = true := by
  rw [Tender.dropsNeed, hends, hstate]
  cases sub <;> rfl

/-- v is u after the deferred withdraw of the tender x of check c, at i, has acted (06 R115). -/
structure Acted (u v : State) (i : Nat) (x : Tender) (c : Check) : Prop where
  tender : ∀ j, v.tender? j = if j = i then some x.released else u.tender? j
  check : ∃ p, v.check? x.slot = some (if x.endsHold then c.eventful p (v.tendersOf c) else c)
  others : ∀ j, j ≠ x.slot → v.check? j = u.check? j
  queue : v.aqp.queue
    = (if x.dropsNeed then u.aqp.queue.filter (fun n => n.tender != i) else u.aqp.queue)
      ++ if x.placesReverse then [{ tender := i, kind := .reverse }] else []

/-- w is u but for the record y of the tender at i, whose need has left the queue where the release of x drops it. -/
structure Prepared (u w : State) (i : Nat) (x y : Tender) : Prop where
  tender : ∀ j, w.tender? j = if j = i then some y else u.tender? j
  check : ∀ j, w.check? j = u.check? j
  queue : w.aqp.queue = if x.dropsNeed then u.aqp.queue.filter (fun n => n.tender != i) else u.aqp.queue

section
variable (hw : Prepared u w i x y) (hc : u.check? x.slot = some c)
include hw hc

/-- A release that keeps the state of the tender is no event (06 R115; log entry 40). -/
theorem Acted.of_quiet (hy : y = x.released) (hquiet : x.endsHold = false) : Acted u w i x c where
  tender j := by rw [hw.tender, hy]
  check := ⟨c.plan, by rw [hw.check, hc, hquiet]; rfl⟩
  others j _ := hw.check j
  queue := by rw [hw.queue, Tender.placesReverse, hquiet]; exact (List.append_nil _).symm

theorem Acted.of_event {f : Tender → Tender} (hslot : y.slot = x.slot) (hf : f y = x.released)
    (hends : x.endsHold = true) (hplaces : x.placesReverse = false) : Acted u (w.tenderEvent i f) i x c where
  tender j := by
    rw [State.tenderEvent_tender?, hw.tender]
    split
    · rw [Option.map_some, hf]
    · rfl
  check := by
    have hy : w.tender? i = some y := (hw.tender i).trans (if_pos rfl)
    refine ⟨c.plan.follow i y (f y), ?_⟩
    rw [if_pos hends, ← hslot]
    exact State.tenderEvent_check? hy (by rw [hslot, hw.check, hc])
  others j hj := by
    have hy : w.tender? i = some y := (hw.tender i).trans (if_pos rfl)
    rw [State.tenderEvent_check?_of_ne hy (by rwa [hslot]), hw.check]
  queue := by rw [State.tenderEvent_aqp, hw.queue, hplaces]; exact (List.append_nil _).symm

/-- A withdraw that ends the tender is an event that places no need (06 R113). -/
theorem Acted.of_finish (hslot : y.slot = x.slot) (hf : y.finish .withdrawn = x.released)
    (hends : x.endsHold = true) : Acted u (w.tenderEvent i (·.finish .withdrawn)) i x c := by
  refine Acted.of_event hw hc hslot hf hends ?_
  rw [Tender.placesReverse, ← hf]
  exact Bool.and_false _

/-- A withdraw that reverses is an event that places a need (06 R113). -/
theorem Acted.of_reversal (hslot : y.slot = x.slot) (hf : y.toReversing = x.released) (hends : x.endsHold = true) :
    Acted u (w.reverseTender i id) i x c := by
  have hplaces : x.placesReverse = true := by
    rw [Tender.placesReverse, hends, ← hf]
    rfl
  have hy : w.tender? i = some y := (hw.tender i).trans (if_pos rfl)
  have htender (j : Nat) : (w.reverseTender i id).tender? j = (w.tenderEvent i Tender.toReversing).tender? j := by
    show ((w.tenderEvent i Tender.toReversing).modTender i _).tender? j = _
    rw [State.modTender_tender?]
    split
    next h =>
      subst h
      rw [State.tenderEvent_tender?, if_pos rfl, hy]
      rfl
    · rfl
  have hevent := State.tenderEvent_check? (f := Tender.toReversing) hy (by rw [hslot, hw.check, hc])
  constructor
  case tender =>
    intro j
    rw [htender, State.tenderEvent_tender?, hw.tender]
    split
    · rw [Option.map_some, hf]
    · rfl
  case check =>
    refine ⟨c.plan.follow i y y.toReversing, ?_⟩
    rw [if_pos hends, ← hslot, State.tendersOf, funext htender]
    exact hevent
  case others =>
    intro j hj
    exact (State.tenderEvent_check?_of_ne hy (by rwa [hslot])).trans (hw.check j)
  case queue =>
    rw [hplaces, if_pos rfl, ← hw.queue, ← State.tenderEvent_aqp (s := w) i Tender.toReversing]
    rfl

end

theorem State.actDeferred_eq (hx : u.tender? i = some x) :
    u.actDeferred i = if x.deferredWithdraw then (u.modTender i Tender.undeferred).withdraw i else u := by
  rw [State.actDeferred, hx]
  rfl

theorem State.actDeferred_of_undeferred (hx : u.tender? i = some x) (h : x.deferredWithdraw = false) :
    u.actDeferred i = u := by
  rw [State.actDeferred_eq hx, h]
  exact if_neg Bool.false_ne_true

theorem Prepared.refl (hx : u.tender? i = some x) (hdrops : x.dropsNeed = false) : Prepared u u i x x where
  tender j := by
    split
    next h => exact h ▸ hx
    · rfl
  check _ := rfl
  queue := by rw [hdrops]; rfl

theorem Prepared.modTender (hw : Prepared u w i x y) (f : Tender → Tender) : Prepared u (w.modTender i f) i x (f y) where
  tender j := by
    rw [State.modTender_tender?, hw.tender]
    by_cases h : j = i <;> simp [h, Ne.symm]
  check j := (State.modTender_check? w i f j).trans (hw.check j)
  queue := hw.queue

/-- The need of a tender leaves the queue after the change of its record (06 R113). -/
theorem State.removeNeed_prepared (f : Tender → Tender) (hx : u.tender? i = some x) (hdrops : x.dropsNeed = true) :
    Prepared u ((u.modTender i f).removeNeed i) i x (f x) where
  tender j := by
    rw [State.removeNeed_tender?, State.modTender_tender?]
    split
    next h => subst h; rw [hx, if_pos rfl, Option.map_some]
    next h => rw [if_neg (Ne.symm h)]
  check j := State.modTender_check? u i f j
  queue := (if_pos hdrops).symm

section
variable (hx : u.tender? i = some x) (hc : u.check? x.slot = some c)
include hx hc

theorem State.withdraw_acted (hdeferred : x.deferredWithdraw = true) :
    Acted u ((u.modTender i Tender.undeferred).withdraw i) i x c := by
  have hy : (u.modTender i Tender.undeferred).tender? i = some x.undeferred := by
    rw [State.modTender_tender?_self, hx, Option.map_some]
  have hstateOf : x.undeferred.state = x.state := rfl
  have hsentOf : x.undeferred.sent = x.sent := rfl
  rw [State.withdraw, hy]
  simp only [hstateOf, hsentOf]
  cases hstate : x.state with
  | tipWait =>
    have hfinish := Tender.released_of_finishes hdeferred (.inl hstate)
    have hends : x.endsHold = true := Tender.endsHold_of_finish hfinish (by simp [hstate])
    have hidle : x.dropsNeed = false := Tender.dropsNeed_of_idle (by simp [hstate]) (by simp [hstate])
    exact Acted.of_finish ((Prepared.refl hx hidle).modTender Tender.undeferred) hc rfl hfinish.symm hends
  | authorizing sub =>
    cases hsent : x.sent with
    | true =>
      have hreleased := Tender.released_of_sent hdeferred hstate hsent
      have hstays : x.released.state = x.state := by rw [hreleased]; rfl
      exact Acted.of_quiet (((Prepared.refl hx (Tender.dropsNeed_of_stays hstays)).modTender _).modTender _) hc
        hreleased.symm (Tender.endsHold_of_stays hstays)
    | false =>
      cases sub with
      | auth =>
        have hfinish := Tender.released_of_finishes hdeferred (.inr ⟨hstate, hsent⟩)
        have hends : x.endsHold = true := Tender.endsHold_of_finish hfinish (by simp [hstate])
        have hdrops : x.dropsNeed = true := Tender.dropsNeed_of_authorizing hends hstate
        exact Acted.of_finish (State.removeNeed_prepared Tender.undeferred hx hdrops) hc rfl hfinish.symm hends
      | increment =>
        have hreverse := Tender.released_of_reverses hdeferred (.inr ⟨hstate, hsent⟩)
        have hends : x.endsHold = true := Tender.endsHold_of_toReversing hreverse (by simp [hstate])
        have hdrops : x.dropsNeed = true := Tender.dropsNeed_of_authorizing hends hstate
        exact Acted.of_reversal (State.removeNeed_prepared Tender.undeferred hx hdrops) hc rfl hreverse.symm hends
  | authorized =>
    have hreverse := Tender.released_of_reverses hdeferred (.inl hstate)
    have hends : x.endsHold = true := Tender.endsHold_of_toReversing hreverse (by simp [hstate])
    have hidle : x.dropsNeed = false := Tender.dropsNeed_of_idle (by simp [hstate]) (by simp [hstate])
    exact Acted.of_reversal ((Prepared.refl hx hidle).modTender Tender.undeferred) hc rfl hreverse.symm hends
  | reversing | capturing | done =>
    have hreleased := Tender.released_of_past hdeferred (by simp [hstate])
    have hstays : x.released.state = x.state := by rw [hreleased]; rfl
    exact Acted.of_quiet ((Prepared.refl hx (Tender.dropsNeed_of_stays hstays)).modTender Tender.undeferred) hc
      hreleased.symm (Tender.endsHold_of_stays hstays)

/-- A deferred withdraw acts by the state its tender has reached; where none was deferred nothing changes (06 R115). -/
theorem State.actDeferred_acted : Acted u (u.actDeferred i) i x c := by
  rw [State.actDeferred_eq hx]
  split
  next hdeferred => exact State.withdraw_acted hx hc hdeferred
  next hdeferred =>
    have hstays := Tender.released_of_undeferred (Bool.not_eq_true _ ▸ hdeferred)
    have hstate : x.released.state = x.state := congrArg Tender.state hstays
    exact Acted.of_quiet (Prepared.refl hx (Tender.dropsNeed_of_stays hstate)) hc hstays.symm
      (Tender.endsHold_of_stays hstate)

end

/-! ## The deferred withdraws of a check, in tender-list order (08 R149) -/

/-- The release of its check moves the tender at i to another state (06 R115). -/
def State.endsHold (u : State) (i : Nat) : Bool := (u.tender? i).any Tender.endsHold

/-- The release of its check takes the need of the tender at i out of the wait queue (06 R113). -/
def State.dropsNeed (u : State) (i : Nat) : Bool := (u.tender? i).any Tender.dropsNeed

/-- The wait queue of u after the deferred withdraws of the tenders at l have acted in turn: their needs are out, and
their REVERSE needs stand at the end in the order of l (06 R113, R103). -/
def State.queueReleased (u : State) (l : List Nat) : List Need :=
  u.aqp.queue.filter (fun n => !(decide (n.tender ∈ l) && u.dropsNeed n.tender))
    ++ (l.filter fun i => (u.tender? i).any Tender.placesReverse).map fun i => { tender := i, kind := .reverse }

theorem State.queueReleased_nil : u.queueReleased [] = u.aqp.queue := by
  simp [State.queueReleased]

/-- The withdraw of one tender more drops its own need alone, and none of the REVERSE needs placed before it. -/
theorem State.queueReleased_snoc {l : List Nat} (hl : i ∉ l) (hx : u.tender? i = some x) :
    u.queueReleased (l ++ [i])
      = (if x.dropsNeed then (u.queueReleased l).filter (fun n => n.tender != i) else u.queueReleased l)
        ++ if x.placesReverse then [{ tender := i, kind := .reverse }] else [] := by
  have hdrops : u.dropsNeed i = x.dropsNeed := by rw [State.dropsNeed, hx]; rfl
  have hplaced : ((l.filter fun j => (u.tender? j).any Tender.placesReverse).map
      fun j => ({ tender := j, kind := .reverse } : Need)).filter (fun n => n.tender != i)
      = (l.filter fun j => (u.tender? j).any Tender.placesReverse).map fun j => { tender := j, kind := .reverse } := by
    refine List.filter_eq_self.mpr fun n hn => ?_
    obtain ⟨j, hj, rfl⟩ := List.mem_map.mp hn
    exact bne_iff_ne.mpr fun hji => hl (hji ▸ (List.mem_filter.mp hj).1)
  have hkept : u.aqp.queue.filter (fun n => !(decide (n.tender ∈ l ++ [i]) && u.dropsNeed n.tender))
      = if x.dropsNeed then
          (u.aqp.queue.filter fun n => !(decide (n.tender ∈ l) && u.dropsNeed n.tender)).filter fun n => n.tender != i
        else u.aqp.queue.filter fun n => !(decide (n.tender ∈ l) && u.dropsNeed n.tender) := by
    split
    next hx' =>
      rw [List.filter_filter]
      refine List.filter_congr fun n _ => ?_
      by_cases hn : n.tender = i
      · simp [hn, hdrops, hx']
      · simp [hn]
    next hx' =>
      refine List.filter_congr fun n _ => ?_
      by_cases hn : n.tender = i
      · simp [hn, hdrops, hx']
      · simp [hn]
  have hlast : ([i].filter fun j => (u.tender? j).any Tender.placesReverse).map
      (fun j => ({ tender := j, kind := .reverse } : Need))
      = if x.placesReverse then [{ tender := i, kind := .reverse }] else [] := by
    rw [List.filter_singleton, hx, Option.any_some]
    cases x.placesReverse <;> rfl
  rw [State.queueReleased, hkept, List.filter_append, List.map_append, hlast, ← List.append_assoc]
  congr 1
  split
  · rw [State.queueReleased, List.filter_append, hplaced]
  · rfl

/-- v is u after the deferred withdraws of the tenders at l, of the check c in a slot, have acted in turn (08 R149). -/
structure ActedAll (u v : State) (slot : Nat) (c : Check) (l : List Nat) : Prop where
  tender : ∀ j, v.tender? j = if j ∈ l then (u.tender? j).map Tender.released else u.tender? j
  check : ∃ p, v.check? slot = some { c with
    version := nextVersion^[l.countP u.endsHold] c.version
    plan := p
    state := if (c.state = .settling ∨ c.state = .paid) ∧ ∃ i ∈ l, u.endsHold i = true
      then derivedState p (v.tendersOf c) else c.state }
  others : ∀ j, j ≠ slot → v.check? j = u.check? j
  queue : v.aqp.queue = u.queueReleased l

theorem ActedAll.nil (hc : u.check? slot = some c) : ActedAll u u slot c [] where
  tender j := by simp
  check := ⟨c.plan, by simp [hc]⟩
  others _ _ := rfl
  queue := State.queueReleased_nil.symm

/-- A check whose state has been derived with a tender that counts is still derived in a later event (01 R9). -/
theorem State.derives_of_counts {p : Plan} (hi : i ∈ c.tenders) (hx : v.tender? i = some x)
    (hcounts : x.state.counts = true) :
    derivedState p (v.tendersOf c) = .settling ∨ derivedState p (v.tendersOf c) = .paid :=
  derivedState_of_counted (List.any_eq_true.mpr ⟨x, State.mem_tendersOf.mpr ⟨i, hi, hx⟩, hcounts⟩)

/-- The state of a check after one tender more has acted (01 R9; 08 R149). -/
theorem ActedAll.snoc_state {l : List Nat} {d : Check} {p q : Plan} {ts : List Tender} (hi : i ∈ c.tenders)
    (hx : v.tender? i = some x) (hends : x.endsHold = true)
    (hd : d.state = if (c.state = .settling ∨ c.state = .paid) ∧ ∃ i ∈ l, u.endsHold i = true
      then derivedState p (v.tendersOf c) else c.state) :
    d.restated q ts = c.restated q ts := by
  by_cases hderives : c.state = .settling ∨ c.state = .paid
  · rw [Check.restated_of_derives hderives]
    refine Check.restated_of_derives ?_
    rw [hd]
    split
    · exact State.derives_of_counts hi hx (Tender.counts_of_endsHold hends)
    · exact hderives
  · have hsame : d.state = c.state := hd.trans (if_neg fun h => hderives h.1)
    rw [Check.restated_of_not_derives hderives, Check.restated_of_not_derives (hsame ▸ hderives), hsame]

/-- The next tender of the list acts (08 R149). -/
theorem ActedAll.snoc {l : List Nat} (h : ActedAll u v slot c l) (hl : i ∉ l) (hx : u.tender? i = some x)
    (hi : i ∈ c.tenders) (hslot : x.slot = slot) : ActedAll u (v.actDeferred i) slot c (l ++ [i]) := by
  subst hslot
  obtain ⟨p, hp⟩ := h.check
  have hvx : v.tender? i = some x := by rw [h.tender, if_neg hl, hx]
  have hacted := State.actDeferred_acted hvx hp
  have huends : u.endsHold i = x.endsHold := by rw [State.endsHold, hx]; rfl
  constructor
  case tender =>
    intro j
    rw [hacted.tender, h.tender]
    by_cases hj : j = i
    · subst hj; simp [hx]
    · simp [hj]
  case others => exact fun j hj => (hacted.others j hj).trans (h.others j hj)
  case queue => rw [hacted.queue, h.queue, State.queueReleased_snoc hl hx]
  case check =>
    obtain ⟨q, hq⟩ := hacted.check
    cases hends : x.endsHold with
    | true =>
      have hcount : (l ++ [i]).countP u.endsHold = l.countP u.endsHold + 1 := by simp [huends, hends]
      have hexists : ∃ j ∈ l ++ [i], u.endsHold j = true := ⟨i, by simp, huends.trans hends⟩
      refine ⟨q, hq.trans ?_⟩
      rw [if_pos hends, Check.eventful, ActedAll.snoc_state hi hvx hends rfl, hcount, Function.iterate_succ_apply']
      simp only [hexists, and_true]
      rfl
    | false =>
      have hcount : (l ++ [i]).countP u.endsHold = l.countP u.endsHold := by simp [huends, hends]
      have hexists : (∃ j ∈ l ++ [i], u.endsHold j = true) ↔ ∃ j ∈ l, u.endsHold j = true := by
        simp [or_and_right, exists_or, huends, hends]
      have hstates (j : Nat) : ((v.actDeferred i).tender? j).map Tender.state = (v.tender? j).map Tender.state := by
        rw [hacted.tender]
        split
        next hj => rw [hj, hvx, Option.map_some, Option.map_some, Tender.state_of_not_endsHold hends]
        · rfl
      refine ⟨p, hq.trans ?_⟩
      rw [hends, if_neg Bool.false_ne_true, hcount, State.derivedState_tendersOf hstates]
      simp only [hexists]

/-- The deferred withdraws of distinct tenders of a check act in turn (08 R149). -/
theorem State.foldl_actDeferred {l : List Nat} (hl : l.Nodup) (hc : u.check? slot = some c) (hsub : ∀ i ∈ l, i ∈ c.tenders)
    (htenders : ∀ i ∈ l, ∃ x, u.tender? i = some x ∧ x.slot = slot) :
    ActedAll u (l.foldl State.actDeferred u) slot c l := by
  induction l using List.reverseRecOn with
  | nil => exact .nil hc
  | append_singleton l i ih =>
    obtain ⟨x, hx, hslot⟩ := htenders i (by simp)
    obtain ⟨hl, -, hdisjoint⟩ := List.nodup_append.mp hl
    have hi : i ∉ l := fun hil => hdisjoint i hil i (List.mem_singleton_self i) rfl
    rw [List.foldl_append]
    exact (ih hl (fun j hj => hsub j (by simp [hj])) fun j hj => htenders j (by simp [hj])).snoc hi hx
      (hsub i (by simp)) hslot

theorem foldl_fixed_of_mem {α β : Type} {f : α → β → α} {a : α} {l : List β} (h : ∀ b ∈ l, f a b = a) :
    l.foldl f a = a := by
  induction l with
  | nil => rfl
  | cons b l ih => rw [List.foldl_cons, h b (by simp), ih fun b' hb' => h b' (by simp [hb'])]

/-! ## Hold reasons (08 R144, R149) -/

section
variable (hc : s.check? slot = some c)
include hc

/-- A check with one hold reason fewer (08 R149). -/
def Check.unheldBy (c : Check) (r : HoldReason) : Check :=
  { c with holds := c.holds.put r false, version := nextVersion c.version }

/-- A release before its deferred withdraws: the reason is out and RELEASED handed on (08 R149). -/
def State.unheld (s : State) (slot : Nat) (c : Check) (r : HoldReason) : State :=
  (s.modCheck slot fun _ => c.unheldBy r).handEvent c.number .released

omit hc in
@[simp] theorem State.unheld_tender? (j : Nat) : (s.unheld slot c r).tender? j = s.tender? j := by
  rw [State.unheld, State.handEvent_tender?, State.modCheck_tender?]

theorem State.unheld_check? (j : Nat) :
    (s.unheld slot c r).check? j = if j = slot then some (c.unheldBy r) else s.check? j := by
  rw [State.unheld, State.handEvent_check?, State.modCheck_check?]
  by_cases hj : slot = j
  · rw [if_pos hj, if_pos hj.symm, ← hj, hc, Option.map_some]
  · rw [if_neg hj, if_neg (Ne.symm hj)]

theorem State.removeHold_of_held (hholds : (c.holds.put r false).any = true) :
    s.removeHold slot r = s.modCheck slot fun _ => c.unheldBy r := by
  rw [State.removeHold, hc]
  exact (if_pos hholds).trans (State.modCheck_congr hc rfl)

/-- The last hold reason of a check hands on RELEASED, lets the deferred withdraws act, and resumes the leases
(08 R149). -/
theorem State.removeHold_of_released (hholds : (c.holds.put r false).any = false) :
    s.removeHold slot r
      = (c.tenders.foldl State.actDeferred (s.unheld slot c r)).mapLeases slot (Lease.resume s.fck.timebase) := by
  have hcheck : (s.modCheck slot fun _ => c.unheldBy r).check? slot = some (c.unheldBy r) := by
    rw [State.modCheck_check?_self, hc, Option.map_some]
  have hclock : (c.tenders.foldl State.actDeferred (s.unheld slot c r)).fck = s.fck := by
    refine (foldl_keeps (State.fck ·) _ (fun u i => u.actDeferred_fck i) _ _).trans ?_
    simp [State.unheld]
  rw [State.removeHold, hc]
  refine (if_neg (by simp [hholds])).trans ?_
  rw [State.modCheck_congr hc (g := fun _ => c.unheldBy r) rfl, State.releaseHeld, hcheck, ← hclock]
  rfl

theorem State.addHold_of_held (hheld : c.held = true) (r : HoldReason) :
    s.addHold slot r = s.modCheck slot fun _ => c.heldFor r := by
  rw [State.addHold, hc]
  exact (if_pos hheld).trans (State.modCheck_congr hc rfl)

/-- A hold reason added to an unheld check pauses the leases of its TIP_WAIT tenders (05 R92; 08 R144). -/
theorem addHold_completes (r : HoldReason) :
    (s.addHold slot r).check? slot = some { c with holds := c.holds.put r true, version := nextVersion c.version }
      ∧ (∀ i, (s.addHold slot r).tender? i = (s.tender? i).map fun x =>
          if c.held = false ∧ x.slot = slot ∧ x.state = .tipWait then
            { x with lease := match x.lease with
                | .running d => .paused (max 1 (d - s.fck.timebase))
                | l => l }
          else x)
      ∧ (s.addHold slot r).wnu = if c.held then s.wnu else (s.handEvent c.number .held).wnu := by
  cases hheld : c.held with
  | true =>
    rw [State.addHold_of_held hc hheld]
    refine ⟨by rw [State.modCheck_check?_self, hc]; rfl, fun i => ?_, rfl⟩
    simp
  | false =>
    rw [State.addHold_of_unheld hc hheld]
    refine ⟨?_, fun i => ?_, ?_⟩
    · rw [State.mapLeases_check?, State.handEvent_check?, State.modCheck_check?_self, hc]
      rfl
    · rw [State.mapLeases_tender?, State.handEvent_tender?, State.modCheck_tender?]
      simp only [true_and]
      rfl
    · rw [State.mapLeases_wnu, if_neg Bool.false_ne_true]
      exact State.handEvent_wnu_congr (State.modCheck_wnu s slot _) (State.modCheck_fmp s slot _) _ _

/-- A release without deferred withdraws resumes the leases and changes no other tender (08 R149). -/
theorem undeferredRelease_completes (hholds : (c.holds.put r false).any = false)
    (hnone : ∀ i ∈ c.tenders, ∀ x, s.tender? i = some x → x.deferredWithdraw = false) :
    (s.removeHold slot r).check? slot = some { c with holds := c.holds.put r false, version := nextVersion c.version }
      ∧ (∀ i, (s.removeHold slot r).tender? i = (s.tender? i).map fun x =>
          if x.slot = slot ∧ x.state = .tipWait then
            { x with lease := match x.lease with
                | .paused n => .running (s.fck.timebase + n)
                | l => l }
          else x)
      ∧ (s.removeHold slot r).wnu = (s.handEvent c.number .released).wnu := by
  have hfixed : c.tenders.foldl State.actDeferred (s.unheld slot c r) = s.unheld slot c r := by
    refine foldl_fixed_of_mem fun i hi => ?_
    cases hx : s.tender? i with
    | none => rw [State.actDeferred, State.unheld_tender?, hx]
    | some x => exact State.actDeferred_of_undeferred (s.unheld_tender? i ▸ hx) (hnone i hi x hx)
  rw [State.removeHold_of_released hc hholds, hfixed]
  refine ⟨?_, fun i => ?_, ?_⟩
  · rw [State.mapLeases_check?, State.unheld_check? hc, if_pos rfl]
    rfl
  · rw [State.mapLeases_tender?, State.unheld_tender?]
    rfl
  · rw [State.mapLeases_wnu]
    exact State.handEvent_wnu_congr (State.modCheck_wnu s slot _) (State.modCheck_fmp s slot _) _ _

/-! ## A release with deferred withdraws (08 R149) -/

theorem State.release_actedAll (hlisted : TendersListed s) :
    ActedAll (s.unheld slot c r) (c.tenders.foldl State.actDeferred (s.unheld slot c r)) slot (c.unheldBy r)
      c.tenders := by
  refine State.foldl_actDeferred (hlisted.nodup hc) ((State.unheld_check? hc slot).trans (if_pos rfl)) (fun _ hi => hi)
    fun i hi => ?_
  rw [State.unheld_tender?]
  exact (hlisted.mem_tenders hc).mp hi

end

/-- A paused lease of a TIP_WAIT tender resumes, and every other stays (05 R92). -/
theorem Tender.resumed_eq (now : Nat) (x : Tender) :
    (if x.state = .tipWait then { x with lease := x.lease.resume now } else x)
      = { x with lease := match x.lease with
            | .paused n => if x.state = .tipWait then .running (now + n) else .paused n
            | l => l } := by
  split
  · cases hlease : x.lease <;> rfl
  · obtain ⟨⟩ := x
    rename_i lease _
    cases lease <;> rfl

section
variable (hc : s.check? slot = some c) (hlisted : TendersListed s) (hholds : (c.holds.put r false).any = false)
include hc hlisted hholds

/-- Every tender of a released check: its deferred withdraw has acted, and its paused lease has resumed. -/
theorem State.removeHold_tender? (j : Nat) : (s.removeHold slot r).tender? j = (s.tender? j).map fun x =>
    if x.slot = slot then
      { x.released with lease := match x.released.lease with
          | .paused n => if x.released.state = .tipWait then .running (s.fck.timebase + n) else .paused n
          | l => l }
    else x := by
  rw [State.removeHold_of_released hc hholds, State.mapLeases_tender?, (State.release_actedAll hc hlisted).tender,
    State.unheld_tender?]
  cases hx : s.tender? j with
  | none => simp
  | some x =>
    by_cases hslot : x.slot = slot
    · have hj : j ∈ c.tenders := (hlisted.mem_tenders hc).mpr ⟨x, hx, hslot⟩
      have hreleased : x.released.slot = slot := x.released_slot.trans hslot
      rw [if_pos hj, Option.map_some, Option.map_some, Option.map_some, if_pos hslot, ← Tender.resumed_eq]
      simp only [hreleased, true_and]
    · have hj : j ∉ c.tenders := fun hj => by
        obtain ⟨y, hy, hslot'⟩ := (hlisted.mem_tenders hc).mp hj
        obtain rfl := Option.some.inj (hx.symm.trans hy)
        exact hslot hslot'
      simp [hj, hslot]

theorem State.removeHold_check? :
    ∃ p, (s.removeHold slot r).check? slot = some { c with
      holds := c.holds.put r false
      version := nextVersion^[1 + c.tenders.countP s.endsHold] c.version
      plan := p
      state := if (c.state = .settling ∨ c.state = .paid) ∧ ∃ i ∈ c.tenders, s.endsHold i = true
        then derivedState p ((s.removeHold slot r).tendersOf c) else c.state } := by
  obtain ⟨p, hp⟩ := (State.release_actedAll (r := r) hc hlisted).check
  have hends : (s.unheld slot c r).endsHold = s.endsHold :=
    funext fun i => congrArg (Option.any Tender.endsHold) (s.unheld_tender? i)
  refine ⟨p, ?_⟩
  rw [State.removeHold_of_released hc hholds, State.mapLeases_check?, hp, hends, Nat.add_comm 1,
    Function.iterate_succ_apply]
  have hstates (u : State) (j : Nat) : ((u.mapLeases slot (Lease.resume s.fck.timebase)).tender? j).map Tender.state
      = (u.tender? j).map Tender.state := by
    rw [State.mapLeases_tender?, Option.map_map]
    refine congrFun (congrArg Option.map (funext fun x => ?_)) _
    rw [Function.comp_apply]
    split <;> rfl
  rw [State.derivedState_tendersOf (hstates _)]
  rfl

theorem State.removeHold_check?_of_ne {j : Nat} (hj : j ≠ slot) : (s.removeHold slot r).check? j = s.check? j := by
  rw [State.removeHold_of_released hc hholds, State.mapLeases_check?, (State.release_actedAll hc hlisted).others j hj,
    State.unheld_check? hc, if_neg hj]

theorem State.removeHold_queue : (s.removeHold slot r).aqp.queue = s.queueReleased c.tenders := by
  rw [State.removeHold_of_released hc hholds, State.mapLeases_aqp, (State.release_actedAll hc hlisted).queue,
    State.queueReleased, State.queueReleased, State.unheld, State.handEvent_aqp]
  simp only [State.dropsNeed, State.handEvent_tender?, State.modCheck_tender?, State.modCheck_aqp]

end
end

/-- Settles O44: a release is a fold of the deferred withdraws, each of which is a tender event at most. -/
theorem holdsPauseLeases : Obligations.HoldsPauseLeases := by
  intro s slot r c hc
  refine ⟨addHold_completes hc r, fun hholds => State.removeHold_of_held hc hholds,
    fun hholds hnone => undeferredRelease_completes hc hholds hnone, fun hholds =>
    ⟨State.removeHold_of_released hc hholds, fun u i x hx => State.actDeferred_eq hx, fun hlisted => ?_⟩⟩
  obtain ⟨p, hp⟩ := State.removeHold_check? hc hlisted hholds
  exact ⟨State.removeHold_tender? hc hlisted hholds, ⟨_, hp, rfl⟩,
    fun j hj => State.removeHold_check?_of_ne hc hlisted hholds hj, State.removeHold_queue hc hlisted hholds,
    State.removeHold_tdu_pendingList s slot r⟩

end Sys2Proof.Machine
end

section
/-! Statuses set and collected: the primary, the latest, the pending-status list, the pending counts and the push of a
count that rises from 0 (06 R118 to R121; 09 R167). -/

namespace Sys2Proof.Machine

/-! ## Pending counts (06 R120) -/

section
variable {s : State}

theorem StatusesCounted.length (hs : StatusesCounted s) : s.wnu.pendCounts.length = Config.terminalCount := hs.1

theorem StatusesCounted.nodup (hs : StatusesCounted s) : s.tdu.pendingList.Nodup := hs.2.1

theorem StatusesCounted.mem_pendingList (hs : StatusesCounted s) {i : Nat} :
    i ∈ s.tdu.pendingList ↔ ∃ x, s.tender? i = some x ∧ x.hasStatus = true := by
  obtain ⟨-, -, hmem, -⟩ := hs
  exact hmem i

theorem StatusesCounted.latest_eq_none (hs : StatusesCounted s) {i : Nat} {x : Tender} (hx : s.tender? i = some x)
    (hclear : x.hasStatus = false) : x.latest = none := by
  obtain ⟨-, -, -, hlatest, -⟩ := hs
  cases hl : x.latest with
  | none => rfl
  | some st => exact absurd (hlatest i x hx (by rw [hl]; rfl)) (Bool.not_eq_true _ ▸ hclear)

/-- A push leaves with the event when its terminal is PRESENT (09 R165). -/
theorem State.raise_pushes (p : Push) :
    (s.raise p).wnu.pushes = s.wnu.pushes ++ if s.isPresent p.terminal = true then [p] else [] := by
  unfold State.raise
  split <;> simp

/-- A count that rises from 0 makes STATUS_READY due (09 R167). -/
theorem State.raiseCount_pushes (o : Option Nat) :
    (s.raiseCount o).wnu.pushes = s.wnu.pushes ++ match o with
      | none => []
      | some n => if s.pendCount n = 0 ∧ s.isPresent n = true then [.statusReady n] else [] := by
  cases o with
  | none => exact (List.append_nil _).symm
  | some t =>
    simp only [State.raiseCount]
    split
    next hzero =>
      rw [State.raise_pushes]
      simp only [hzero, true_and]
      rfl
    next hpos => simp [hpos]

end

/-! ## A status is set (06 R118 to R120) -/

section
variable {s : State} {i : Nat} {x : Tender} {st : Status}

/-- The state with a primary status on tender i, which joins the pending-status list (06 R118, R119). -/
def State.withPrimary (s : State) (i : Nat) (st : Status) : State :=
  let u := s.modTender i fun t => { t with primary := some st, latest := none }
  { u with tdu := { u.tdu with pendingList := u.tdu.pendingList ++ [i] } }

theorem State.setStatus_of_clear (hx : s.tender? i = some x) (hclear : x.hasStatus = false) :
    s.setStatus i st = (s.withPrimary i st).raiseCount x.holder := by
  rw [State.setStatus, hx]
  simp only [hclear]
  rfl

theorem State.setStatus_of_hasStatus (hx : s.tender? i = some x) (hset : x.hasStatus = true) :
    s.setStatus i st = s.modTender i fun t => { t with latest := some st } := by
  rw [State.setStatus, hx]
  simp only [hset, if_true]

theorem State.setStatus_pendingList (hx : s.tender? i = some x) :
    (s.setStatus i st).tdu.pendingList = if x.hasStatus then s.tdu.pendingList else s.tdu.pendingList ++ [i] := by
  cases hstatus : x.hasStatus with
  | true => rw [State.setStatus_of_hasStatus hx hstatus]; rfl
  | false => rw [State.setStatus_of_clear hx hstatus, State.raiseCount_tdu]; rfl

theorem State.setStatus_pendCount (hs : StatusesCounted s) (hx : s.tender? i = some x) {n : Nat}
    (hn : terminalExists n = true) :
    (s.setStatus i st).pendCount n
      = s.pendCount n + if x.hasStatus = false ∧ x.holder = some n then 1 else 0 := by
  cases hstatus : x.hasStatus with
  | true => simp [State.setStatus_of_hasStatus hx hstatus, State.pendCount]
  | false =>
    rw [State.setStatus_of_clear hx hstatus,
      State.raiseCount_pendCount (s.withPrimary i st) hs.length _ hn]
    simp only [true_and]
    rfl

theorem State.setStatus_pushes (hx : s.tender? i = some x) :
    (s.setStatus i st).wnu.pushes = s.wnu.pushes ++ match x.holder with
      | none => []
      | some n => if x.hasStatus = false ∧ s.pendCount n = 0 ∧ s.isPresent n = true then [.statusReady n] else [] := by
  cases hstatus : x.hasStatus with
  | true =>
    rw [State.setStatus_of_hasStatus hx hstatus]
    cases x.holder <;> simp
  | false =>
    rw [State.setStatus_of_clear hx hstatus, State.raiseCount_pushes]
    cases x.holder with
    | none => rfl
    | some n => simp only [true_and]; rfl

/-! ## A status is collected (06 R121) -/

/-- A tender whose status has been collected (06 R121). -/
def Tender.collected (x : Tender) : Tender := { x with primary := none, latest := none }

theorem State.collect_of_clear (hx : s.tender? i = some x) (hclear : x.hasStatus = false) : s.collect i = s := by
  rw [State.collect, hx]
  simp only [hclear]
  rfl

theorem State.collect_of_hasStatus (hx : s.tender? i = some x) (hset : x.hasStatus = true) :
    s.collect i = (s.modTender i Tender.collected).unlist i x.holder := by
  rw [State.collect, hx]
  simp only [hset, if_true]
  rfl

theorem StatusesCounted.collected_of_clear (hs : StatusesCounted s) (hx : s.tender? i = some x)
    (hclear : x.hasStatus = false) : x.collected = x := by
  have hprimary : x.primary = none := Option.not_isSome_iff_eq_none.mp (Bool.not_eq_true _ ▸ hclear)
  have hlatest : x.latest = none := hs.latest_eq_none hx hclear
  cases x
  cases hprimary
  cases hlatest
  rfl

theorem State.collect_tender? (hs : StatusesCounted s) (i j : Nat) :
    (s.collect i).tender? j = if j = i then (s.tender? j).map Tender.collected else s.tender? j := by
  cases hx : s.tender? i with
  | none =>
    rw [State.collect, hx]
    by_cases hji : j = i <;> simp [hji, hx]
  | some x =>
    cases hstatus : x.hasStatus with
    | true =>
      rw [State.collect_of_hasStatus hx hstatus, State.unlist_tender?, State.modTender_tender?]
      simp only [eq_comm]
    | false =>
      rw [State.collect_of_clear hx hstatus]
      split
      next hji => rw [hji, hx, Option.map_some, hs.collected_of_clear hx hstatus]
      · rfl

theorem State.collect_pendingList (hs : StatusesCounted s) (hx : s.tender? i = some x) :
    (s.collect i).tdu.pendingList = s.tdu.pendingList.filter (· != i) := by
  cases hstatus : x.hasStatus with
  | true => rw [State.collect_of_hasStatus hx hstatus, State.unlist, State.lowerCount_tdu]; rfl
  | false =>
    rw [State.collect_of_clear hx hstatus]
    refine (List.filter_eq_self.mpr fun j hj => bne_iff_ne.mpr ?_).symm
    rintro rfl
    obtain ⟨y, hy, hset⟩ := hs.mem_pendingList.mp hj
    obtain rfl := Option.some.inj (hx.symm.trans hy)
    cases hset.symm.trans hstatus

theorem State.collect_pendCount (hx : s.tender? i = some x) (n : Nat) :
    (s.collect i).pendCount n
      = s.pendCount n - if x.hasStatus = true ∧ x.holder = some n then 1 else 0 := by
  cases hstatus : x.hasStatus with
  | true =>
    rw [State.collect_of_hasStatus hx hstatus, State.unlist, State.lowerCount_pendCount]
    simp only [true_and]
    rfl
  | false => rw [State.collect_of_clear hx hstatus]; rfl

end

/-- Settles O40: a status set on a clear tender goes through the list and the count, one set on a tender that has one
changes the record alone; collecting undoes the former. -/
theorem statusesSetAndCollected : Obligations.StatusesSetAndCollected := by
  intro s i x st hs hx
  refine ⟨?_, fun j hj => ⟨?_, ?_⟩, State.setStatus_pendingList hx, fun n hn => State.setStatus_pendCount hs hx hn,
    State.setStatus_pushes hx, ?_, State.collect_pendingList hs hx, fun n _ => State.collect_pendCount hx n,
    by simp, by simp, by simp⟩
  · rw [State.setStatus_tender?, if_pos rfl, hx, Option.map_some]
  · rw [State.setStatus_tender?, if_neg hj]
  · rw [State.collect_tender? hs, if_neg hj]
  · rw [State.collect_tender? hs, if_pos rfl, hx]
    rfl

end Sys2Proof.Machine
end

section
/-! What a command can do to the tender records, the tender lists and the statuses: every command is a sequence of tender
moves, and each move keeps the records matched with the lists and the statuses counted (06 R96 to R98, R118 to R120). -/

namespace Sys2Proof.Machine

/-! ## Tender lists and seats (06 R97, R98) -/

/-- Where a tender stands: the slot of its check and its number there (06 R97). -/
def Tender.seat (x : Tender) : Nat × Nat := (x.slot, x.number)

/-- What the status of a tender rests on: its holder, its primary and its latest (06 R118, R120). -/
def Tender.standing (x : Tender) : Option Nat × Option Status × Option Status := (x.holder, x.primary, x.latest)

/-- The tender list of the check in a slot, if one is live. -/
def State.listAt (s : State) (slot : Nat) : Option (List Nat) := (s.check? slot).map Check.tenders

/-- The seat of the tender with index i, if the record is in use. -/
def State.seatOf (s : State) (i : Nat) : Option (Nat × Nat) := (s.tender? i).map Tender.seat

/-- The standing of the tender with index i, if the record is in use. -/
def State.standingOf (s : State) (i : Nat) : Option (Option Nat × Option Status × Option Status) :=
  (s.tender? i).map Tender.standing

/-- TendersListed in the terms of lists and seats. -/
structure Listed (s : State) : Prop where
  length : s.tdu.pool.length = Config.tenderRecords
  bounded : ∀ slot l, s.listAt slot = some l → l.length ≤ Config.tenderListMax
  seated : ∀ slot l, s.listAt slot = some l → ∀ k i, l[k]? = some i → s.seatOf i = some (slot, k + 1)
  owned : ∀ i slot n, s.seatOf i = some (slot, n) → ∃ l k, s.listAt slot = some l ∧ l[k]? = some i ∧ n = k + 1

theorem State.seatOf_eq_some {s : State} {i slot n : Nat} :
    s.seatOf i = some (slot, n) ↔ ∃ x, s.tender? i = some x ∧ x.slot = slot ∧ x.number = n := by
  simp [State.seatOf, Tender.seat]

theorem State.listAt_eq_some {s : State} {slot : Nat} {l : List Nat} :
    s.listAt slot = some l ↔ ∃ c, s.check? slot = some c ∧ c.tenders = l := by
  simp [State.listAt]

theorem tendersListed_iff {s : State} : TendersListed s ↔ Listed s := by
  constructor
  · rintro ⟨hlength, hlists, howned⟩
    refine ⟨hlength, fun slot l hl => ?_, fun slot l hl k i hi => ?_, fun i slot n hseat => ?_⟩
    · obtain ⟨c, hc, rfl⟩ := State.listAt_eq_some.mp hl
      exact (hlists slot c hc).1
    · obtain ⟨c, hc, rfl⟩ := State.listAt_eq_some.mp hl
      exact State.seatOf_eq_some.mpr ((hlists slot c hc).2 k i hi)
    · obtain ⟨x, hx, rfl, rfl⟩ := State.seatOf_eq_some.mp hseat
      obtain ⟨c, k, hc, hk, hnumber⟩ := howned i x hx
      exact ⟨c.tenders, k, State.listAt_eq_some.mpr ⟨c, hc, rfl⟩, hk, hnumber⟩
  · intro h
    refine ⟨h.length, fun slot c hc => ?_, fun i x hx => ?_⟩
    · have hl : s.listAt slot = some c.tenders := State.listAt_eq_some.mpr ⟨c, hc, rfl⟩
      exact ⟨h.bounded slot _ hl, fun k i hi => State.seatOf_eq_some.mp (h.seated slot _ hl k i hi)⟩
    · obtain ⟨l, k, hl, hk, hnumber⟩ := h.owned i x.slot x.number (State.seatOf_eq_some.mpr ⟨x, hx, rfl, rfl⟩)
      obtain ⟨c, hc, rfl⟩ := State.listAt_eq_some.mp hl
      exact ⟨c, k, hc, hk, hnumber⟩

/-! ## Commands that leave lists, seats and statuses alone -/

/-- A command that leaves the tender lists, and of every tender its seat. -/
structure SameSeats (s t : State) : Prop where
  lists : ∀ slot, t.listAt slot = s.listAt slot
  seats : ∀ i, t.seatOf i = s.seatOf i
  length : t.tdu.pool.length = s.tdu.pool.length

/-- A command that leaves the pending-status list and the pending counts, and of every tender its standing. -/
structure SameStatuses (s t : State) : Prop where
  standings : ∀ i, t.standingOf i = s.standingOf i
  pending : t.tdu.pendingList = s.tdu.pendingList
  counts : t.wnu.pendCounts = s.wnu.pendCounts

/-- A command that leaves all of them. -/
structure Quiet (s t : State) : Prop where
  toSameSeats : SameSeats s t
  toSameStatuses : SameStatuses s t

theorem Listed.of_same {s t : State} (hs : Listed s) (h : SameSeats s t) : Listed t where
  length := h.length.trans hs.length
  bounded slot l hl := hs.bounded slot l (h.lists slot ▸ hl)
  seated slot l hl k i hi := (h.seats i).trans (hs.seated slot l (h.lists slot ▸ hl) k i hi)
  owned i slot n hseat := by
    rw [h.seats] at hseat
    simpa only [h.lists] using hs.owned i slot n hseat

theorem State.heldBy_congr {s t : State} {i : Nat} (h : t.standingOf i = s.standingOf i) (n : Nat) :
    ((t.tender? i).any fun x => decide (x.holder = some n)) = (s.tender? i).any fun x => decide (x.holder = some n) := by
  have hany : ∀ u : State, ((u.tender? i).any fun x => decide (x.holder = some n))
      = (u.standingOf i).any fun y => decide (y.1 = some n) := fun u => by
    rw [State.standingOf, Option.any_map]
    rfl
  rw [hany, hany, h]

theorem SameStatuses.tender? {s t : State} (h : SameStatuses s t) {i : Nat} {x : Tender} (hx : t.tender? i = some x) :
    ∃ y, s.tender? i = some y ∧ y.standing = x.standing := by
  have hi := (h.standings i).symm
  rw [State.standingOf, State.standingOf, hx] at hi
  simpa using hi

theorem State.exists_hasStatus_iff {s : State} {i : Nat} :
    (∃ x, s.tender? i = some x ∧ x.hasStatus = true) ↔ (s.standingOf i).any (fun y => y.2.1.isSome) = true := by
  rw [State.standingOf]
  cases s.tender? i with
  | none => simp
  | some x => simp [Tender.standing, Tender.hasStatus]

theorem Tender.standing_eq {x y : Tender} :
    y.standing = x.standing ↔ y.holder = x.holder ∧ y.primary = x.primary ∧ y.latest = x.latest := by
  simp [Tender.standing]

theorem StatusesCounted.of_same {s t : State} (hs : StatusesCounted s) (h : SameStatuses s t) : StatusesCounted t := by
  obtain ⟨hlength, hnodup, hmem, hlatest, hholder, hcount⟩ := hs
  refine ⟨h.counts ▸ hlength, h.pending ▸ hnodup, fun i => ?_, fun i x hx => ?_, fun i x n hx => ?_, fun n hn => ?_⟩
  · rw [h.pending, hmem, State.exists_hasStatus_iff, State.exists_hasStatus_iff, h.standings]
  · obtain ⟨y, hy, hsame⟩ := h.tender? hx
    obtain ⟨-, hp, hl⟩ := Tender.standing_eq.mp hsame
    rw [← hl, ← hp]
    exact hlatest i y hy
  · obtain ⟨y, hy, hsame⟩ := h.tender? hx
    rw [← (Tender.standing_eq.mp hsame).1]
    exact hholder i y n hy
  · rw [State.pendCount, h.counts, h.pending]
    exact (hcount n hn).trans (List.countP_congr fun i _ => by rw [State.heldBy_congr (h.standings i)])


theorem SameSeats.trans {s t u : State} (hst : SameSeats s t) (htu : SameSeats t u) : SameSeats s u :=
  ⟨fun slot => (htu.lists slot).trans (hst.lists slot), fun i => (htu.seats i).trans (hst.seats i),
    htu.length.trans hst.length⟩

theorem SameStatuses.trans {s t u : State} (hst : SameStatuses s t) (htu : SameStatuses t u) : SameStatuses s u :=
  ⟨fun i => (htu.standings i).trans (hst.standings i), htu.pending.trans hst.pending, htu.counts.trans hst.counts⟩

theorem Quiet.trans {s t u : State} (hst : Quiet s t) (htu : Quiet t u) : Quiet s u :=
  ⟨hst.toSameSeats.trans htu.toSameSeats, hst.toSameStatuses.trans htu.toSameStatuses⟩

theorem SameStatuses.of_eq {s t : State} (h : t.tdu = s.tdu ∧ t.wnu.pendCounts = s.wnu.pendCounts) :
    SameStatuses s t := by
  obtain ⟨htdu, hcounts⟩ := h
  exact ⟨fun i => by rw [State.standingOf, State.tender?, htdu, State.standingOf, State.tender?], by rw [htdu], hcounts⟩

/-- A command that leaves the checks, the tenders and the pending counts alone. -/
theorem Quiet.of_eq {s t : State} (h : t.ckt = s.ckt ∧ t.tdu = s.tdu ∧ t.wnu.pendCounts = s.wnu.pendCounts) :
    Quiet s t := by
  obtain ⟨hckt, htdu, hcounts⟩ := h
  refine ⟨⟨fun slot => ?_, fun i => ?_, by rw [htdu]⟩, .of_eq ⟨htdu, hcounts⟩⟩
  · rw [State.listAt, State.check?_congr hckt, State.listAt]
  · rw [State.seatOf, State.tender?, htdu, State.seatOf, State.tender?]

theorem Quiet.refl (s : State) : Quiet s s := .of_eq ⟨rfl, rfl, rfl⟩

/-- A command that leaves the tenders alone, and of every check its tender list. -/
theorem Quiet.of_lists {s t : State} (hlists : ∀ slot, t.listAt slot = s.listAt slot)
    (h : t.tdu = s.tdu ∧ t.wnu.pendCounts = s.wnu.pendCounts) : Quiet s t := by
  obtain ⟨htdu, hcounts⟩ := h
  refine ⟨⟨hlists, fun i => ?_, by rw [htdu]⟩, .of_eq ⟨htdu, hcounts⟩⟩
  rw [State.seatOf, State.tender?, htdu, State.seatOf, State.tender?]

/-- A change of one check that leaves its tender list alone. -/
theorem Quiet.modCheck {s : State} {slot : Nat} {f : Check → Check}
    (hf : ∀ c, s.check? slot = some c → (f c).tenders = c.tenders) : Quiet s (s.modCheck slot f) := by
  refine .of_lists (fun j => ?_) ⟨rfl, rfl⟩
  rw [State.listAt, State.modCheck_check?, State.listAt]
  split
  next hj =>
    subst hj
    cases hc : s.check? slot with
    | none => rfl
    | some c => exact congrArg some (hf c hc)
  · rfl

/-- A tender that keeps its seat and its standing. -/
structure Tender.Stays (x y : Tender) : Prop where
  seat : y.seat = x.seat
  standing : y.standing = x.standing

/-- A change of tenders, each of which keeps its seat and its standing. -/
theorem Quiet.of_tenders {s t : State} {g : Nat → Tender → Tender}
    (hchecks : t.ckt = s.ckt) (hlength : t.tdu.pool.length = s.tdu.pool.length)
    (hpending : t.tdu.pendingList = s.tdu.pendingList ∧ t.wnu.pendCounts = s.wnu.pendCounts)
    (htenders : ∀ i, t.tender? i = (s.tender? i).map (g i)) (hg : ∀ i (x : Tender), x.Stays (g i x)) : Quiet s t := by
  obtain ⟨hlist, hcounts⟩ := hpending
  refine ⟨⟨fun slot => ?_, fun i => ?_, hlength⟩, fun i => ?_, hlist, hcounts⟩
  · rw [State.listAt, State.check?_congr hchecks, State.listAt]
  · rw [State.seatOf, htenders, Option.map_map, State.seatOf]
    exact congrArg (Option.map · _) (funext fun x => (hg i x).seat)
  · rw [State.standingOf, htenders, Option.map_map, State.standingOf]
    exact congrArg (Option.map · _) (funext fun x => (hg i x).standing)

theorem Tender.Stays.refl (x : Tender) : x.Stays x := ⟨rfl, rfl⟩

theorem State.modTender_pool_length (s : State) (i : Nat) (f : Tender → Tender) :
    (s.modTender i f).tdu.pool.length = s.tdu.pool.length := List.length_modify ..

theorem Quiet.modTender {s : State} {i : Nat} {f : Tender → Tender} (hf : ∀ x : Tender, x.Stays (f x)) :
    Quiet s (s.modTender i f) := by
  refine .of_tenders (g := fun j x => if i = j then f x else x) rfl (s.modTender_pool_length i f) ⟨rfl, rfl⟩
    (fun j => ?_) fun j x => ?_
  · rw [State.modTender_tender?]
    split
    · rfl
    · exact Option.map_id'.symm
  · split
    · exact hf x
    · exact .refl x

/-- A change of every tender that keeps its seat and its standing. -/
theorem Quiet.mapPool {s : State} {f : Tender → Tender} (hf : ∀ x : Tender, x.Stays (f x)) :
    Quiet s { s with tdu := { s.tdu with pool := s.tdu.pool.map (Option.map f) } } := by
  refine .of_tenders (g := fun _ => f) rfl (List.length_map ..) ⟨rfl, rfl⟩ (fun i => ?_) fun _ => hf
  simp only [State.tender?, List.getElem?_map]
  cases s.tdu.pool[i]? with
  | none => rfl
  | some o => cases o <;> rfl

/-- A fold of quiet changes is quiet. -/
theorem Quiet.foldl {α : Type} {f : State → α → State} (h : ∀ s a, Quiet s (f s a)) (l : List α) (s : State) :
    Quiet s (l.foldl f s) := by
  induction l generalizing s with
  | nil => exact .refl s
  | cons a l ih => exact (h s a).trans (ih _)

/-! ## Tender moves -/

/-- A tender joins the end of the tender list of its check, in a free record, with the next number and no status (06 R97,
R99). -/
structure Joins (s : State) (i : Nat) (x : Tender) (c : Check) : Prop where
  free : s.freeTenderIndex = some i
  check : s.check? x.slot = some c
  room : c.tenders.length < Config.tenderListMax
  number : x.number = c.tenders.length + 1
  clear : x.primary = none ∧ x.latest = none
  holder : ∀ n, x.holder = some n → terminalExists n = true

/-- The things a command can do to the tender records, the tender lists and the statuses. -/
inductive TenderMove : State → State → Prop
  /-- Seats, lists and statuses stay. -/
  | quiet {s t : State} (h : Quiet s t) : TenderMove s t
  /-- START TENDER makes a new tender (06 R97). -/
  | join {s : State} {i : Nat} {x : Tender} {c : Check} (h : Joins s i x c) : TenderMove s (s.withTenderJoined i x)
  /-- A status is set (06 R118). -/
  | status {s : State} (i : Nat) (st : Status) : TenderMove s (s.setStatus i st)
  /-- A status is collected (06 R121). -/
  | collect {s : State} (i : Nat) : TenderMove s (s.collect i)
  /-- OPEN CHECK places a new check (01 R11). -/
  | place {s : State} {slot : Nat} {c : Check} (hslot : s.freeSlot = some slot) (hnew : c.tenders = []) :
      TenderMove s (s.placeCheck slot c)
  /-- A check retires with its tenders (01 R21). -/
  | retire {s : State} (slot : Nat) : TenderMove s (s.retire slot)
  /-- A terminal holds no tender any more (02 R35). -/
  | release {s : State} (n : Nat) : TenderMove s ((s.withNoHolder n).withoutTerminal n)
  /-- Retained memory is cleared (11 R197). -/
  | clear {s t : State} (hckt : t.ckt = State.reset.ckt) (htdu : t.tdu = State.reset.tdu)
      (hcounts : t.wnu.pendCounts = State.reset.wnu.pendCounts) : TenderMove s t

/-- A sequence of tender moves. -/
abbrev TenderMoves : State → State → Prop := Relation.ReflTransGen TenderMove

theorem Quiet.moves {s t : State} (h : Quiet s t) : TenderMoves s t := .single (.quiet h)

theorem TenderMoves.of_eq {s t : State}
    (h : t.ckt = s.ckt ∧ t.tdu = s.tdu ∧ t.wnu.pendCounts = s.wnu.pendCounts) : TenderMoves s t := (Quiet.of_eq h).moves

theorem TenderMoves.refl (s : State) : TenderMoves s s := Relation.ReflTransGen.refl

theorem TenderMoves.foldl {α : Type} {f : State → α → State} (h : ∀ s a, TenderMoves s (f s a)) (l : List α)
    (s : State) : TenderMoves s (l.foldl f s) := by
  induction l generalizing s with
  | nil => exact .refl s
  | cons a l ih => exact (h s a).trans (ih _)

/-- What every tender move keeps, every sequence of tender moves keeps. -/
theorem TenderMoves.keeps {P : State → Prop} (hP : ∀ s t, TenderMove s t → P s → P t) {s t : State}
    (h : TenderMoves s t) (hs : P s) : P t := by
  induction h with
  | refl => exact hs
  | tail _ hmove ih => exact hP _ _ hmove ih

end Sys2Proof.Machine
end

section
/-! Every tender move keeps the tender records matched with the tender lists, and the pending-status list and the pending
counts those of the tenders (06 R96 to R98, R118 to R120). -/

namespace Sys2Proof.Machine

/-! ## Records and lists (06 R96 to R98) -/

theorem getElem?_concat_eq_some {α : Type} {l : List α} {a b : α} {k : Nat} :
    (l ++ [a])[k]? = some b ↔ l[k]? = some b ∨ k = l.length ∧ a = b := by
  grind

section
variable {s t : State} {i slot : Nat} {x : Tender} {c : Check}

theorem State.listAt_congr (h : t.ckt = s.ckt) (slot : Nat) : t.listAt slot = s.listAt slot := by
  rw [State.listAt, State.check?_congr h, State.listAt]

/-- Changes of tenders that keep their seats. -/
theorem SameSeats.of_seats (hckt : t.ckt = s.ckt) (hlength : t.tdu.pool.length = s.tdu.pool.length)
    {g : Nat → Tender → Tender} (htenders : ∀ i, t.tender? i = (s.tender? i).map (g i))
    (hg : ∀ i (x : Tender), (g i x).seat = x.seat) : SameSeats s t where
  lists := State.listAt_congr hckt
  seats i := by
    rw [State.seatOf, htenders, Option.map_map, State.seatOf]
    exact congrArg (Option.map · _) (funext (hg i))
  length := hlength

theorem Tender.withStatus_seat (x : Tender) (st : Status) : (x.withStatus st).seat = x.seat := by
  unfold Tender.withStatus
  split <;> rfl

theorem State.setStatus_sameSeats (s : State) (i : Nat) (st : Status) : SameSeats s (s.setStatus i st) := by
  refine .of_seats (g := fun j x => if j = i then x.withStatus st else x) (by simp) (by simp) (fun j => ?_) fun j x => ?_
  · rw [State.setStatus_tender?]
    split
    · rfl
    · exact Option.map_id'.symm
  · split
    · exact x.withStatus_seat st
    · rfl

/-- A collected status leaves its tender where it is (06 R121). -/
theorem State.collect_sameSeats (s : State) (i : Nat) : SameSeats s (s.collect i) := by
  cases hx : s.tender? i with
  | none => rw [State.collect, hx]; exact (Quiet.refl s).toSameSeats
  | some x =>
    cases hstatus : x.hasStatus with
    | false => rw [State.collect_of_clear hx hstatus]; exact (Quiet.refl s).toSameSeats
    | true =>
      rw [State.collect_of_hasStatus hx hstatus]
      refine .of_seats (g := fun j y => if i = j then y.collected else y) (by simp) ?_ (fun j => ?_) fun j y => ?_
      · rw [State.unlist, State.lowerCount_tdu]
        exact State.modTender_pool_length ..
      · rw [State.unlist_tender?, State.modTender_tender?]
        split
        · rfl
        · exact Option.map_id'.symm
      · split <;> rfl

/-- A tender whose terminal has been released has no holder (02 R35). -/
def Tender.unheldBy (x : Tender) (n : Nat) : Tender := if x.holder = some n then { x with holder := none } else x

theorem State.released_tender? (s : State) (n j : Nat) :
    ((s.withNoHolder n).withoutTerminal n).tender? j = (s.tender? j).map (·.unheldBy n) := s.withNoHolder_tender? n j

theorem State.released_sameSeats (s : State) (n : Nat) : SameSeats s ((s.withNoHolder n).withoutTerminal n) := by
  refine .of_seats (g := fun _ x => x.unheldBy n) ?_ ?_ (s.released_tender? n) fun _ x => ?_
  · exact s.withNoHolder_keeps n (fun u => u.ckt) (by simp)
  · exact s.withNoHolder_keeps n (fun u => u.tdu.pool.length) fun u i => u.modTender_pool_length i _
  · unfold Tender.unheldBy
    split <;> rfl

/-! ### A tender joins its check (06 R97) -/

theorem State.withTenderJoined_tender? (hi : i < s.tdu.pool.length) (x : Tender) (j : Nat) :
    (s.withTenderJoined i x).tender? j = if j = i then some x else s.tender? j := by
  rw [← State.beginTender_tender? hi, State.beginTender_eq, State.derive_tender?]

theorem State.withTenderJoined_seatOf (hi : i < s.tdu.pool.length) (x : Tender) (j : Nat) :
    (s.withTenderJoined i x).seatOf j = if j = i then some x.seat else s.seatOf j := by
  rw [State.seatOf, State.withTenderJoined_tender? hi]
  split <;> rfl

theorem State.withTenderJoined_listAt (hc : s.check? x.slot = some c) (i slot : Nat) :
    (s.withTenderJoined i x).listAt slot = if slot = x.slot then some (c.tenders ++ [i]) else s.listAt slot := by
  split
  next h =>
    subst h
    rw [State.listAt, State.withTenderJoined_check? hc]
    rfl
  next h =>
    rw [State.listAt, State.withTenderJoined, State.modCheck_check?, if_neg (Ne.symm h)]
    rfl

/-- A new tender stands at the end of its check's list, with the number of its place (06 R97). -/
theorem Joins.listed (h : Joins s i x c) (hs : Listed s) : Listed (s.withTenderJoined i x) := by
  obtain ⟨hlt, hnone⟩ := State.freeTenderIndex_spec h.free
  have hfree : s.seatOf i = none := by rw [State.seatOf, hnone]; rfl
  have hlist : s.listAt x.slot = some c.tenders := State.listAt_eq_some.mpr ⟨c, h.check, rfl⟩
  have hlists := State.withTenderJoined_listAt h.check i
  have hseats := State.withTenderJoined_seatOf hlt x
  have hkept : ∀ {j seat}, s.seatOf j = some seat → (s.withTenderJoined i x).seatOf j = some seat := by
    intro j seat hseat
    rw [hseats, if_neg, hseat]
    rintro rfl
    cases hfree.symm.trans hseat
  have hplaced : x.seat = (x.slot, c.tenders.length + 1) := by rw [Tender.seat, h.number]
  refine ⟨(List.length_set ..).trans hs.length, fun slot l hl => ?_, fun slot l hl k j hj => ?_, fun j slot n hj => ?_⟩
  · rw [hlists] at hl
    split at hl
    · obtain rfl := Option.some.inj hl
      rw [List.length_append]
      exact h.room
    · exact hs.bounded slot l hl
  · rw [hlists] at hl
    split at hl
    next hslot =>
      subst hslot
      obtain rfl := Option.some.inj hl
      obtain hold | ⟨rfl, rfl⟩ := getElem?_concat_eq_some.mp hj
      · exact hkept (hs.seated _ _ hlist k j hold)
      · rw [hseats, if_pos rfl, hplaced]
    · exact hkept (hs.seated slot l hl k j hj)
  · rw [hseats] at hj
    split at hj
    next hji =>
      obtain ⟨rfl, rfl⟩ := Prod.mk.inj (hplaced.symm.trans (Option.some.inj hj))
      exact ⟨_, c.tenders.length, by rw [hlists, if_pos rfl], getElem?_concat_eq_some.mpr (.inr ⟨rfl, hji.symm⟩), rfl⟩
    · obtain ⟨l, k, hl, hk, hn⟩ := hs.owned j slot n hj
      by_cases hslot : slot = x.slot
      · obtain rfl := Option.some.inj (hlist.symm.trans (hslot ▸ hl))
        exact ⟨_, k, by rw [hlists, if_pos hslot], getElem?_concat_eq_some.mpr (.inl hk), hn⟩
      · exact ⟨l, k, by rw [hlists, if_neg hslot, hl], hk, hn⟩

/-! ### A new check, a retirement and cleared memory (01 R11, R21; 11 R197) -/

theorem Listed.place (hs : Listed s) (hslot : s.freeSlot = some slot) (hnew : c.tenders = []) :
    Listed (s.placeCheck slot c) := by
  obtain ⟨hlt, hfree⟩ := State.freeSlot_spec hslot
  have hlists : ∀ j, (s.placeCheck slot c).listAt j = if j = slot then some [] else s.listAt j := fun j => by
    rw [State.listAt, State.placeCheck_check? hlt]
    split
    · rw [Option.map_some, hnew]
    · rfl
  have hnone : s.listAt slot = none := by rw [State.listAt, hfree]; rfl
  have hseats : ∀ i, (s.placeCheck slot c).seatOf i = s.seatOf i := fun i => by
    rw [State.seatOf, State.placeCheck_tender?, State.seatOf]
  refine ⟨?_, fun j l hl => ?_, fun j l hl k i hi => ?_, fun i j n hi => ?_⟩
  · rw [State.placeCheck_tdu]
    exact hs.length
  · rw [hlists] at hl
    split at hl
    · obtain rfl := Option.some.inj hl
      exact Nat.zero_le _
    · exact hs.bounded j l hl
  · rw [hlists] at hl
    split at hl
    · obtain rfl := Option.some.inj hl
      cases hi
    · exact (hseats i).trans (hs.seated j l hl k i hi)
  · obtain ⟨l, k, hl, hk, hn⟩ := hs.owned i j n ((hseats i).symm.trans hi)
    refine ⟨l, k, ?_, hk, hn⟩
    rw [hlists, if_neg, hl]
    rintro rfl
    cases hnone.symm.trans hl

theorem State.cleared_pool_length : (s.cleared slot c).tdu.pool.length = s.tdu.pool.length := by
  refine State.cleared_keeps (fun s => s.tdu.pool.length) (fun _ _ => rfl) (fun u i => ?_) fun _ _ _ => rfl
  unfold State.freeTender
  dsimp only
  rw [List.length_set]
  split
  · split
    · rw [State.unlist, State.lowerCount_tdu]
    · rfl
  · rfl

theorem State.retire_tdu (hc : s.check? slot = some c) : (s.retire slot).tdu = (s.cleared slot c).tdu := by
  rw [State.retire_of_live hc]
  simp

theorem State.retire_pendCounts (hc : s.check? slot = some c) :
    (s.retire slot).wnu.pendCounts = (s.cleared slot c).wnu.pendCounts := by
  rw [State.retire_of_live hc]
  simp

/-- A check retires with exactly the tenders of its list (01 R21). -/
theorem Listed.retire (hs : Listed s) (slot : Nat) : Listed (s.retire slot) := by
  cases hc : s.check? slot with
  | none => rw [State.retire_of_free hc]; exact hs
  | some c =>
    have hlist : s.listAt slot = some c.tenders := State.listAt_eq_some.mpr ⟨c, hc, rfl⟩
    have hlists : ∀ j, (s.retire slot).listAt j = if j = slot then none else s.listAt j := fun j => by
      rw [State.listAt, State.retire_check? hc]
      split <;> rfl
    have hseats : ∀ i, (s.retire slot).seatOf i = if i ∈ c.tenders then none else s.seatOf i := fun i => by
      rw [State.seatOf, State.retire_tender? hc]
      split <;> rfl
    have hlisted : ∀ {i seat}, s.seatOf i = some seat → (i ∈ c.tenders ↔ seat.1 = slot) := by
      rintro i ⟨j, n⟩ hseat
      constructor
      · intro hi
        obtain ⟨k, hk⟩ := List.getElem?_of_mem hi
        exact congrArg Prod.fst (Option.some.inj (hseat.symm.trans (hs.seated slot _ hlist k i hk)))
      · rintro rfl
        obtain ⟨l, k, hl, hk, -⟩ := hs.owned i _ n hseat
        obtain rfl := Option.some.inj (hlist.symm.trans hl)
        exact List.mem_of_getElem? hk
    refine ⟨?_, fun j l hl => ?_, fun j l hl k i hi => ?_, fun i j n hi => ?_⟩
    · rw [State.retire_tdu hc, State.cleared_pool_length]
      exact hs.length
    · rw [hlists] at hl
      split at hl
      · cases hl
      · exact hs.bounded j l hl
    · rw [hlists] at hl
      split at hl
      · cases hl
      next hj =>
        have hseat := hs.seated j l hl k i hi
        rw [hseats, if_neg ((hlisted hseat).not.mpr hj), hseat]
    · rw [hseats] at hi
      split at hi
      · cases hi
      next hi' =>
        obtain ⟨l, k, hl, hk, hn⟩ := hs.owned i j n hi
        exact ⟨l, k, by rw [hlists, if_neg ((hlisted hi).not.mp hi'), hl], hk, hn⟩

theorem State.reset_listed : Listed State.reset where
  length := List.length_replicate
  bounded slot l hl := by simp [State.listAt, State.reset_check?] at hl
  seated slot l hl := by simp [State.listAt, State.reset_check?] at hl
  owned i slot n hi := by simp [State.seatOf, State.reset_tender?] at hi

end

/-- Every tender move keeps the tender records matched with the tender lists. -/
theorem TenderMove.listed {s t : State} (h : TenderMove s t) (hs : Listed s) : Listed t := by
  cases h with
  | quiet h => exact hs.of_same h.toSameSeats
  | join h => exact h.listed hs
  | status i st => exact hs.of_same (s.setStatus_sameSeats i st)
  | collect i => exact hs.of_same (s.collect_sameSeats i)
  | place hslot hnew => exact hs.place hslot hnew
  | retire slot => exact hs.retire slot
  | release n => exact hs.of_same (s.released_sameSeats n)
  | clear hckt htdu hcounts => exact State.reset_listed.of_same (Quiet.of_eq ⟨hckt, htdu, hcounts⟩).toSameSeats

end Sys2Proof.Machine
end

section
/-! Every tender move keeps the pending-status list and the pending counts those of the tenders (06 R118 to R120). -/

namespace Sys2Proof.Machine

section
variable {s t : State} {i : Nat} {x : Tender} {c : Check}

/-! ## The change of one record -/

/-- Tender j is held by terminal n. -/
def State.heldBy (s : State) (n j : Nat) : Bool := (s.tender? j).any fun x => decide (x.holder = some n)

theorem State.heldBy_of_tender? {j n : Nat} (hx : s.tender? j = some x) : s.heldBy n j = decide (x.holder = some n) := by
  rw [State.heldBy, hx, Option.any_some]

/-- What a record must say of its own status and holder. -/
structure Tender.StatusOrdered (x : Tender) : Prop where
  latest : x.latest.isSome = true → x.primary.isSome = true
  holder : ∀ n, x.holder = some n → terminalExists n = true

theorem StatusesCounted.ordered (hs : StatusesCounted s) (hx : s.tender? i = some x) : x.StatusOrdered := by
  obtain ⟨-, -, -, hlatest, hholder, -⟩ := hs
  exact ⟨hlatest i x hx, fun n => hholder i x n hx⟩

theorem StatusesCounted.pendCount_eq (hs : StatusesCounted s) {n : Nat} (hn : terminalExists n = true) :
    s.pendCount n = s.tdu.pendingList.countP (s.heldBy n) := by
  obtain ⟨-, -, -, -, -, hcount⟩ := hs
  exact hcount n hn

/-- The change of record i to o, the list and the counts following it. -/
structure Recounts (s t : State) (i : Nat) (o : Option Tender) : Prop where
  tender : ∀ j, t.tender? j = if j = i then o else s.tender? j
  ordered : ∀ x, o = some x → x.StatusOrdered
  length : t.wnu.pendCounts.length = s.wnu.pendCounts.length
  nodup : t.tdu.pendingList.Nodup
  mem_self : i ∈ t.tdu.pendingList ↔ o.any Tender.hasStatus = true
  mem_other : ∀ j, j ≠ i → (j ∈ t.tdu.pendingList ↔ j ∈ s.tdu.pendingList)
  count : ∀ n, terminalExists n = true → t.pendCount n = t.tdu.pendingList.countP (t.heldBy n)

theorem Recounts.counted {o : Option Tender} (h : Recounts s t i o) (hs : StatusesCounted s) : StatusesCounted t := by
  have hordered : ∀ j y, t.tender? j = some y → y.StatusOrdered := fun j y hy => by
    rw [h.tender] at hy
    split at hy
    · exact h.ordered y hy
    · exact hs.ordered hy
  refine ⟨h.length.trans hs.length, h.nodup, fun j => ?_, fun j y hy => (hordered j y hy).latest,
    fun j y n hy => (hordered j y hy).holder n, h.count⟩
  by_cases hj : j = i
  · subst hj
    rw [h.mem_self, h.tender, if_pos rfl, Option.any_eq_true]
  · rw [h.mem_other j hj, hs.mem_pendingList, h.tender, if_neg hj]

theorem State.heldBy_of_ne {o : Option Tender} (h : ∀ j, t.tender? j = if j = i then o else s.tender? j) {j : Nat}
    (hj : j ≠ i) (n : Nat) : t.heldBy n j = s.heldBy n j := by
  rw [State.heldBy, h, if_neg hj, State.heldBy]

/-- A tender with no status does not stand in the pending-status list. -/
theorem StatusesCounted.not_mem (hs : StatusesCounted s) (hclear : (s.tender? i).any Tender.hasStatus = false) :
    i ∉ s.tdu.pendingList := by
  intro hi
  obtain ⟨x, hx, hset⟩ := hs.mem_pendingList.mp hi
  rw [hx, Option.any_some] at hclear
  cases hset.symm.trans hclear

/-! ## A status is set (06 R118 to R120) -/

theorem Tender.withStatus_holder (x : Tender) (st : Status) : (x.withStatus st).holder = x.holder := by
  unfold Tender.withStatus
  split <;> rfl

theorem Tender.withStatus_hasStatus (x : Tender) (st : Status) : (x.withStatus st).hasStatus = true := by
  unfold Tender.withStatus
  split
  next h => exact h
  · rfl

theorem State.raiseCount_pendCounts_length (s : State) (o : Option Nat) :
    (s.raiseCount o).wnu.pendCounts.length = s.wnu.pendCounts.length := by
  cases o with
  | none => rfl
  | some t =>
    simp only [State.raiseCount]
    split <;> simp [State.setPendCount]

theorem State.setStatus_pendCounts_length (hx : s.tender? i = some x) (st : Status) :
    (s.setStatus i st).wnu.pendCounts.length = s.wnu.pendCounts.length := by
  cases hstatus : x.hasStatus with
  | true => rw [State.setStatus_of_hasStatus hx hstatus, State.modTender_wnu]
  | false => rw [State.setStatus_of_clear hx hstatus, State.raiseCount_pendCounts_length]; rfl

theorem StatusesCounted.setStatus (hs : StatusesCounted s) (i : Nat) (st : Status) :
    StatusesCounted (s.setStatus i st) := by
  cases hx : s.tender? i with
  | none => rw [State.setStatus, hx]; exact hs
  | some x =>
    have htender : ∀ j, (s.setStatus i st).tender? j = if j = i then some (x.withStatus st) else s.tender? j :=
      fun j => by
        rw [State.setStatus_tender?]
        split
        next hj => rw [hj, hx, Option.map_some]
        · rfl
    have hheld : ∀ n, (s.setStatus i st).heldBy n = s.heldBy n := fun n => funext fun j => by
      by_cases hj : j = i
      · rw [hj, State.heldBy_of_tender? ((htender i).trans (if_pos rfl)), State.heldBy_of_tender? hx,
          Tender.withStatus_holder]
      · exact State.heldBy_of_ne htender hj n
    have hset := x.withStatus_hasStatus st
    have hordered : ∀ y, some (x.withStatus st) = some y → y.StatusOrdered := by
      rintro y ⟨⟩
      exact ⟨fun _ => hset, fun n hn => (hs.ordered hx).holder n (Tender.withStatus_holder x st ▸ hn)⟩
    have hlength := State.setStatus_pendCounts_length hx st
    have hlist := State.setStatus_pendingList (st := st) hx
    cases hstatus : x.hasStatus with
    | true =>
      rw [hstatus, if_pos rfl] at hlist
      have hi : i ∈ s.tdu.pendingList := hs.mem_pendingList.mpr ⟨x, hx, hstatus⟩
      refine Recounts.counted ⟨htender, hordered, hlength, hlist ▸ hs.nodup, ?_, fun j _ => by rw [hlist],
        fun n hn => ?_⟩ hs
      · rw [hlist]
        exact iff_of_true hi hset
      · rw [State.setStatus_pendCount hs hx hn, hlist, hheld, ← hs.pendCount_eq hn]
        simp [hstatus]
    | false =>
      rw [hstatus, if_neg Bool.false_ne_true] at hlist
      have hi : i ∉ s.tdu.pendingList := hs.not_mem (by rw [hx, Option.any_some, hstatus])
      refine Recounts.counted ⟨htender, hordered, hlength, ?_, ?_, fun j hj => ?_, fun n hn => ?_⟩ hs
      · rw [hlist]
        exact List.concat_eq_append ▸ hs.nodup.concat hi
      · rw [hlist]
        exact iff_of_true (List.mem_append_right _ (List.mem_singleton_self i)) hset
      · rw [hlist, List.mem_append, List.mem_singleton, or_iff_left hj]
      · rw [State.setStatus_pendCount hs hx hn, hlist, hheld, List.countP_append, ← hs.pendCount_eq hn,
          List.countP_singleton, State.heldBy_of_tender? hx]
        simp [hstatus]

/-! ## A tender leaves the pending-status list (06 R119 to R121; 01 R21) -/

/-- A tender that has a status leaves the list and the count of its holder falls: what is left of its record has none. -/
theorem StatusesCounted.unlisted {o : Option Tender} (hs : StatusesCounted s)
    (htender : ∀ j, t.tender? j = if j = i then o else s.tender? j)
    (ho : ∀ y, o = some y → y.StatusOrdered ∧ y.hasStatus = false)
    (hlength : t.wnu.pendCounts.length = s.wnu.pendCounts.length)
    (hlist : t.tdu.pendingList = s.tdu.pendingList.filter (· != i))
    (hcount : ∀ n, terminalExists n = true → t.pendCount n
      = s.pendCount n - if (s.tender? i).any Tender.hasStatus = true ∧ s.heldBy n i = true then 1 else 0) :
    StatusesCounted t := by
  have hgone : i ∉ t.tdu.pendingList := by
    rw [hlist, List.mem_filter]
    simp
  have hclear : ¬ o.any Tender.hasStatus = true := by
    rw [Option.any_eq_true]
    rintro ⟨y, hy, hset⟩
    cases (ho y hy).2.symm.trans hset
  refine Recounts.counted ⟨htender, fun y hy => (ho y hy).1, hlength, hlist ▸ hs.nodup.filter _,
    iff_of_false hgone hclear, fun j hj => ?_, fun n hn => ?_⟩ hs
  · rw [hlist, List.mem_filter]
    exact and_iff_left (bne_iff_ne.mpr hj)
  · have hmem : i ∈ s.tdu.pendingList ↔ (s.tender? i).any Tender.hasStatus = true := by
      rw [hs.mem_pendingList, Option.any_eq_true]
    have hkept : t.tdu.pendingList.countP (t.heldBy n) = t.tdu.pendingList.countP (s.heldBy n) :=
      List.countP_congr fun j hj => by
        rw [State.heldBy_of_ne htender (by rintro rfl; exact hgone hj)]
    rw [hkept, hlist, ← hs.nodup.erase_eq_filter, List.countP_erase, ← hs.pendCount_eq hn, hcount n hn]
    simp only [hmem]

theorem Tender.collected_ordered (hx : x.StatusOrdered) : x.collected.StatusOrdered ∧ x.collected.hasStatus = false :=
  ⟨⟨nofun, hx.holder⟩, rfl⟩

theorem State.lowerCount_pendCounts_length (s : State) (o : Option Nat) :
    (s.lowerCount o).wnu.pendCounts.length = s.wnu.pendCounts.length := by
  cases o with
  | none => rfl
  | some n => simp [State.lowerCount, State.setPendCount]

theorem State.collect_pendCounts_length (hx : s.tender? i = some x) :
    (s.collect i).wnu.pendCounts.length = s.wnu.pendCounts.length := by
  cases hstatus : x.hasStatus with
  | true => rw [State.collect_of_hasStatus hx hstatus, State.unlist, State.lowerCount_pendCounts_length]; rfl
  | false => rw [State.collect_of_clear hx hstatus]

theorem StatusesCounted.collect (hs : StatusesCounted s) (i : Nat) : StatusesCounted (s.collect i) := by
  cases hx : s.tender? i with
  | none => rw [State.collect, hx]; exact hs
  | some x =>
    refine hs.unlisted (i := i) (o := some x.collected) (fun j => ?_) ?_ (State.collect_pendCounts_length hx)
      (State.collect_pendingList hs hx) fun n _ => ?_
    · rw [State.collect_tender? hs]
      split
      next hj => rw [hj, hx, Option.map_some]
      · rfl
    · rintro y ⟨⟩
      exact Tender.collected_ordered (hs.ordered hx)
    · rw [State.collect_pendCount hx, hx, Option.any_some, State.heldBy_of_tender? hx]
      simp only [decide_eq_true_eq]

theorem State.freeTender_pendCounts_length (s : State) (i : Nat) :
    (s.freeTender i).wnu.pendCounts.length = s.wnu.pendCounts.length := by
  unfold State.freeTender
  dsimp only
  split
  · split
    · rw [State.unlist, State.lowerCount_pendCounts_length]
    · rfl
  · rfl

/-- A tender that is freed leaves the list with its holder's count (01 R21 step 2). -/
theorem StatusesCounted.freeTender (hs : StatusesCounted s) (i : Nat) : StatusesCounted (s.freeTender i) := by
  refine hs.unlisted (i := i) (o := none) (s.freeTender_tender? i) (fun _ hy => nomatch hy)
    (s.freeTender_pendCounts_length i) ?_ fun n _ => ?_
  · rw [State.freeTender_pendingList]
    refine List.filter_congr fun j hj => ?_
    obtain ⟨y, hy, hset⟩ := hs.mem_pendingList.mp hj
    rw [hy, Option.any_some, hset, Bool.and_true]
    rfl
  · rw [State.freeTender_pendCount]
    cases hx : s.tender? i with
    | none => rfl
    | some x => simp [State.heldBy_of_tender? hx]

/-- A check retires with the statuses of its tenders (01 R21 step 2). -/
theorem StatusesCounted.retire (hs : StatusesCounted s) (slot : Nat) : StatusesCounted (s.retire slot) := by
  cases hc : s.check? slot with
  | none => rw [State.retire_of_free hc]; exact hs
  | some c =>
    have hfreed : ∀ (l : List Nat) (u : State), StatusesCounted u → StatusesCounted (l.foldl State.freeTender u) := by
      intro l u hu
      induction l generalizing u with
      | nil => exact hu
      | cons i l ih => exact ih _ (hu.freeTender i)
    have hlines : StatusesCounted { s with freeLines := s.freeLines + c.lines.length } := hs
    have hcleared : StatusesCounted (s.cleared slot c) := (hfreed c.tenders _ hlines).of_same (.of_eq ⟨rfl, rfl⟩)
    exact hcleared.of_same (.of_eq ⟨State.retire_tdu hc, State.retire_pendCounts hc⟩)

/-! ## New tenders and released terminals (06 R97; 02 R35) -/

/-- A new tender has no status (06 R97). -/
theorem Joins.counted (h : Joins s i x c) (hs : StatusesCounted s) : StatusesCounted (s.withTenderJoined i x) := by
  obtain ⟨hlt, hnone⟩ := State.freeTenderIndex_spec h.free
  obtain ⟨hprimary, hlatest⟩ := h.clear
  have htender := State.withTenderJoined_tender? hlt x
  have hi : i ∉ s.tdu.pendingList := hs.not_mem (by rw [hnone, Option.any_none])
  have hclear : x.hasStatus = false := by rw [Tender.hasStatus, hprimary]; rfl
  refine Recounts.counted ⟨htender, ?_, rfl, hs.nodup, ?_, fun _ _ => Iff.rfl, fun n hn => ?_⟩ hs
  · rintro y ⟨⟩
    exact ⟨by simp [hlatest], h.holder⟩
  · exact iff_of_false hi (by simp [hclear])
  · refine (hs.pendCount_eq hn).trans (List.countP_congr fun j hj => ?_)
    rw [State.heldBy_of_ne htender (by rintro rfl; exact hi hj)]

theorem Tender.unheldBy_holder {n m : Nat} :
    (x.unheldBy n).holder = some m ↔ x.holder = some m ∧ m ≠ n := by
  unfold Tender.unheldBy
  split
  next h => simp [h, eq_comm]
  next h =>
    refine (and_iff_left_of_imp ?_).symm
    rintro hm rfl
    exact h hm

theorem Tender.unheldBy_status (x : Tender) (n : Nat) :
    (x.unheldBy n).primary = x.primary ∧ (x.unheldBy n).latest = x.latest := by
  unfold Tender.unheldBy
  split <;> exact ⟨rfl, rfl⟩

theorem StatusesCounted.released (hs : StatusesCounted s) (n : Nat) :
    StatusesCounted ((s.withNoHolder n).withoutTerminal n) := by
  have htender := s.released_tender? n
  have hlist : ((s.withNoHolder n).withoutTerminal n).tdu.pendingList = s.tdu.pendingList :=
    s.withNoHolder_keeps n (fun u => u.tdu.pendingList) (by simp)
  have hcounts : ((s.withNoHolder n).withoutTerminal n).wnu.pendCounts = set1 s.wnu.pendCounts n 0 :=
    congrArg (set1 · n 0) (s.withNoHolder_keeps n (fun u => u.wnu.pendCounts) (by simp))
  have hrecord : ∀ {j y}, ((s.withNoHolder n).withoutTerminal n).tender? j = some y →
      ∃ x, s.tender? j = some x ∧ y = x.unheldBy n := fun {j y} hy => by
    obtain ⟨x, hx, rfl⟩ := Option.map_eq_some_iff.mp ((htender j).symm.trans hy)
    exact ⟨x, hx, rfl⟩
  have hheld : ∀ m j, ((s.withNoHolder n).withoutTerminal n).heldBy m j
      = (s.heldBy m j && decide (m ≠ n)) := fun m j => by
    rw [State.heldBy, htender, Option.any_map, State.heldBy]
    cases s.tender? j with
    | none => rfl
    | some x => simp [Tender.unheldBy_holder]
  refine ⟨?_, hlist ▸ hs.nodup, fun j => ?_, fun j y hy => ?_, fun j y m hy hm => ?_, fun m hm => ?_⟩
  · rw [hcounts, set1_length]
    exact hs.length
  · rw [hlist, hs.mem_pendingList, htender]
    cases s.tender? j with
    | none => simp
    | some x => simp [Tender.hasStatus, (x.unheldBy_status n).1]
  · obtain ⟨x, hx, rfl⟩ := hrecord hy
    obtain ⟨hprimary, hlatest⟩ := x.unheldBy_status n
    rw [hprimary, hlatest]
    exact (hs.ordered hx).latest
  · obtain ⟨x, hx, rfl⟩ := hrecord hy
    exact (hs.ordered hx).holder m (Tender.unheldBy_holder.mp hm).1
  · have hcount : ((s.withNoHolder n).withoutTerminal n).pendCount m = if m = n then 0 else s.pendCount m := by
      rw [State.pendCount, hcounts]
      split
      next h => rw [h, get1_set1_default]
      next h => rw [get1_set1, if_neg fun h' => h h'.1, State.pendCount]
    refine hcount.trans (.trans ?_ (congrArg (List.countP · _) (funext (hheld m)).symm))
    rw [hlist]
    split
    next h => simp [h]
    next h => simpa [h] using hs.pendCount_eq hm

end

/-- Every tender move keeps the pending-status list and the pending counts those of the tenders. -/
theorem TenderMove.counted {s t : State} (h : TenderMove s t) (hs : StatusesCounted s) : StatusesCounted t := by
  cases h with
  | quiet h => exact hs.of_same h.toSameStatuses
  | join h => exact h.counted hs
  | status i st => exact hs.setStatus i st
  | collect i => exact hs.collect i
  | place hslot hnew => exact hs.of_same (.of_eq (by simp))
  | retire slot => exact hs.retire slot
  | release n => exact hs.released n
  | clear hckt htdu hcounts => exact State.reset_statusesCounted.of_same (.of_eq ⟨htdu, hcounts⟩)

end Sys2Proof.Machine
end

section
/-! Every command is a sequence of tender moves: first the shared operations. -/

namespace Sys2Proof.Machine

/-! ## Operations that leave seats, lists and statuses alone -/

section
variable {s t : State} (h : Quiet s t)
include h

theorem Quiet.handEvent {n : Nat} {k : EventKind} : Quiet s (t.handEvent n k) := h.trans (.of_eq (by simp))
theorem Quiet.announceEnding {a : Approval} {n o : Nat} : Quiet s (t.announceEnding a n o) := h.trans (.of_eq (by simp))

/-- A need that is placed clears sent on its tender alone (06 R103). -/
theorem Quiet.placeNeed {i : Nat} {k : NeedKind} : Quiet s (t.placeNeed i k) :=
  (h.trans (.modTender (f := fun x => { x with sent := false }) fun _ => ⟨rfl, rfl⟩)).trans (.of_eq ⟨rfl, rfl, rfl⟩)

theorem Quiet.mapLeases {slot : Nat} {f : Lease → Lease} : Quiet s (t.mapLeases slot f) := by
  refine h.trans (.mapPool fun x => ?_)
  split
  · exact ⟨rfl, rfl⟩
  · exact .refl x

/-- A status is set after a quiet change. -/
theorem Quiet.thenStatus {i : Nat} {st : Status} : TenderMoves s (t.setStatus i st) := .tail h.moves (.status i st)

end

/-! ## Tender events and exchanges -/

section
variable (s : State) {i : Nat} {f : Tender → Tender}

theorem State.derive_quiet (b : Bool) (slot : Nat) : Quiet s (s.derive b slot) := by
  simp only [State.derive]
  split
  · exact .refl s
  · split
    · apply Quiet.handEvent
      exact .modCheck fun _ _ => rfl
    · exact .refl s

theorem State.moveTender_quiet (hf : ∀ x : Tender, x.Stays (f x)) : Quiet s (s.moveTender i f) := by
  unfold State.moveTender
  split
  · exact .refl s
  · refine (Quiet.modTender hf).trans (.modCheck ?_)
    exact fun _ _ => rfl

theorem Quiet.stepVersion (slot : Nat) : Quiet s (s.modCheck slot Check.stepVersion) := .modCheck fun _ _ => rfl

theorem State.tenderEvent_quiet (hf : ∀ x : Tender, x.Stays (f x)) : Quiet s (s.tenderEvent i f) := by
  unfold State.tenderEvent
  split
  · exact .refl s
  · exact ((s.moveTender_quiet hf).trans (.stepVersion _ _)).trans (State.derive_quiet _ _ _)

/-- A tender that ends keeps its seat and its standing. -/
theorem State.finish_quiet (o : TenderEnd) : Quiet s (s.tenderEvent i fun x => x.finish o) :=
  s.tenderEvent_quiet fun _ => ⟨rfl, rfl⟩

theorem State.reverseTender_quiet (hf : ∀ x : Tender, x.Stays (f x)) : Quiet s (s.reverseTender i f) := by
  refine (s.tenderEvent_quiet ?_).placeNeed
  exact fun x => ⟨(hf x).seat, (hf x).standing⟩

theorem State.settleAuthorized_quiet (b : Bool) (hf : ∀ x : Tender, x.Stays (f x)) :
    Quiet s (s.settleAuthorized i b f) := by
  unfold State.settleAuthorized
  split
  · exact s.reverseTender_quiet hf
  · refine s.tenderEvent_quiet ?_
    exact fun x => ⟨(hf x).seat, (hf x).standing⟩

theorem State.endAuth_tenderMoves (i : Nat) (x : Tender) (e : ExchangeEnd) : TenderMoves s (s.endAuth i x e) := by
  cases e with
  | approved ref code =>
    refine (s.settleAuthorized_quiet _ ?_).moves
    exact fun _ => ⟨rfl, rfl⟩
  | refused | noLink => exact (s.finish_quiet _).thenStatus
  | timeout => exact (s.reverseTender_quiet Tender.Stays.refl).thenStatus

theorem State.endIncrement_tenderMoves (i : Nat) (x : Tender) (e : ExchangeEnd) :
    TenderMoves s (s.endIncrement i x e) := by
  cases e with
  | approved ref code =>
    refine (s.settleAuthorized_quiet _ ?_).moves
    exact fun _ => ⟨rfl, rfl⟩
  | refused | noLink | timeout => exact (s.settleAuthorized_quiet _ Tender.Stays.refl).thenStatus

theorem State.endReverse_tenderMoves (i : Nat) (x : Tender) (e : ExchangeEnd) : TenderMoves s (s.endReverse i x e) := by
  cases e with
  | approved ref code => exact (s.finish_quiet .reversed).thenStatus
  | refused | noLink | timeout =>
    simp only [State.endReverse]
    split
    · apply Quiet.moves
      apply Quiet.placeNeed
      exact .modTender fun _ => ⟨rfl, rfl⟩
    · refine (s.tenderEvent_quiet ?_).thenStatus
      exact fun _ => ⟨rfl, rfl⟩

theorem State.closeStep_tenderMoves (slot : Nat) : TenderMoves s (s.closeStep slot) := by
  simp only [State.closeStep]
  split
  · exact .refl s
  · split
    · exact .refl s
    · split
      · exact .single (.retire slot)
      · apply Quiet.moves
        apply Quiet.handEvent
        exact .modCheck fun _ _ => rfl

theorem State.endCapture_tenderMoves (i : Nat) (x : Tender) (e : ExchangeEnd) : TenderMoves s (s.endCapture i x e) := by
  refine (s.tenderEvent_quiet fun y => ?_).moves.trans (State.closeStep_tenderMoves _ _)
  cases e <;> exact ⟨rfl, rfl⟩

theorem State.endExchange_tenderMoves (k : NeedKind) (i : Nat) (e : ExchangeEnd) :
    TenderMoves s (s.endExchange k i e) := by
  unfold State.endExchange
  split
  · exact .refl s
  next x _ =>
    cases k with
    | auth => exact s.endAuth_tenderMoves i x e
    | increment => exact s.endIncrement_tenderMoves i x e
    | reverse => exact s.endReverse_tenderMoves i x e
    | capture => exact s.endCapture_tenderMoves i x e

theorem State.completeNoLink_tenderMoves (n : Need) : TenderMoves s (s.completeNoLink n) :=
  (TenderMoves.of_eq (s := s) (t := s.removeNeed n.tender) ⟨rfl, rfl, rfl⟩).trans
    (State.endExchange_tenderMoves _ n.kind n.tender .noLink)

theorem State.departUp_tenderMoves : TenderMoves s s.departUp := .foldl State.completeNoLink_tenderMoves _ _

theorem State.withdraw_quiet (i : Nat) : Quiet s (s.withdraw i) := by
  have hremoved : Quiet s (s.removeNeed i) := .of_eq ⟨rfl, rfl, rfl⟩
  unfold State.withdraw
  split
  · exact .refl s
  · split
    · exact s.finish_quiet .withdrawn
    · split
      · exact .modTender fun _ => ⟨rfl, rfl⟩
      · split
        · exact hremoved.trans (State.finish_quiet _ .withdrawn)
        · exact hremoved.trans (State.reverseTender_quiet _ Tender.Stays.refl)
    · exact s.reverseTender_quiet Tender.Stays.refl
    · exact .refl s

theorem State.expireLease_tenderMoves (i : Nat) : TenderMoves s (s.expireLease i) :=
  (s.finish_quiet .withdrawn).thenStatus

/-! ## Holds, approvals and releases -/

theorem State.addHold_quiet (slot : Nat) (r : HoldReason) : Quiet s (s.addHold slot r) := by
  have hmod : Quiet s (s.modCheck slot fun c =>
      { c with holds := c.holds.put r true, version := nextVersion c.version }) := .modCheck fun _ _ => rfl
  simp only [State.addHold]
  split
  · exact .refl s
  · split
    · exact hmod
    · exact hmod.handEvent.mapLeases

theorem State.actDeferred_quiet (i : Nat) : Quiet s (s.actDeferred i) := by
  unfold State.actDeferred
  split
  · exact .refl s
  · split
    · refine Quiet.trans (.modTender ?_) (State.withdraw_quiet _ i)
      exact fun _ => ⟨rfl, rfl⟩
    · exact .refl s

theorem State.releaseHeld_quiet (slot : Nat) : Quiet s (s.releaseHeld slot) := by
  unfold State.releaseHeld
  split
  · exact .refl s
  next c _ => exact ((Quiet.refl s).handEvent.trans (.foldl State.actDeferred_quiet c.tenders _)).mapLeases

theorem State.removeHold_quiet (slot : Nat) (r : HoldReason) : Quiet s (s.removeHold slot r) := by
  simp only [State.removeHold]
  split
  · exact .refl s
  next c _ =>
    have hmod : Quiet s (s.modCheck slot fun c' =>
        { c' with holds := c.holds.put r false, version := nextVersion c'.version }) := .modCheck fun _ _ => rfl
    split
    · exact hmod
    · exact hmod.trans (State.releaseHeld_quiet _ slot)

theorem State.park_quiet (slot term : Nat) (change : Parked) : Quiet s (s.park slot term change).1 := by
  have hrecord : Quiet s (s.withRecord (s.parkRecord slot term change)) := .of_eq ⟨rfl, rfl, rfl⟩
  have hheld := hrecord.trans (State.addHold_quiet _ slot .approval)
  rw [s.park_fst]
  dsimp only
  split
  · exact hheld.trans (.of_eq (by simp))
  · exact hheld

theorem State.endApproval_quiet (a : Approval) (n : Nat) : Quiet s (s.endApproval a n) := by
  have hdrop : Quiet s (s.dropApproval a) := .of_eq ⟨rfl, rfl, rfl⟩
  exact (hdrop.trans (State.removeHold_quiet _ a.slot .approval)).announceEnding

theorem recompute_tenders {w : Settings} {c c' : Check} (h : recompute w c = .ok c') : c'.tenders = c.tenders := by
  obtain ⟨-, -, rfl⟩ := recompute_eq_ok h
  rfl

/-- Figures that are found leave the tender list of their check (03 R43, 04 R71). -/
theorem State.writeFigures_quiet {s : State} {slot : Nat} {c c₁ : Check} (hc : s.check? slot = some c)
    (h : c₁.tenders = c.tenders) (w : Settings) : Quiet s (s.writeFigures slot (recompute w c₁)) := by
  unfold State.writeFigures
  split
  next c₂ hok =>
    refine .modCheck fun d hd => ?_
    obtain rfl := Option.some.inj (hc.symm.trans hd)
    exact (recompute_tenders hok).trans h
  · exact .refl s

theorem State.moveCheck_quiet (slot : Nat) (c : Check) (table owner : Nat) : Quiet s (s.moveCheck slot c table owner) := by
  unfold State.moveCheck
  dsimp only
  refine Quiet.trans ?_ (.modCheck ?_)
  · split <;> exact .of_eq ⟨rfl, rfl, rfl⟩
  · exact fun _ _ => rfl

/-- The second judgement of a parked change, once its record has left the table (08 R154). -/
theorem State.evaluate_tenderMoves {s : State} {slot : Nat} {c : Check} (hc : s.check? slot = some c)
    (change : Parked) : TenderMoves s ((s.evaluate slot c change).state s) := by
  have hline : ∀ l (d : Check), d.tenders = c.tenders → TenderMoves s ((s.applyLine slot l d).state s) := by
    intro l d hd
    unfold State.applyLine
    split
    next c₂ hok =>
      split
      · exact .refl s
      · refine Quiet.moves (.modCheck fun e he => ?_)
        obtain rfl := Option.some.inj (hc.symm.trans he)
        exact (recompute_tenders hok).trans hd
    · exact .refl s
  cases change with
  | voidLine n | discountLine n d =>
    simp only [State.evaluate]
    split
    · exact .refl s
    · exact hline _ _ rfl
  | voidCheck =>
    simp only [State.evaluate]
    split
    · exact .refl s
    · split
      · exact .refl s
      · exact .single (.retire slot)
  | transferCheck table owner =>
    simp only [State.evaluate, State.applyTransfer]
    split
    · exact .refl s
    · split
      · exact .refl s
      · split
        · exact .refl s
        · exact (s.moveCheck_quiet slot c table owner).moves

theorem State.approveRecord_tenderMoves {s : State} {a : Approval} {c : Check} (hc : s.check? a.slot = some c) :
    TenderMoves s (s.approveRecord a c).1 := by
  have hdrop : TenderMoves s (s.dropApproval a) := .of_eq ⟨rfl, rfl, rfl⟩
  have heval := hdrop.trans (State.evaluate_tenderMoves (s := s.dropApproval a) hc a.change)
  unfold State.approveRecord
  dsimp only
  cases he : (s.dropApproval a).evaluate a.slot c a.change with
  | refused code | applied t =>
    rw [he] at heval
    exact heval.trans (Quiet.announceEnding (State.removeHold_quiet _ _ _)).moves
  | retired t =>
    rw [he] at heval
    exact heval.trans (Quiet.refl _).announceEnding.moves

theorem State.releaseTerminal_tenderMoves (n : Nat) : TenderMoves s (s.releaseTerminal n).1 := by
  have hsilent : TenderMoves s (s.setPresent n false) := .of_eq ⟨rfl, rfl, rfl⟩
  have hexpired : TenderMoves s (s.withLeasesExpired n) :=
    hsilent.trans (TenderMoves.foldl State.expireLease_tenderMoves _ _)
  rw [State.releaseTerminal_fst]
  exact hexpired.tail (.release n)

/-! ## The recovery of a warm start (06 R124) -/

theorem Tender.recover_stays (x : Tender) : x.Stays x.recover := by
  unfold Tender.recover
  split
  · split <;> exact ⟨rfl, rfl⟩
  · split <;> exact ⟨rfl, rfl⟩
  · exact ⟨rfl, rfl⟩
  · exact ⟨rfl, rfl⟩
  · exact .refl x

theorem State.recoverTender_tenderMoves (i : Nat) : TenderMoves s (s.recoverTender i) := by
  unfold State.recoverTender
  split
  · exact .refl s
  · split
    · dsimp only
      split
      · exact (s.moveTender_quiet Tender.recover_stays).thenStatus
      · exact (s.moveTender_quiet Tender.recover_stays).moves
    · exact (Quiet.modTender Tender.recover_stays).moves

theorem State.settleStart_quiet (changed : List Nat) (slot : Nat) : Quiet s (s.settleStart changed slot) := by
  unfold State.settleStart
  split
  · exact .refl s
  · split
    · apply Quiet.handEvent
      exact .modCheck fun _ _ => rfl
    · split
      · exact (Quiet.stepVersion s slot).trans (State.derive_quiet _ _ _)
      · exact .refl s

theorem State.restartLeases_quiet : Quiet s s.restartLeases := by
  refine .mapPool fun x => ?_
  split
  · exact ⟨rfl, rfl⟩
  · exact .refl x

theorem State.recoverAll_tenderMoves : TenderMoves s s.recoverAll := by
  have htenders : TenderMoves s s.tendersRecovered := .foldl State.recoverTender_tenderMoves _ s
  have hchecks : Quiet s.tendersRecovered (s.tendersRecovered.checksSettled s.recovering) :=
    .foldl (fun u slot => u.settleStart_quiet s.recovering slot) _ _
  have happrovals : ∀ u : State, Quiet u u.restartApprovals := fun u => .of_eq ⟨rfl, rfl, rfl⟩
  have hqueue : ∀ u : State, Quiet u u.rebuildQueue := fun u => .foldl (fun v i => (Quiet.refl v).placeNeed) _ u
  rw [s.recoverAll_eq]
  exact htenders.trans (hchecks.trans
    ((State.restartLeases_quiet _).trans ((happrovals _).trans (hqueue _)))).moves

end

end Sys2Proof.Machine
end

section
/-! Every command is a sequence of tender moves: the requests, the events and the starts. -/

namespace Sys2Proof.Machine

/-- An outcome is a next state that tender moves lead to. -/
def TenderMovesTo (s : State) (o : Out) : Prop := ∀ t, o = .next t → TenderMoves s t

theorem tenderMovesTo_next {s t : State} (h : TenderMoves s t) : TenderMovesTo s (.next t) := by
  intro u hu
  obtain rfl := Host.Outcome.next.inj hu
  exact h

/-! ## Frames of requests -/

section
variable {s : State}

theorem TenderMoves.flushPushes {t : State} (h : TenderMoves s t) : TenderMoves s t.flushPushes :=
  h.trans (TenderMoves.of_eq (by simp))

theorem Tender.heardBy_stays (x : Tender) (t now span : Nat) : x.Stays (x.heardBy t now span) := by
  unfold Tender.heardBy
  split
  · exact ⟨rfl, rfl⟩
  · exact .refl x

/-- A frame of a holder renews leases, which no list and no status rests on (05 R91). -/
theorem State.hear_quiet (s : State) (t : Nat) : Quiet s (s.hear t) := by
  refine .of_tenders (State.hear_ckt s t) ?_ ⟨State.hear_tdu_pendingList s t, State.hear_wnu_pendCounts s t⟩
    (s.hear_tender? t) fun _ x => x.heardBy_stays t _ _
  rw [State.hear_pool, List.length_map]

/-- A frame that is taken is acted on for a requester that fits its port (02 R28, 10 R179). -/
theorem State.frame_tenderMoves {h : Hdr} {kind : Nat} {act : State → State × Reply}
    (hact : requesterFits h = true → ∀ u, TenderMoves u (act u).1) : TenderMoves s (s.frame h kind act) := by
  have hfits : s.takes h = .taken → requesterFits h = true := fun ht => by
    cases hr : requesterFits h with
    | true => rfl
    | false => simp [State.takes, hr] at ht; split_ifs at ht
  unfold State.frame
  split
  · exact .refl s
  · exact .of_eq (by simp)
  · exact .of_eq (by simp)
  · exact .of_eq (by simp)
  next ht =>
    have hacted := (s.hear_quiet h.term).moves.trans (hact (hfits ht) _)
    exact TenderMoves.flushPushes (hacted.trans (TenderMoves.of_eq (by simp)))

theorem tenderMovesTo_fitting {h : Hdr} {kind : Nat} {cls : ReqClass} {act : State → State × Reply}
    (hact : requesterFits h = true → ∀ u, TenderMoves u (act u).1) :
    TenderMovesTo s (.next (s.request h kind cls act)) := by
  refine tenderMovesTo_next (State.frame_tenderMoves fun hfits u => ?_)
  split
  · exact hact hfits u
  · exact .refl u

theorem tenderMovesTo_request {h : Hdr} {kind : Nat} {cls : ReqClass} {act : State → State × Reply}
    (hact : ∀ u, TenderMoves u (act u).1) : TenderMovesTo s (.next (s.request h kind cls act)) :=
  tenderMovesTo_fitting fun _ => hact

/-- A request that is judged on the state it meets. -/
theorem tenderMovesTo_judged {h : Hdr} {kind : Nat} {cls : ReqClass} {tests : State → List (Bool × Reply)}
    {act : State → State × Reply} (hact : ∀ u, judge (tests u) = none → TenderMoves u (act u).1) :
    TenderMovesTo s (.next (s.request h kind cls fun u => judged u (tests u) (act u))) :=
  tenderMovesTo_request fun u => judged_fst (.refl u) (hact u)

/-- A request on a check is judged and acted on with the check in its slot. -/
theorem tenderMovesTo_onCheck {h : Hdr} {kind n : Nat} {cls : ReqClass} {k : State → Nat → Check → State × Reply}
    (hk : ∀ u slot c, u.check? slot = some c → TenderMoves u (k u slot c).1) :
    TenderMovesTo s (.next (s.request h kind cls fun u => u.withCheck n (k u))) :=
  tenderMovesTo_request fun u => State.withCheck_fst (.refl u) (hk u)

theorem tenderMovesTo_malformed (h : Hdr) (kind reason : Nat) :
    TenderMovesTo s (.next (s.malformedFrame h kind reason)) :=
  tenderMovesTo_next (State.frame_tenderMoves fun _ u => .refl u)

end

/-! ## Requests on checks, lines and plans -/

section
variable (h : Hdr) (s : State)

theorem execOpenCheck_tenderMovesTo (table covers owner : Nat) :
    TenderMovesTo s (execOpenCheck h table covers owner s) := by
  refine tenderMovesTo_judged fun u ht => ?_
  simp only [judge_eq_none_cons] at ht
  obtain ⟨-, -, -, -, -, -, hslot, -, -⟩ := ht
  obtain ⟨slot, hs⟩ := Option.isSome_iff_exists.mp (by simpa using hslot)
  rw [hs]
  exact .single (.place hs rfl)

theorem execTransferCheck_tenderMovesTo (check table owner : Nat) :
    TenderMovesTo s (execTransferCheck h check table owner s) := by
  refine tenderMovesTo_onCheck fun u slot c _ => judged_fst (.refl u) fun _ => ?_
  split
  · exact (u.park_quiet slot h.term _).moves
  · exact ((u.moveCheck_quiet slot c table owner).trans (.stepVersion _ slot)).moves

theorem execVoidCheck_tenderMovesTo (check : Nat) : TenderMovesTo s (execVoidCheck h check s) := by
  refine tenderMovesTo_onCheck fun u slot c _ => judged_fst (.refl u) fun _ => ?_
  split
  · exact (u.park_quiet slot h.term _).moves
  · exact .single (.retire slot)

theorem State.startClose_quiet (slot : Nat) (l : List Nat) : Quiet s (s.startClose slot l) := by
  refine Quiet.trans ?_ (Quiet.foldl (f := State.startCapture) (fun u i => ?_) l _)
  · exact .modCheck fun _ _ => rfl
  · apply Quiet.placeNeed
    exact .modTender fun _ => ⟨rfl, rfl⟩

theorem execCloseCheck_tenderMovesTo (check : Nat) : TenderMovesTo s (execCloseCheck h check s) := by
  refine tenderMovesTo_onCheck fun u slot c _ => judged_fst (.refl u) fun _ => ?_
  split
  · exact .single (.retire slot)
  · exact (u.startClose_quiet slot _).moves

theorem State.takeLines_quiet {s : State} {slot : Nat} {c c₁ : Check} (hc : s.check? slot = some c)
    (h : c₁.tenders = c.tenders) (n : Nat) (w : Settings) : Quiet s (s.takeLines slot c n (recompute w c₁)) := by
  have htaken : Quiet s { s with freeLines := s.freeLines - n } := .of_eq ⟨rfl, rfl, rfl⟩
  have hfigures := htaken.trans (State.writeFigures_quiet (s := { s with freeLines := s.freeLines - n }) hc h w)
  simp only [State.takeLines]
  split
  · refine Quiet.handEvent (hfigures.trans (.modCheck ?_))
    exact fun _ _ => rfl
  · exact hfigures

theorem execAddLines_tenderMovesTo (check : Nat) (entries : List LineEntry) :
    TenderMovesTo s (execAddLines h check entries s) := by
  unfold execAddLines
  split
  · exact tenderMovesTo_malformed h _ _
  · exact tenderMovesTo_onCheck fun u slot c hc => judged_fst (.refl u) fun _ =>
      (State.takeLines_quiet (c₁ := c.withLines entries h.term) hc rfl _ _).moves

theorem execVoidLine_tenderMovesTo (check line : Nat) : TenderMovesTo s (execVoidLine h check line s) := by
  refine tenderMovesTo_onCheck fun u slot c hc => ?_
  split
  · exact .refl u
  · split
    · exact .refl u
    next l _ =>
      refine judged_fst (.refl u) fun _ => ?_
      split
      · exact (u.park_quiet slot h.term _).moves
      · exact (State.writeFigures_quiet (c₁ := c.withVoid line) hc rfl _).moves

theorem execDiscountLine_tenderMovesTo (check line amount : Nat) :
    TenderMovesTo s (execDiscountLine h check line amount s) := by
  refine tenderMovesTo_onCheck fun u slot c hc => ?_
  split
  · exact .refl u
  · split
    · exact .refl u
    next l _ =>
      refine judged_fst (.refl u) fun _ => ?_
      split
      · exact (u.park_quiet slot h.term _).moves
      · exact (State.writeFigures_quiet (c₁ := c.withDiscount line (min amount l.gross)) hc rfl _).moves

theorem execLockSplit_tenderMovesTo (check : Nat) : TenderMovesTo s (execLockSplit h check s) := by
  refine tenderMovesTo_onCheck fun u slot c _ => ?_
  dsimp only
  split
  · exact .refl u
  · split
    · split
      · refine Quiet.moves (.modCheck ?_)
        exact fun _ _ => rfl
      · exact .refl u
    · refine judged_fst (.refl u) fun _ => Quiet.moves (.modCheck ?_)
      exact fun _ _ => rfl

/-! ## Requests on tenders -/

/-- A terminal whose frame fits its port exists (02 R28). -/
theorem holderOf_exists {h : Hdr} (hfits : requesterFits h = true) {n : Nat} (hn : holderOf h.term = some n) :
    terminalExists n = true := by
  unfold holderOf at hn
  split at hn
  · cases hn
  next hterm =>
    obtain rfl := Option.some.inj hn
    unfold requesterFits at hfits
    split at hfits
    · exact hfits
    · exact absurd (beq_iff_eq.mp hfits) hterm

theorem Joins.begin {s : State} {i : Nat} {x : Tender} {c : Check} (h : Joins s i x c) :
    TenderMoves s (s.beginTender i x) :=
  .head (.join h) (State.derive_quiet _ true x.slot).moves

/-- The kinds of tender join their check alike (06 R101, R102). -/
theorem Joins.start {s : State} {i : Nat} {x : Tender} {c : Check} (h : Joins s i x c) (kind : TenderKind)
    (asked balance : Nat) (token : List Byte) : TenderMoves s (s.startTender i x kind asked balance token) := by
  have hbegin : ∀ y : Tender, y.Stays x → TenderMoves s (s.beginTender i y) := fun y hy => by
    obtain ⟨hholder, hprimary, hlatest⟩ := Tender.standing_eq.mp hy.standing
    obtain ⟨hslot, hnumber⟩ := Prod.mk.inj hy.seat
    exact Joins.begin ⟨h.free, hslot ▸ h.check, h.room, hnumber ▸ h.number, hprimary ▸ hlatest ▸ h.clear,
      hholder ▸ h.holder⟩
  cases kind with
  | cash | tipFirst => exact hbegin _ ⟨rfl, rfl⟩
  | tipLater => exact (hbegin (x.asTipLater token) ⟨rfl, rfl⟩).trans (Quiet.refl _).placeNeed.moves

theorem execStartTender_tenderMovesTo (check portion kind amount : Nat) (token : List Byte) :
    TenderMovesTo s (execStartTender h check portion kind amount token s) := by
  unfold execStartTender
  split
  · exact tenderMovesTo_malformed h _ _
  · refine tenderMovesTo_fitting fun hfits u => State.withCheck_fst (.refl u) fun slot c hc =>
      judged_fst (.refl u) fun ht => ?_
    simp only [judge_eq_none_cons] at ht
    obtain ⟨-, -, -, -, -, -, -, -, -, hroom, hfree, -⟩ := ht
    obtain ⟨i, hi⟩ := Option.isSome_iff_exists.mp (by simpa using hfree)
    rw [hi]
    exact Joins.start ⟨hi, hc, Nat.lt_of_not_le (of_decide_eq_false hroom), rfl, ⟨rfl, rfl⟩,
      fun n => holderOf_exists hfits⟩ _ _ _ _

theorem State.takeTip_quiet (i : Nat) (x : Tender) (tip : Nat) : Quiet s (s.takeTip i x tip) := by
  unfold State.takeTip
  split
  · apply Quiet.placeNeed
    exact s.tenderEvent_quiet fun _ => ⟨rfl, rfl⟩
  · split
    · apply Quiet.placeNeed
      exact s.tenderEvent_quiet fun _ => ⟨rfl, rfl⟩
    · split
      · exact .refl s
      · exact s.tenderEvent_quiet fun _ => ⟨rfl, rfl⟩

theorem execSubmitTip_tenderMovesTo (check tender form figure : Nat) :
    TenderMovesTo s (execSubmitTip h check tender form figure s) := by
  refine tenderMovesTo_onCheck fun u slot c _ => ?_
  split
  · exact .refl u
  · exact State.withTender_fst (.refl u) fun i x _ => judged_fst (.refl u) fun _ => (u.takeTip_quiet i x _).moves

theorem execWithdrawTender_tenderMovesTo (check tender : Nat) :
    TenderMovesTo s (execWithdrawTender h check tender s) := by
  refine tenderMovesTo_onCheck fun u slot c _ => State.withTender_fst (.refl u) fun i x _ =>
    judged_fst (.refl u) fun _ => ?_
  split
  · refine Quiet.moves (.modTender ?_)
    exact fun _ => ⟨rfl, rfl⟩
  · exact (u.withdraw_quiet i).moves

theorem State.writeOff_quiet (slot i : Nat) : Quiet s (s.writeOff slot i) := by
  refine Quiet.trans (.modTender ?_) (.modCheck ?_)
  · exact fun _ => ⟨rfl, rfl⟩
  · exact fun _ _ => rfl

/-! ## Requests on holds, statuses and terminals -/

theorem execHoldCheck_tenderMovesTo (check : Nat) : TenderMovesTo s (execHoldCheck h check s) := by
  refine tenderMovesTo_onCheck fun u slot c _ => judged_fst (.refl u) fun _ => ?_
  dsimp only [State.takenSummary]
  split
  · exact .refl u
  · exact (u.addHold_quiet slot .manager).moves

theorem execApprove_tenderMovesTo (check number : Nat) : TenderMovesTo s (execApprove h check number s) := by
  refine tenderMovesTo_onCheck fun u slot c hc => ?_
  split
  · exact .refl u
  next a ha =>
    obtain ⟨-, rfl⟩ := u.approvalOf_spec ha
    exact judged_fst (.refl u) fun _ => State.approveRecord_tenderMoves hc

theorem execFetchNextPending_tenderMovesTo : TenderMovesTo s (execFetchNextPending h s) := by
  refine tenderMovesTo_request fun u => ?_
  split
  · exact .refl u
  next i _ _ => exact .single (.collect i)

theorem State.ackAged_quiet : Quiet s s.ackAged := by
  refine .of_lists (fun slot => ?_) ⟨rfl, rfl⟩
  rw [State.listAt, State.ackAged_check?, Option.map_map, State.listAt]
  congr 1
  funext c
  dsimp only [Function.comp]
  split <;> rfl

theorem State.roleChanged_tenderMoves (t : Nat) (old new : Role) : TenderMoves s (s.roleChanged t old new) := by
  cases new with
  | off =>
    simp only [State.roleChanged]
    split
    · exact .of_eq ⟨rfl, rfl, rfl⟩
    · exact s.releaseTerminal_tenderMoves t
  | server => exact .refl s
  | manager =>
    simp only [State.roleChanged]
    split
    · exact .of_eq (by simp)
    · exact .refl s

theorem execSetTerminal_tenderMovesTo (terminal role mask : Nat) :
    TenderMovesTo s (execSetTerminal h terminal role mask s) := by
  refine tenderMovesTo_judged fun u _ => ?_
  have hwritten : TenderMoves u (u.writeTerminal terminal ((Role.ofNat? role).getD .off) (BitVec.ofNat 8 mask)) :=
    .of_eq ⟨rfl, rfl, rfl⟩
  exact hwritten.trans (State.roleChanged_tenderMoves _ terminal _ _)

theorem State.loadCopy_tenderMoves (w : Settings) (loaded : LoadedFrom) : TenderMoves s (s.loadCopy w loaded) := by
  have hwritten : TenderMoves s { s with sst := { s.sst with work := w, loaded } } := .of_eq ⟨rfl, rfl, rfl⟩
  exact hwritten.trans (TenderMoves.foldl (fun u t => u.releaseTerminal_tenderMoves t) _ _)

theorem execLoadSettings_tenderMovesTo (source : Nat) : TenderMovesTo s (execLoadSettings h source s) := by
  refine tenderMovesTo_request fun u => ?_
  split
  · exact .refl u
  · split
    · exact .refl u
    · exact judged_fst (.refl u) fun _ => u.loadCopy_tenderMoves _ _

end

/-- A request that a transaction carries is a sequence of tender moves. -/
theorem execRequest_tenderMovesTo (i : Instr) (s : State) : TenderMovesTo s (execRequest i s) := by
  cases i with
  -- requests that leave lists and statuses alone
  | hello h | readPartStatus h => exact tenderMovesTo_request fun u => .refl u
  | readCheck h check | readLines h check first last =>
    exact tenderMovesTo_onCheck fun u _ _ _ => judged_fst (.refl u) fun _ => .refl u
  | readTable h table | readSetting h number => exact tenderMovesTo_judged fun u _ => .refl u
  | updateCheck h check covers =>
    exact tenderMovesTo_onCheck fun u _ c hc => judged_fst (.refl u) fun _ =>
      (State.writeFigures_quiet (c₁ := { c with covers }) hc rfl _).moves
  | presentCheck h check =>
    refine tenderMovesTo_onCheck fun u _ _ _ => judged_fst (.refl u) fun _ => ?_
    refine (Quiet.handEvent (.modCheck ?_)).moves
    exact fun _ _ => rfl
  | setSplit h check kind count | setPortion h check portion amount =>
    refine tenderMovesTo_onCheck fun u _ _ _ => judged_fst (.refl u) fun _ => ?_
    refine Quiet.moves (.modCheck ?_)
    exact fun _ _ => rfl
  | setWatch h check mask =>
    exact tenderMovesTo_onCheck fun u _ _ _ => judged_fst (.refl u) fun _ => .of_eq ⟨rfl, rfl, rfl⟩
  | setTable h first last sect | setSetting h number value | setClock h day minute =>
    exact tenderMovesTo_judged fun u _ => .of_eq ⟨rfl, rfl, rfl⟩
  | dropWatch h check | ackNoticeStartup h source | saveSettings h =>
    exact tenderMovesTo_judged fun u _ => .of_eq ⟨rfl, rfl, rfl⟩
  | fetchHits h => exact tenderMovesTo_request fun u => .of_eq ⟨rfl, rfl, rfl⟩
  | ackNoticeAged h => exact tenderMovesTo_request fun u => u.ackAged_quiet.moves
  | clearLinkFault h => exact tenderMovesTo_request fun u => .of_eq (by simp)
  -- requests on checks and lines
  | openCheck h table covers owner => exact execOpenCheck_tenderMovesTo h s table covers owner
  | transferCheck h check table owner => exact execTransferCheck_tenderMovesTo h s check table owner
  | voidCheck h check => exact execVoidCheck_tenderMovesTo h s check
  | closeCheck h check => exact execCloseCheck_tenderMovesTo h s check
  | addLines h check entries => exact execAddLines_tenderMovesTo h s check entries
  | voidLine h check line => exact execVoidLine_tenderMovesTo h s check line
  | discountLine h check line amount => exact execDiscountLine_tenderMovesTo h s check line amount
  | lockSplit h check => exact execLockSplit_tenderMovesTo h s check
  -- requests on tenders
  | startTender h check portion kind amount token =>
    exact execStartTender_tenderMovesTo h s check portion kind amount token
  | submitTip h check tender form figure => exact execSubmitTip_tenderMovesTo h s check tender form figure
  | withdrawTender h check tender => exact execWithdrawTender_tenderMovesTo h s check tender
  | fetchStatus h check tender =>
    exact tenderMovesTo_onCheck fun u _ _ _ => State.withTender_fst (.refl u) fun i _ _ =>
      judged_fst (.refl u) fun _ => .single (.collect i)
  | abandonTender h check tender =>
    exact tenderMovesTo_onCheck fun u slot _ _ => State.withTender_fst (.refl u) fun i _ _ =>
      judged_fst (.refl u) fun _ => (u.writeOff_quiet slot i).moves
  -- requests on holds, approvals, statuses and terminals
  | holdCheck h check => exact execHoldCheck_tenderMovesTo h s check
  | releaseCheck h check =>
    exact tenderMovesTo_onCheck fun u slot _ _ => judged_fst (.refl u) fun _ =>
      (u.removeHold_quiet slot .manager).moves
  | approve h check number => exact execApprove_tenderMovesTo h s check number
  | reject h check number =>
    exact tenderMovesTo_request fun u => State.withApproval_fst (.refl u) fun _ _ a =>
      judged_fst (.refl u) fun _ => (u.endApproval_quiet a 17).moves
  | fetchNextPending h => exact execFetchNextPending_tenderMovesTo h s
  | setTerminal h terminal role mask => exact execSetTerminal_tenderMovesTo h s terminal role mask
  | forgetTerminal h terminal => exact tenderMovesTo_judged fun u _ => u.releaseTerminal_tenderMoves terminal
  | loadSettings h source => exact execLoadSettings_tenderMovesTo h s source
  -- frames that are no well-formed request
  | malformedRequest h kind bodyLen =>
    simp only [execRequest, execMalformedRequest]
    split
    · exact tenderMovesTo_next (.refl s)
    · exact tenderMovesTo_malformed h kind _
  | tagZeroFrame port =>
    simp only [execRequest, execTagZeroFrame]
    split
    · exact tenderMovesTo_next (.of_eq (by simp))
    · exact tenderMovesTo_next (.refl s)
  | crcErrorFrame _ | frameLenError _ _ | frameIdleTimeout _ _ | requestOverrun _ | fhpTransaction _
  | outputFrameSent _ | result _ _ | nonResultFrame _ | exchangeTimeout _ | grant | noLinkCompletion
  | linkOkFall | linkOkRise | leaseExpiry _ _ | approvalExpiry _ | terminalSilence _ | checkAged _
  | secondTick | minuteTick | saveEnd _ | resetAssert _ | coldStart _ | warmStart _
  | clockAdvanceWithoutPower _ | retentionIndicatorLost => exact tenderMovesTo_next (.refl s)

end Sys2Proof.Machine
end

section
/-! Every command is a sequence of tender moves, so every step keeps what every tender move keeps. -/

namespace Sys2Proof.Machine

section
variable (s : State)

/-- An event that acts where its condition holds, and does nothing where it does not. -/
theorem tenderMovesTo_ite {s : State} {b : Prop} [Decidable b] {t : State} (h : TenderMoves s t) :
    TenderMovesTo s (.next (if b then t else s)) := by
  refine tenderMovesTo_next ?_
  split
  · exact h
  · exact .refl s

/-! ## Events at the acquirer -/

theorem State.raiseTimeouts_tenderMoves : TenderMoves s s.raiseTimeouts := by
  simp only [State.raiseTimeouts]
  split
  · exact .of_eq ⟨rfl, rfl, rfl⟩
  · split
    · have hfailed : TenderMoves s { s with aqp := { s.aqp with timeouts := s.setting 18, link := .failed } } :=
        .of_eq ⟨rfl, rfl, rfl⟩
      exact hfailed.trans (State.departUp_tenderMoves _)
    · exact .of_eq ⟨rfl, rfl, rfl⟩

theorem State.matchResult_tenderMoves (tag : Nat) (body : List Byte) : TenderMoves s (s.matchResult tag body) := by
  unfold State.matchResult
  split
  · exact .of_eq ⟨rfl, rfl, rfl⟩
  next j _ =>
    split
    · exact .of_eq ⟨rfl, rfl, rfl⟩
    next e _ =>
      split
      · exact .of_eq ⟨rfl, rfl, rfl⟩
      · have hended : TenderMoves s (s.setEntry j none) := .of_eq ⟨rfl, rfl, rfl⟩
        exact TenderMoves.flushPushes (hended.trans (State.endExchange_tenderMoves _ e.kind e.tender _))

theorem execResult_tenderMovesTo (tag : Nat) (body : List Byte) : TenderMovesTo s (execResult tag body s) := by
  refine tenderMovesTo_next ?_
  split
  · exact .refl s
  · split
    · exact .of_eq ⟨rfl, rfl, rfl⟩
    · have hcleared : TenderMoves s s.clearTimeouts := .of_eq ⟨rfl, rfl, rfl⟩
      exact hcleared.trans (State.matchResult_tenderMoves _ tag body)

theorem execExchangeTimeout_tenderMovesTo (tag : Nat) : TenderMovesTo s (execExchangeTimeout tag s) := by
  refine tenderMovesTo_next ?_
  split
  · exact .refl s
  next j _ =>
    split
    · exact .refl s
    next e _ =>
      split
      · have hended : TenderMoves s ((s.doneExchange tag).setEntry j none) := .of_eq ⟨rfl, rfl, rfl⟩
        exact TenderMoves.flushPushes ((hended.trans (State.raiseTimeouts_tenderMoves _)).trans
          (State.endExchange_tenderMoves _ e.kind e.tender .timeout))
      · exact .refl s

/-- A message that is sent marks its tender alone (07 R135). -/
theorem State.grantNeed_quiet (j : Nat) (n : Need) (x : Tender) : Quiet s (s.grantNeed j n x) := by
  unfold State.grantNeed
  refine Quiet.trans ?_ (.modTender ?_)
  · exact .of_eq ⟨rfl, rfl, rfl⟩
  · exact fun _ => ⟨rfl, rfl⟩

theorem execGrant_tenderMovesTo : TenderMovesTo s (execGrant s) := by
  refine tenderMovesTo_next ?_
  split
  · split
    · exact .refl s
    next n _ _ =>
      split
      · exact .refl s
      next x _ => exact (s.grantNeed_quiet _ n x).moves
  · exact .refl s

theorem execNoLinkCompletion_tenderMovesTo : TenderMovesTo s (execNoLinkCompletion s) := by
  refine tenderMovesTo_next ?_
  split
  · split
    · exact .refl s
    next n _ => exact (s.completeNoLink_tenderMoves n).flushPushes
  · exact .refl s

theorem execLinkOkFall_tenderMovesTo : TenderMovesTo s (execLinkOkFall s) := by
  refine tenderMovesTo_next ?_
  dsimp only
  split
  · have hdown : TenderMoves s ((s.setLinkOk false).setLink .down) := .of_eq ⟨rfl, rfl, rfl⟩
    exact TenderMoves.flushPushes (hdown.trans (State.departUp_tenderMoves _))
  · exact .of_eq ⟨rfl, rfl, rfl⟩

theorem execLinkOkRise_tenderMovesTo : TenderMovesTo s (execLinkOkRise s) := by
  refine tenderMovesTo_next (.of_eq ?_)
  dsimp only
  split <;> exact ⟨rfl, rfl, rfl⟩

/-! ## Events of time -/

theorem execLeaseExpiry_tenderMovesTo (check tender : Nat) : TenderMovesTo s (execLeaseExpiry check tender s) := by
  refine tenderMovesTo_next ?_
  split
  · exact .refl s
  next i _ =>
    split
    · exact .refl s
    · split
      · have hdone : TenderMoves s (s.doneLease i) := .of_eq ⟨rfl, rfl, rfl⟩
        exact TenderMoves.flushPushes (hdone.trans (State.expireLease_tenderMoves _ i))
      · exact .refl s

theorem execApprovalExpiry_tenderMovesTo (number : Nat) : TenderMovesTo s (execApprovalExpiry number s) := by
  refine tenderMovesTo_next ?_
  split
  · exact .refl s
  next a _ =>
    split
    · have hdone : Quiet s (s.doneApproval number) := .of_eq ⟨rfl, rfl, rfl⟩
      exact (hdone.trans (State.endApproval_quiet _ a 18)).moves.flushPushes
    · exact .refl s

theorem execCheckAged_tenderMovesTo (check : Nat) : TenderMovesTo s (execCheckAged check s) := by
  refine tenderMovesTo_next ?_
  split
  · exact .refl s
  next slot _ =>
    split
    · exact .refl s
    · split
      · have hdone : Quiet s (s.doneAge check) := .of_eq ⟨rfl, rfl, rfl⟩
        refine (hdone.trans (.modCheck ?_)).moves
        exact fun _ _ => rfl
      · exact .refl s

theorem execSecondTick_tenderMovesTo : TenderMovesTo s (execSecondTick s) := by
  refine tenderMovesTo_ite ?_
  dsimp only
  split <;> exact .of_eq ⟨rfl, rfl, rfl⟩

theorem State.passMinutes_tenderMoves (n : Nat) : TenderMoves s (s.passMinutes n) := by
  rw [State.passMinutes_frame]
  exact .of_eq ⟨rfl, rfl, rfl⟩

/-! ## Frames and transactions -/

theorem execFrameIdleTimeout_tenderMovesTo (port : StreamPort) (count : Nat) :
    TenderMovesTo s (execFrameIdleTimeout port count s) := by
  refine tenderMovesTo_next ?_
  split
  · exact .refl s
  · split
    · exact .of_eq (by simp)
    · split
      · exact .refl s
      · exact .of_eq (by simp)
    · exact .of_eq (by simp)
    · exact .of_eq (by simp)

theorem execOutputFrameSent_tenderMovesTo (port : StreamPort) : TenderMovesTo s (execOutputFrameSent port s) := by
  refine tenderMovesTo_next ?_
  split
  · exact .refl s
  · cases port with
    | flp =>
      dsimp only
      split
      · exact .refl s
      · exact .of_eq ⟨rfl, rfl, rfl⟩
    | aqp => exact .of_eq ⟨rfl, rfl, rfl⟩

theorem TenderMovesTo.orElse {s : State} {o : Out} (h : TenderMovesTo s o) : TenderMoves s (Out.orElse o s) := by
  cases o with
  | next t => exact h t rfl
  | fault _ | refused _ => exact .refl s

theorem State.takeIncoming_tenderMoves (bytes : List Byte) : TenderMoves s (s.takeIncoming bytes) := by
  unfold State.takeIncoming
  split
  · exact .refl s
  · exact .of_eq (by simp)
  · exact .of_eq (by simp)
  · split
    · exact .refl s
    next i _ => exact (execRequest_tenderMovesTo i s).orElse

theorem execFhpTransaction_tenderMovesTo (bytes : List Byte) : TenderMovesTo s (execFhpTransaction bytes s) := by
  refine tenderMovesTo_next ?_
  split
  · exact .refl s
  · split
    · exact .of_eq (by simp)
    · exact (s.takeIncoming_tenderMoves bytes).trans (TenderMoves.of_eq (by simp))

/-! ## Starts -/

theorem execWarmStart_tenderMovesTo (selLow : Bool) : TenderMovesTo s (execWarmStart selLow s) := by
  have hstarted : TenderMoves s ((s.startCommon selLow).latchStart .warm) := .of_eq ⟨rfl, rfl, rfl⟩
  exact tenderMovesTo_ite (hstarted.trans (State.recoverAll_tenderMoves _))

theorem execClockAdvanceWithoutPower_tenderMovesTo (seconds : Nat) :
    TenderMovesTo s (execClockAdvanceWithoutPower seconds s) := by
  have hpassed : TenderMoves s (if s.powered then s.passMinutes ((s.fck.second + seconds) / 60) else s) := by
    split
    · exact s.passMinutes_tenderMoves _
    · exact .refl s
  refine tenderMovesTo_next ?_
  split
  · exact hpassed.trans (TenderMoves.of_eq ⟨rfl, rfl, rfl⟩)
  · exact .refl s

end

/-! ## Every command -/

/-- Every command is a sequence of tender moves. -/
theorem exec_tenderMovesTo (i : Instr) (s : State) : TenderMovesTo s (exec i s) := by
  by_cases hi : (requestOf i).isSome = true
  · rw [exec_eq_execRequest hi]
    exact execRequest_tenderMovesTo i s
  cases i with
  -- frames and transactions
  | malformedRequest h kind bodyLen => exact execRequest_tenderMovesTo (.malformedRequest h kind bodyLen) s
  | tagZeroFrame port => exact execRequest_tenderMovesTo (.tagZeroFrame port) s
  | crcErrorFrame port | frameLenError port len | requestOverrun port => exact tenderMovesTo_ite (.of_eq (by simp))
  | frameIdleTimeout port count => exact execFrameIdleTimeout_tenderMovesTo s port count
  | fhpTransaction bytes => exact execFhpTransaction_tenderMovesTo s bytes
  | outputFrameSent port => exact execOutputFrameSent_tenderMovesTo s port
  -- the acquirer and its link
  | result tag body => exact execResult_tenderMovesTo s tag body
  | exchangeTimeout tag => exact execExchangeTimeout_tenderMovesTo s tag
  | grant => exact execGrant_tenderMovesTo s
  | noLinkCompletion => exact execNoLinkCompletion_tenderMovesTo s
  | linkOkFall => exact execLinkOkFall_tenderMovesTo s
  | linkOkRise => exact execLinkOkRise_tenderMovesTo s
  -- time
  | leaseExpiry check tender => exact execLeaseExpiry_tenderMovesTo s check tender
  | approvalExpiry number => exact execApprovalExpiry_tenderMovesTo s number
  | checkAged check => exact execCheckAged_tenderMovesTo s check
  | secondTick => exact execSecondTick_tenderMovesTo s
  | nonResultFrame _ | terminalSilence _ | minuteTick | saveEnd _ => exact tenderMovesTo_ite (.of_eq (by simp))
  -- resets and starts
  | resetAssert cause => cases cause <;> exact tenderMovesTo_next (.of_eq ⟨rfl, rfl, rfl⟩)
  | coldStart selLow => exact tenderMovesTo_ite (.single (.clear rfl rfl rfl))
  | warmStart selLow => exact execWarmStart_tenderMovesTo s selLow
  | clockAdvanceWithoutPower seconds => exact execClockAdvanceWithoutPower_tenderMovesTo s seconds
  | retentionIndicatorLost => exact tenderMovesTo_ite (.single (.clear rfl rfl rfl))
  | _ => exact absurd rfl hi

/-- Every step is a sequence of tender moves, once the command has left the queue. -/
theorem step_tenderMoves {s t : State} (h : step s = .next t) : TenderMoves s t := by
  unfold step at h
  split at h
  · obtain rfl := Host.Outcome.next.inj h
    exact .refl s
  next c rest _ =>
    have hleft : TenderMoves s { s with pending := rest } := .of_eq ⟨rfl, rfl, rfl⟩
    exact hleft.trans (exec_tenderMovesTo c _ t h)

/-- Settles O51: every tender move keeps the tender records and the tender lists matched. -/
theorem tendersStayListed : Obligations.TendersStayListed := fun _ _ hstep hs =>
  tendersListed_iff.mpr
    ((step_tenderMoves hstep).keeps (P := Listed) (fun _ _ hm => hm.listed) (tendersListed_iff.mp hs))

/-- Settles O52: every tender move keeps the pending-status list and the pending counts those of the tenders. -/
theorem statusesStayCounted : Obligations.StatusesStayCounted := fun _ _ hstep hs =>
  (step_tenderMoves hstep).keeps (P := StatusesCounted) (fun _ _ hm => hm.counted) hs

end Sys2Proof.Machine
end

section
/-! WITHDRAW TENDER, FETCH STATUS and ABANDON TENDER as they are carried out (06 R112, R113, R115, R116, R121; 01 R20). -/

namespace Sys2Proof.Machine

/-! ## Withdraws by the state of the tender (06 R113, R115) -/

section
variable {s : State} {i : Nat} {x : Tender} (hx : s.tender? i = some x)
include hx

theorem State.withdraw_of_tipWait (hwait : x.state = .tipWait) :
    s.withdraw i = s.tenderEvent i fun y => y.finish .withdrawn := by
  simp only [State.withdraw, hx, hwait]

theorem State.withdraw_of_authorized (hauth : x.state = .authorized) : s.withdraw i = s.reverseTender i id := by
  simp only [State.withdraw, hx, hauth]

theorem State.withdraw_of_sent {k : SubKind} (hstate : x.state = .authorizing k) (hsent : x.sent = true) :
    s.withdraw i = s.modTender i fun y => { y with withdrawRequested := true } := by
  simp only [State.withdraw, hx, hstate, hsent, if_true]

/-- An AUTH that was not sent leaves the wait queue, and its tender ends (06 R113). -/
theorem State.withdraw_of_auth (hstate : x.state = .authorizing .auth) (hsent : x.sent = false) :
    s.withdraw i = (s.removeNeed i).tenderEvent i fun y => y.finish .withdrawn := by
  simp only [State.withdraw, hx, hstate, hsent, if_false, Bool.false_eq_true]

/-- An INCREMENT that was not sent leaves the wait queue for a REVERSE (06 R113). -/
theorem State.withdraw_of_increment (hstate : x.state = .authorizing .increment) (hsent : x.sent = false) :
    s.withdraw i = (s.removeNeed i).reverseTender i id := by
  simp only [State.withdraw, hx, hstate, hsent, if_false, Bool.false_eq_true]

end

/-! ## The requests (06 R112, R116, R121) -/

section
variable {s : State} {h : Hdr} {number slot tender i : Nat} {c : Check} {x : Tender}

/-- What WITHDRAW TENDER does once nothing refuses it: a held check defers it (06 R112). -/
def State.takeWithdraw (s : State) (c : Check) (i : Nat) : State :=
  if c.held then s.modTender i fun y => { y with deferredWithdraw := true } else s.withdraw i

/-- A tender that a withdraw can act on: it is neither ended nor REVERSING nor CAPTURING, and no withdraw waits for the
end of its exchange (06 R112). -/
structure Tender.Withdrawable (x : Tender) : Prop where
  notReversing : x.state ≠ .reversing
  notCapturing : x.state ≠ .capturing
  live : x.state.isDone = false
  unasked : x.state.exchanging = true → x.sent = false ∨ x.withdrawRequested = false

theorem Tender.Withdrawable.of_idle (hstate : x.state = .tipWait ∨ x.state = .authorized) : x.Withdrawable := by
  rcases hstate with hstate | hstate <;> exact ⟨by simp [hstate], by simp [hstate], hstate ▸ rfl, by
    simp [hstate, TenderState.exchanging]⟩

theorem Tender.Withdrawable.of_authorizing {k : SubKind} (hstate : x.state = .authorizing k)
    (hunasked : x.sent = false ∨ x.withdrawRequested = false) : x.Withdrawable :=
  ⟨by simp [hstate], by simp [hstate], hstate ▸ rfl, fun _ => hunasked⟩

/-- No test of WITHDRAW TENDER refuses: the request is TAKEN, or DEFERRED on a held check (06 R112). -/
theorem withdrawTender_completes (hj : Judged s h .tender) (hn : Named s number slot c)
    (hx : NamedTender (s.hear h.term) c tender i x) (hmay : s.mayTender h.term x = true)
    (hstale : c.isStale h.ver = false) (hstatus : x.hasStatus = false) (hopen : c.closeRunning = false)
    (hfree : x.Withdrawable) :
    exec (.withdrawTender h number tender) s = .next
      ((fun t : State => t.finish h 0x42 (if c.held then .deferred else .taken) (t.tenderBody i))
        ((s.hear h.term).takeWithdraw c i)) := by
  obtain ⟨hreversing, hcapturing, hlive, hunasked⟩ := hfree
  refine congrArg Host.Outcome.next (request_eq_finish hj ?_)
  rw [withCheck_of_named (hn.hear _), withTender_of_named hx, judged_of_pass]
  · cases hheld : c.held <;> simp [State.takeWithdraw, hheld]
  · simp only [judge_eq_none_cons, judge_nil, State.hear_mayTender, hmay, hlive, hstale, hstatus, hopen, hreversing,
      hcapturing, Bool.not_true, decide_false, Bool.or_false, and_true, true_and, Bool.and_eq_false_iff]
    cases hexchanging : x.state.exchanging with
    | true => exact (hunasked hexchanging).imp .inr id
    | false => exact .inl (.inl rfl)

/-- FETCH STATUS answers with the status that it clears (06 R121, R123). -/
theorem fetchStatus_completes (hj : Judged s h .tender) (hn : Named s number slot c)
    (hx : NamedTender (s.hear h.term) c tender i x) (hmay : s.mayTender h.term x = true) :
    exec (.fetchStatus h number tender) s = .next
      (((s.hear h.term).collect i).finish h 0x43 .taken ((s.hear h.term).tenderBody i)) := by
  refine congrArg Host.Outcome.next (request_eq_finish hj ?_)
  rw [withCheck_of_named (hn.hear _), withTender_of_named hx, judged_of_pass]
  simp only [judge_eq_none_cons, judge_nil, State.hear_mayTender, hmay, Bool.not_true, and_true]

/-- ABANDON TENDER writes off a faulted tender of a check in CLOSE_FAULT (06 R116, 01 R20). -/
theorem abandonTender_completes (hj : Judged s h .floorServer) (hn : Named s number slot c)
    (hx : NamedTender s c tender i x) (hstale : c.isStale h.ver = false) (hfault : c.state = .closeFault)
    (hauth : x.state = .authorized) (hcapture : x.captureFault = true) :
    exec (.abandonTender h number tender) s = .next
      ((fun t : State => t.finish h 0x44 .taken (t.tenderBody i)) (s.writeOff slot i)) := by
  refine congrArg Host.Outcome.next (floorRequest_eq_finish hj ?_)
  rw [withCheck_of_named hn, withTender_of_named hx, judged_of_pass]
  simp [judge_eq_none_cons, judge_nil, hstale, hfault, hauth, hcapture, Tender.faulted, TenderState.isDone]

theorem State.writeOff_eq (hc : s.check? slot = some c) :
    s.writeOff slot i
      = (s.modTender i fun y => { y with state := .done .writtenOff, captureFault := false }).modCheck slot fun _ =>
          { c with version := nextVersion c.version, closeFault := c.closeFault.map (· - 1) } := by
  have hc' : (s.modTender i fun y => { y with state := .done .writtenOff, captureFault := false }).check? slot
      = some c := hc
  rw [State.writeOff, State.modCheck_congr hc']
  rfl

end

/-- Settles O16: a withdraw that nothing refuses does what the tender's state says, a status is reported as it is
cleared, and a faulted tender is written off with its check's count. -/
theorem tenderRequestsComplete : Obligations.TenderRequestsComplete := by
  refine ⟨fun s h number slot tender i c x hj hn hx hmay hstale hstatus hopen => ?_,
    fun s h number slot tender i c x hj hn hx hmay => fetchStatus_completes hj hn hx hmay,
    fun s h number slot tender i c x hj hn hx hstale hfault hauth hcapture => ?_⟩
  · have hacts := withdrawTender_completes hj hn hx hmay hstale hstatus hopen
    have htaken (hheld : c.held = false) (hfree : x.Withdrawable) :
        exec (.withdrawTender h number tender) s = .next
          ((fun t : State => t.finish h 0x42 .taken (t.tenderBody i)) ((s.hear h.term).withdraw i)) := by
      simpa [State.takeWithdraw, hheld] using hacts hfree
    obtain ⟨-, hrecord⟩ := hx
    refine ⟨fun hheld hreversing hcapturing hlive hunasked => ?_, fun hheld hwait => ?_, fun hheld hauth => ?_,
      fun hheld hauth hsent => ?_, fun hheld hincrement hsent => ?_, fun hheld hauthorizing hsent hunasked => ?_⟩
    · simpa [State.takeWithdraw, hheld] using hacts ⟨hreversing, hcapturing, hlive, hunasked⟩
    · rw [htaken hheld (.of_idle (.inl hwait)), State.withdraw_of_tipWait hrecord hwait]
    · rw [htaken hheld (.of_idle (.inr hauth)), State.withdraw_of_authorized hrecord hauth]
      rfl
    · rw [htaken hheld (.of_authorizing hauth (.inl hsent)), State.withdraw_of_auth hrecord hauth hsent]
    · rw [htaken hheld (.of_authorizing hincrement (.inl hsent)),
        State.withdraw_of_increment hrecord hincrement hsent]
      rfl
    · obtain ⟨k, hk⟩ := hauthorizing
      rw [htaken hheld (.of_authorizing hk (.inr hunasked)), State.withdraw_of_sent hrecord hk hsent]
  · rw [abandonTender_completes hj hn hx hstale hfault hauth hcapture, State.writeOff_eq hn.2]

end Sys2Proof.Machine
end

section
/-! What the end of an exchange makes of its tender and of the wait queue (06 R107 to R110), and what the end of a
capture makes of its check (06 R111; 01 R19). -/

namespace Sys2Proof.Machine

/-! ## Changes of one tender -/

/-- A change of tender i alone, which leaves the record y and places needs at the end of the wait queue. -/
structure Ended (s t : State) (i : Nat) (y : Tender) (placed : List Need) : Prop where
  record : t.tender? i = some y
  queue : t.aqp.queue = s.aqp.queue ++ placed
  others : ∀ j, j ≠ i → t.tender? j = s.tender? j

section
variable {s t : State} {i : Nat} {x y : Tender} {placed : List Need}

theorem Ended.of_modTender (hx : s.tender? i = some x) (f : Tender → Tender) : Ended s (s.modTender i f) i (f x) [] where
  record := by rw [State.modTender_tender?_self, hx, Option.map_some]
  queue := by simp
  others j hj := by rw [State.modTender_tender?, if_neg (Ne.symm hj)]

theorem Ended.of_tenderEvent (hx : s.tender? i = some x) (f : Tender → Tender) :
    Ended s (s.tenderEvent i f) i (f x) [] where
  record := by rw [State.tenderEvent_tender?, if_pos rfl, hx, Option.map_some]
  queue := by simp
  others j hj := by rw [State.tenderEvent_tender?, if_neg hj]

theorem Ended.thenStatus (h : Ended s t i y placed) (st : Status) :
    Ended s (t.setStatus i st) i (y.withStatus st) placed where
  record := by rw [State.setStatus_tender?, if_pos rfl, h.record, Option.map_some]
  queue := by rw [State.setStatus_aqp, h.queue]
  others j hj := by rw [State.setStatus_tender?, if_neg hj, h.others j hj]

/-- A need that is placed joins the end of the wait queue, and clears sent on its tender (06 R103). -/
theorem Ended.thenNeed (h : Ended s t i y placed) (k : NeedKind) :
    Ended s (t.placeNeed i k) i { y with sent := false } (placed ++ [{ tender := i, kind := k }]) where
  record := by rw [(placeNeed_spec t i k).2.1, h.record, Option.map_some]
  queue := by rw [(placeNeed_spec t i k).1, h.queue, List.append_assoc]
  others j hj := by rw [(placeNeed_spec t i k).2.2 j hj, h.others j hj]

/-- The wait queue after a change that places no need. -/
theorem Ended.queue_eq (h : Ended s t i y []) : t.aqp.queue = s.aqp.queue := by rw [h.queue, List.append_nil]

/-! ## The ends of AUTH, INCREMENT and REVERSE (06 R107 to R110) -/

section
variable (hx : s.tender? i = some x)
include hx

theorem State.reverseTender_ended (f : Tender → Tender) :
    Ended s (s.reverseTender i f) i (f x).toReversing [{ tender := i, kind := .reverse }] :=
  (Ended.of_tenderEvent hx fun y => (f y).toReversing).thenNeed .reverse

omit hx in
theorem Tender.settled_of_unasked (hunasked : y.withdrawRequested = false) :
    { y with state := .authorized, withdrawRequested := false, sent := false, heldTip := none } = y.toAuthorized := by
  simp [Tender.toAuthorized, hunasked]

/-- A tender whose withdraw was requested passes on into REVERSING, and the request is spent (06 R107, R109). -/
theorem State.settleAuthorized_ended {f : Tender → Tender} (hf : (f x).withdrawRequested = x.withdrawRequested) :
    Ended s (s.settleAuthorized i x.withdrawRequested f) i
      { f x with
        state := if x.withdrawRequested then .reversing else .authorized
        attempts := if x.withdrawRequested then 0 else (f x).attempts
        withdrawRequested := false, sent := false, heldTip := none }
      (if x.withdrawRequested then [{ tender := i, kind := .reverse }] else []) := by
  unfold State.settleAuthorized
  cases hasked : x.withdrawRequested with
  | true => exact State.reverseTender_ended hx f
  | false =>
    have hended : Ended s (s.tenderEvent i fun y => (f y).toAuthorized) i (f x).toAuthorized [] :=
      Ended.of_tenderEvent hx fun y => (f y).toAuthorized
    rw [← Tender.settled_of_unasked (hf.trans hasked)] at hended
    exact hended

theorem State.endExchange_auth (e : ExchangeEnd) : s.endExchange .auth i e = s.endAuth i x e := by
  simp only [State.endExchange, hx]

theorem State.endExchange_increment (e : ExchangeEnd) : s.endExchange .increment i e = s.endIncrement i x e := by
  simp only [State.endExchange, hx]

theorem State.endExchange_reverse (e : ExchangeEnd) : s.endExchange .reverse i e = s.endReverse i x e := by
  simp only [State.endExchange, hx]

theorem State.endExchange_capture (e : ExchangeEnd) : s.endExchange .capture i e = s.endCapture i x e := by
  simp only [State.endExchange, hx]

theorem State.endAuth_approved (ref code : Option (List Byte)) :
    Ended s (s.endExchange .auth i (.approved ref code)) i
      { x with state := if x.withdrawRequested then .reversing else .authorized
               attempts := if x.withdrawRequested then 0 else x.attempts
               withdrawRequested := false, sent := false, heldTip := none
               authTotal := x.authAmount, tolerance := some (s.setting 13), acqRef := ref, approvalCode := code }
      (if x.withdrawRequested then [{ tender := i, kind := .reverse }] else []) := by
  rw [State.endExchange_auth hx]
  exact State.settleAuthorized_ended hx rfl

theorem State.endAuth_refused :
    Ended s (s.endExchange .auth i .refused) i ((x.finish .declined).withStatus .declined) [] := by
  rw [State.endExchange_auth hx]
  exact (Ended.of_tenderEvent hx _).thenStatus .declined

theorem State.endAuth_noLink :
    Ended s (s.endExchange .auth i .noLink) i ((x.finish .noLink).withStatus .noLink) [] := by
  rw [State.endExchange_auth hx]
  exact (Ended.of_tenderEvent hx _).thenStatus .noLink

theorem State.endAuth_timeout :
    Ended s (s.endExchange .auth i .timeout) i (x.toReversing.withStatus .timeout)
      [{ tender := i, kind := .reverse }] := by
  rw [State.endExchange_auth hx]
  exact (State.reverseTender_ended hx id).thenStatus .timeout

theorem State.endIncrement_approved (ref code : Option (List Byte)) :
    Ended s (s.endExchange .increment i (.approved ref code)) i
      { x with state := if x.withdrawRequested then .reversing else .authorized
               attempts := if x.withdrawRequested then 0 else x.attempts
               withdrawRequested := false, sent := false, heldTip := none
               authTotal := some (x.amount + x.heldTip.getD x.tip), tip := x.heldTip.getD x.tip
               approvalCode := code }
      (if x.withdrawRequested then [{ tender := i, kind := .reverse }] else []) := by
  rw [State.endExchange_increment hx]
  exact State.settleAuthorized_ended hx rfl

theorem State.endIncrement_failed {e : ExchangeEnd} (he : e = .refused ∨ e = .timeout ∨ e = .noLink) :
    Ended s (s.endExchange .increment i e) i
      (Tender.withStatus { x with
          state := if x.withdrawRequested then .reversing else .authorized
          attempts := if x.withdrawRequested then 0 else x.attempts
          withdrawRequested := false, sent := false, heldTip := none } .tipRefused)
      (if x.withdrawRequested then [{ tender := i, kind := .reverse }] else []) := by
  have hsettled := (State.settleAuthorized_ended hx (f := id) rfl).thenStatus .tipRefused
  rw [State.endExchange_increment hx]
  rcases he with rfl | rfl | rfl <;> exact hsettled

theorem State.endReverse_approved (ref code : Option (List Byte)) :
    Ended s (s.endExchange .reverse i (.approved ref code)) i ((x.finish .reversed).withStatus .reversed) [] := by
  rw [State.endExchange_reverse hx]
  exact (Ended.of_tenderEvent hx _).thenStatus .reversed

/-- A REVERSE that fails is asked for again while attempts are left (06 R110). -/
theorem State.endReverse_again {e : ExchangeEnd} (he : e = .refused ∨ e = .timeout ∨ e = .noLink)
    (hleft : x.attempts + 1 < s.setting 17) :
    Ended s (s.endExchange .reverse i e) i { x with attempts := x.attempts + 1, sent := false }
      [{ tender := i, kind := .reverse }] := by
  have hplaced := (Ended.of_modTender hx fun y => { y with attempts := x.attempts + 1, sent := false }).thenNeed .reverse
  rw [List.nil_append] at hplaced
  rw [State.endExchange_reverse hx]
  rcases he with rfl | rfl | rfl <;> simpa only [State.endReverse, if_pos hleft] using hplaced

theorem State.endReverse_last {e : ExchangeEnd} (he : e = .refused ∨ e = .timeout ∨ e = .noLink)
    (hspent : s.setting 17 ≤ x.attempts + 1) :
    Ended s (s.endExchange .reverse i e) i
      (Tender.withStatus { x.finish .reverseUnconfirmed with attempts := x.attempts + 1 } .reverseUnconfirmed) [] := by
  have hended := (Ended.of_tenderEvent hx fun y => { y.finish .reverseUnconfirmed with
    attempts := x.attempts + 1 }).thenStatus .reverseUnconfirmed
  rw [State.endExchange_reverse hx]
  rcases he with rfl | rfl | rfl <;> simpa only [State.endReverse, if_neg (Nat.not_lt_of_le hspent)] using hended

omit hx in
/-- Every end is the approval or one of the three others. -/
theorem ExchangeEnd.failed_or_approved (e : ExchangeEnd) :
    (e = .refused ∨ e = .timeout ∨ e = .noLink) ∨ ∃ ref code, e = .approved ref code := by
  cases e <;> simp

/-- Only a capture can change a tender other than its own (06 R107 to R110). -/
theorem State.endExchange_others {k : NeedKind} (hk : k ≠ .capture) (e : ExchangeEnd) {j : Nat} (hj : j ≠ i) :
    (s.endExchange k i e).tender? j = s.tender? j := by
  cases k with
  | auth =>
    cases e with
    | approved ref code => exact (State.endAuth_approved hx ref code).others j hj
    | refused => exact (State.endAuth_refused hx).others j hj
    | timeout => exact (State.endAuth_timeout hx).others j hj
    | noLink => exact (State.endAuth_noLink hx).others j hj
  | increment =>
    rcases e.failed_or_approved with he | ⟨ref, code, rfl⟩
    · exact (State.endIncrement_failed hx he).others j hj
    · exact (State.endIncrement_approved hx ref code).others j hj
  | reverse =>
    rcases e.failed_or_approved with he | ⟨ref, code, rfl⟩
    · by_cases hleft : x.attempts + 1 < s.setting 17
      · exact (State.endReverse_again hx he hleft).others j hj
      · exact (State.endReverse_last hx he (Nat.le_of_not_lt hleft)).others j hj
    · exact (State.endReverse_approved hx ref code).others j hj
  | capture => exact absurd rfl hk

end
end

/-! ## The look at a CLOSING check after a capture (01 R19) -/

section
variable {s : State} {slot : Nat} {c : Check}

/-- The check after its last capture goes to CLOSE_FAULT with the number of its faulted tenders, and the event
CLOSE_FAULT is handed on (01 R19). -/
def State.closeFaulted (s : State) (slot : Nat) (c : Check) : State :=
  (s.modCheck slot fun c' => { c' with
    state := .closeFault, closeFault := some ((s.tendersOf c).countP Tender.faulted) }).handEvent c.number .closeFault

theorem State.closeFaulted_tdu : (s.closeFaulted slot c).tdu = s.tdu := by simp [State.closeFaulted]

theorem State.closeFaulted_tender? (i : Nat) : (s.closeFaulted slot c).tender? i = s.tender? i := by
  simp [State.closeFaulted]

theorem State.closeFaulted_check? (hc : s.check? slot = some c) :
    (s.closeFaulted slot c).check? slot
      = some { c with state := .closeFault, closeFault := some ((s.tendersOf c).countP Tender.faulted) } := by
  simp [State.closeFaulted, hc]

theorem State.closeFaulted_wnu {u : State} (hwnu : s.wnu = u.wnu) (hfmp : s.fmp = u.fmp) :
    (s.closeFaulted slot c).wnu = (u.handEvent c.number .closeFault).wnu :=
  State.handEvent_wnu_congr (u := s.modCheck slot _) hwnu hfmp _ _

/-- No tender of the check is CAPTURING. -/
def State.Captured (s : State) (c : Check) : Prop := ∀ y ∈ s.tendersOf c, y.state ≠ .capturing

section
variable (hc : s.check? slot = some c)
include hc

theorem State.closeStep_of_capturing {y : Tender} (hy : y ∈ s.tendersOf c) (hcapturing : y.state = .capturing) :
    s.closeStep slot = s := by
  have hany : (s.tendersOf c).any (fun t => decide (t.state = .capturing)) = true :=
    List.any_eq_true.mpr ⟨y, hy, decide_eq_true hcapturing⟩
  simp only [State.closeStep, hc]
  exact if_pos (.inr hany)

variable (hclosing : c.state = .closing) (hcaptured : s.Captured c)
include hclosing hcaptured

theorem State.closeStep_eq :
    s.closeStep slot = if (s.tendersOf c).countP Tender.faulted = 0 then s.retire slot else
      s.closeFaulted slot c := by
  have hnone : ¬(s.tendersOf c).any (fun t => decide (t.state = .capturing)) = true := fun hany => by
    obtain ⟨y, hy, hcapturing⟩ := List.any_eq_true.mp hany
    exact hcaptured y hy (of_decide_eq_true hcapturing)
  simp only [State.closeStep, hc]
  exact if_neg (not_or.mpr ⟨not_not_intro hclosing, hnone⟩)

theorem State.closeStep_of_clear (hclear : ∀ y ∈ s.tendersOf c, y.faulted = false) :
    s.closeStep slot = s.retire slot := by
  rw [State.closeStep_eq hc hclosing hcaptured, if_pos]
  exact List.countP_eq_zero.mpr fun y hy => by simp [hclear y hy]

theorem State.closeStep_of_faulted {y : Tender} (hy : y ∈ s.tendersOf c) (hfaulted : y.faulted = true) :
    s.closeStep slot = s.closeFaulted slot c := by
  rw [State.closeStep_eq hc hclosing hcaptured, if_neg]
  exact (List.countP_pos_iff.mpr ⟨y, hy, hfaulted⟩).ne'

end
end

/-! ## The end of a CAPTURE (06 R111) -/

/-- A tender after the end of its CAPTURE: CAPTURED, or back in AUTHORIZED with capture-fault (06 R111). -/
def ExchangeEnd.captured : ExchangeEnd → Tender → Tender
  | .approved _ _, x => x.finish .captured
  | _, x => { x.toAuthorized with captureFault := true }

section
variable {s : State} {i : Nat} {x : Tender} {c : Check} (e : ExchangeEnd) (hx : s.tender? i = some x)

theorem ExchangeEnd.captured_state_ne : (e.captured x).state ≠ .capturing := by
  cases e <;> simp [ExchangeEnd.captured, Tender.finish, Tender.toAuthorized]

theorem ExchangeEnd.captured_faulted {e : ExchangeEnd} (he : e = .refused ∨ e = .timeout ∨ e = .noLink) :
    (e.captured x).faulted = true := by
  rcases he with rfl | rfl | rfl <;> rfl

include hx

theorem State.endExchange_capture_eq :
    s.endExchange .capture i e = (s.tenderEvent i e.captured).closeStep x.slot := by
  rw [State.endExchange_capture hx]
  cases e <;> rfl

/-- The tenders of a check after the end of a capture among them. -/
theorem State.mem_tendersOf_captured {y : Tender} (hy : y ∈ (s.tenderEvent i e.captured).tendersOf c) :
    y = e.captured x ∨ ∃ j ∈ c.tenders, j ≠ i ∧ s.tender? j = some y := by
  obtain ⟨j, hj, hrecord⟩ := State.mem_tendersOf.mp hy
  have hended := Ended.of_tenderEvent hx e.captured
  by_cases hji : j = i
  · subst hji
    exact .inl (Option.some.inj (hrecord.symm.trans hended.record))
  · exact .inr ⟨j, hj, hji, (hended.others j hji).symm.trans hrecord⟩

theorem State.mem_tendersOf_other {j : Nat} {y : Tender} (hj : j ∈ c.tenders) (hji : j ≠ i)
    (hy : s.tender? j = some y) : y ∈ (s.tenderEvent i e.captured).tendersOf c :=
  State.mem_tendersOf.mpr ⟨j, hj, ((Ended.of_tenderEvent hx e.captured).others j hji).trans hy⟩

omit hx in
/-- A CLOSING check is not derived anew (01 R9). -/
theorem Check.restated_of_closing (hclosing : c.state = .closing) (p : Plan) (ts : List Tender) :
    c.restated p ts = c.state := if_neg (by simp [hclosing])

variable (hc : s.check? x.slot = some c) (hclosing : c.state = .closing)
include hc hclosing

/-- The end of a capture steps the version of the CLOSING check (05 R88). -/
theorem State.captured_check? :
    (s.tenderEvent i e.captured).check? x.slot = some (c.followed i x (e.captured x)) := by
  rw [State.tenderEvent_check? hx hc, Check.restated_of_closing hclosing]
  rfl

theorem State.captured_wnu : (s.tenderEvent i e.captured).wnu = s.wnu := by
  rw [State.tenderEvent_wnu hx hc (Check.restated_of_closing hclosing _ _).symm, if_pos rfl]

/-- While another capture of the check runs, the check stays CLOSING (01 R19). -/
theorem State.endCapture_running {j : Nat} {y : Tender} (hj : j ∈ c.tenders) (hji : j ≠ i)
    (hy : s.tender? j = some y) (hcapturing : y.state = .capturing) :
    s.endExchange .capture i e = s.tenderEvent i e.captured := by
  rw [State.endExchange_capture_eq e hx]
  exact State.closeStep_of_capturing (State.captured_check? e hx hc hclosing)
    (State.mem_tendersOf_other (c := c) e hx hj hji hy) hcapturing

variable (hlast : ∀ j ∈ c.tenders, j ≠ i → ∀ y, s.tender? j = some y → y.state ≠ .capturing)
include hlast

omit hc hclosing in
theorem State.captured_of_last : (s.tenderEvent i e.captured).Captured c := fun y hy => by
  rcases State.mem_tendersOf_captured e hx hy with rfl | ⟨j, hj, hji, hrecord⟩
  · exact e.captured_state_ne
  · exact hlast j hj hji y hrecord

/-- The last capture of a check without a faulted tender retires it (01 R19). -/
theorem State.endCapture_retires (hclear : ∀ y ∈ (s.tenderEvent i e.captured).tendersOf c, y.faulted = false) :
    s.endExchange .capture i e = (s.tenderEvent i e.captured).retire x.slot := by
  rw [State.endExchange_capture_eq e hx]
  exact State.closeStep_of_clear (c := c.followed i x (e.captured x)) (State.captured_check? e hx hc hclosing) hclosing
    (State.captured_of_last e hx hlast) hclear

/-- The last capture of a check with a faulted tender takes it to CLOSE_FAULT (01 R19). -/
theorem State.endCapture_faults {y : Tender} (hy : y ∈ (s.tenderEvent i e.captured).tendersOf c)
    (hfaulted : y.faulted = true) :
    s.endExchange .capture i e
      = (s.tenderEvent i e.captured).closeFaulted x.slot (c.followed i x (e.captured x)) := by
  rw [State.endExchange_capture_eq e hx]
  exact State.closeStep_of_faulted (c := c.followed i x (e.captured x)) (State.captured_check? e hx hc hclosing) hclosing
    (State.captured_of_last e hx hlast) hy hfaulted

end

/-- Settles O42: each end writes its tender and places its need, and the look at the CLOSING check follows from the
tenders that the end of the capture leaves. -/
theorem exchangeEndsChangeTender : Obligations.ExchangeEndsChangeTender := by
  refine ⟨fun s i x ref code hx => ⟨?_, ?_, ?_, ?_, ?_, fun e he => ?_, ?_,
      fun e he => ⟨fun hleft => ?_, fun hspent => ?_⟩, fun k e j hk hj => State.endExchange_others hx hk e hj,
      fun e => by rw [State.endExchange_capture hx, State.endCapture_aqp],
      fun c j y hc hclosing hj hji hy hcapturing => ?_⟩,
    fun s i x c ref code hx hc hclosing hi hlast => ⟨fun hclear => ?_, fun e he => ?_⟩⟩
  · have hended := State.endAuth_approved hx ref code
    exact ⟨hended.record, hended.queue⟩
  · have hended := State.endAuth_refused hx
    exact ⟨hended.record, hended.queue_eq⟩
  · have hended := State.endAuth_noLink hx
    exact ⟨hended.record, hended.queue_eq⟩
  · have hended := State.endAuth_timeout hx
    exact ⟨hended.record, hended.queue⟩
  · have hended := State.endIncrement_approved hx ref code
    exact ⟨hended.record, hended.queue⟩
  · have hended := State.endIncrement_failed hx he
    exact ⟨hended.record, hended.queue⟩
  · have hended := State.endReverse_approved hx ref code
    exact ⟨hended.record, hended.queue_eq⟩
  · have hended := State.endReverse_again hx he hleft
    exact ⟨hended.record, hended.queue⟩
  · have hended := State.endReverse_last hx he hspent
    exact ⟨hended.record, hended.queue_eq⟩
  · have hended := fun e : ExchangeEnd => Ended.of_tenderEvent hx e.captured
    have hstays := fun e => State.endCapture_running e hx hc hclosing hj hji hy hcapturing
    refine ⟨?_, fun e he => ?_, fun e => ?_⟩
    · rw [hstays]
      exact (hended (.approved ref code)).record
    · rw [hstays, (hended e).record]
      rcases he with rfl | rfl | rfl <;> rfl
    · rw [hstays]
      exact ⟨(hended e).others, State.captured_wnu e hx hc hclosing, _, State.captured_check? e hx hc hclosing, rfl⟩
  · have hretires := State.endCapture_retires (.approved ref code) hx hc hclosing hlast fun y hy => by
      rcases State.mem_tendersOf_captured _ hx hy with rfl | ⟨j, hj, hji, hrecord⟩
      · rfl
      · exact hclear j hj hji y hrecord
    have hlive := State.captured_check? (.approved ref code) hx hc hclosing
    rw [hretires, State.retire_check? hlive, State.retire_tender? hlive]
    exact ⟨if_pos rfl, if_pos hi⟩
  · obtain ⟨y, hy, hfaulted⟩ : ∃ y ∈ (s.tenderEvent i e.captured).tendersOf c, y.faulted = true := by
      rcases he with ⟨rfl, j, hj, hji, y, hrecord, hfaulted⟩ | he
      · exact ⟨y, State.mem_tendersOf_other _ hx hj hji hrecord, hfaulted⟩
      · exact ⟨_, State.mem_tendersOf.mpr ⟨i, hi, (Ended.of_tenderEvent hx e.captured).record⟩, e.captured_faulted he⟩
    have hended := Ended.of_tenderEvent hx e.captured
    have hlive := State.captured_check? e hx hc hclosing
    rw [State.endCapture_faults e hx hc hclosing hlast hy hfaulted, State.closeFaulted_check? hlive,
      State.closeFaulted_wnu (State.captured_wnu e hx hc hclosing) (State.tenderEvent_fmp s i _),
      State.closeFaulted_tender?, hended.record, State.tendersOf_congr State.closeFaulted_tdu]
    refine ⟨_, rfl, rfl, rfl, rfl, rfl, ?_, fun m hm => ?_, rfl⟩
    · rcases he with ⟨rfl, -⟩ | rfl | rfl | rfl
      · rw [if_pos rfl]
        rfl
      · rfl
      · rfl
      · rfl
    · rw [State.closeFaulted_tender?, hended.others m hm]

end Sys2Proof.Machine
end

section
/-! The exchange table and its tags (07 R134): a command that ends no exchange and grants none leaves both alone, and the
others free an entry, take one under a tag not in use, or clear the table. -/

namespace Sys2Proof.Machine

/-! ## Entries and tags -/

/-- The entries in use have distinct tags from 1 to 255, in a table of 8. -/
structure Tagged (l : List (Option Exchange)) : Prop where
  length : l.length = Config.exchangeEntries
  distinct : ∀ (i j : Nat) (d e : Exchange), l[i]?.join = some d → l[j]?.join = some e → d.tag = e.tag → i = j
  range : ∀ e ∈ l.filterMap id, 1 ≤ e.tag ∧ e.tag ≤ 255

theorem exchangesTagged_iff {s : State} :
    ExchangesTagged s ↔ Tagged s.aqp.entries ∧ 1 ≤ s.aqp.tagCounter ∧ s.aqp.tagCounter ≤ 255 := by
  constructor
  · rintro ⟨hlength, hnodup, hrange, hcounter⟩
    exact ⟨⟨hlength, (nodup_filterMap_map_iff _ _).mp hnodup, hrange⟩, hcounter⟩
  · rintro ⟨h, hcounter⟩
    exact ⟨h.length, (nodup_filterMap_map_iff _ _).mpr h.distinct, h.range, hcounter⟩

/-- An entry of a table in which one entry has been written is the one written or one of the old. -/
theorem set_join_eq_some {α : Type} {l : List (Option α)} {i j : Nat} {o : Option α} {a : α}
    (h : (l.set j o)[i]?.join = some a) : i = j ∧ o = some a ∨ i ≠ j ∧ l[i]?.join = some a := by
  by_cases hij : i = j
  · subst hij
    rw [List.getElem?_set_self'] at h
    cases hl : l[i]? with
    | none => simp [hl] at h
    | some p => exact .inl ⟨rfl, by simpa [hl] using h⟩
  · rw [List.getElem?_set_ne (Ne.symm hij)] at h
    exact .inr ⟨hij, h⟩

theorem mem_filterMap_id_set {α : Type} {l : List (Option α)} {j : Nat} {o : Option α} {a : α}
    (h : a ∈ (l.set j o).filterMap id) : o = some a ∨ a ∈ l.filterMap id := by
  obtain ⟨p, hp, rfl⟩ : ∃ p ∈ l.set j o, p = some a := by simpa using h
  obtain hp | rfl := List.mem_or_eq_of_mem_set hp
  · exact .inr (by simpa using hp)
  · exact .inl rfl

/-- The freed entry's tag is no longer in use (07 R136, R137). -/
theorem Tagged.free {l : List (Option Exchange)} (h : Tagged l) (j : Nat) : Tagged (l.set j none) where
  length := (List.length_set ..).trans h.length
  distinct i k d e hd he htag := by
    obtain ⟨-, hnone⟩ | ⟨-, hd⟩ := set_join_eq_some hd
    · cases hnone
    · obtain ⟨-, hnone⟩ | ⟨-, he⟩ := set_join_eq_some he
      · cases hnone
      · exact h.distinct i k d e hd he htag
  range e he := (mem_filterMap_id_set he).elim nofun (h.range e)

/-- An entry may be taken under any tag of the range that is not in use (07 R134). -/
theorem Tagged.take {l : List (Option Exchange)} (h : Tagged l) (j : Nat) {e : Exchange}
    (hfresh : e.tag ∉ (l.filterMap id).map Exchange.tag) (hrange : 1 ≤ e.tag ∧ e.tag ≤ 255) :
    Tagged (l.set j (some e)) := by
  have hother : ∀ {i : Nat} {d : Exchange}, l[i]?.join = some d → d.tag ≠ e.tag := by
    intro i d hd htag
    rw [Option.join_eq_some_iff] at hd
    exact hfresh (htag ▸ List.mem_map_of_mem (by simpa using List.mem_of_getElem? hd))
  refine ⟨(List.length_set ..).trans h.length, fun i k d f hd hf htag => ?_, fun d hd => ?_⟩
  · obtain ⟨rfl, hdnew⟩ | ⟨-, hdold⟩ := set_join_eq_some hd <;>
      obtain ⟨rfl, hfnew⟩ | ⟨-, hfold⟩ := set_join_eq_some hf
    · rfl
    · exact absurd (Option.some.inj hdnew ▸ htag.symm) (hother hfold)
    · exact absurd (Option.some.inj hfnew ▸ htag) (hother hdold)
    · exact h.distinct i k d f hdold hfold htag
  · obtain hnew | hold := mem_filterMap_id_set hd
    · exact Option.some.inj hnew ▸ hrange
    · exact h.range d hold

theorem tagged_reset : Tagged State.reset.aqp.entries := (exchangesTagged_iff.mp State.reset_exchangesTagged).1

/-- The next tag is in range and not in use: at most 8 of the 255 tags are (07 R134). -/
theorem State.nextTag_spec {s : State} (h : ExchangesTagged s) :
    s.nextTag ∉ (s.aqp.entries.filterMap id).map Exchange.tag ∧ 1 ≤ s.nextTag ∧ s.nextTag ≤ 255 := by
  obtain ⟨hlength, -, -, hlow, hhigh⟩ := h
  have hused : ((s.aqp.entries.filterMap id).map Exchange.tag).length < 255 := by
    have hle := List.length_filterMap_le id s.aqp.entries
    rw [hlength] at hle
    rw [List.length_map]
    exact hle.trans_lt (by decide)
  obtain ⟨k, heq, hfresh, -, hrange⟩ := firstFreeNumber _ 255 s.aqp.tagCounter hlow hhigh hused
  rw [State.nextTag, heq]
  exact ⟨hfresh, hrange⟩

/-! ## Commands that leave the exchanges alone -/

/-- The exchange entries and the tag counter are the same in both states. -/
def SameExchanges (s t : State) : Prop := Part.exchanges.same s t

section
variable {s t u : State}

theorem SameExchanges.of_aqp (h : t.aqp = s.aqp) : SameExchanges s t := ⟨by rw [h], by rw [h]⟩

theorem SameExchanges.refl (s : State) : SameExchanges s s := ⟨rfl, rfl⟩

theorem SameExchanges.trans (hst : SameExchanges s t) (htu : SameExchanges t u) : SameExchanges s u :=
  ⟨htu.1.trans hst.1, htu.2.trans hst.2⟩

theorem SameExchanges.tagged (h : SameExchanges s t) (hs : ExchangesTagged s) : ExchangesTagged t := by
  obtain ⟨hentries, hcounter⟩ := h
  rw [exchangesTagged_iff, hentries, hcounter]
  exact exchangesTagged_iff.mp hs

theorem State.evaluate_sameExchanges (s : State) (slot : Nat) (c : Check) (change : Parked) :
    SameExchanges s ((s.evaluate slot c change).state s) := by
  have hline : ∀ l changed, SameExchanges s ((s.applyLine slot l changed).state s) := by
    intro l changed
    unfold State.applyLine
    split
    · split <;> exact .of_aqp rfl
    · exact .refl s
  cases change with
  | voidLine n | discountLine n d =>
    simp only [State.evaluate]
    split
    · exact .refl s
    · exact hline _ _
  | voidCheck =>
    simp only [State.evaluate]
    split
    · exact .refl s
    · split
      · exact .refl s
      · exact .of_aqp (s.retire_aqp slot)
  | transferCheck table owner =>
    simp only [State.evaluate, State.applyTransfer]
    split
    · exact .refl s
    · split
      · exact .refl s
      · split
        · exact .refl s
        · exact .of_aqp (s.moveCheck_aqp ..)

theorem State.approveRecord_sameExchanges (s : State) (a : Approval) (c : Check) :
    SameExchanges s (s.approveRecord a c).1 := by
  have heval := (s.dropApproval a).evaluate_sameExchanges a.slot c a.change
  unfold State.approveRecord
  dsimp only
  cases he : (s.dropApproval a).evaluate a.slot c a.change with
  | refused code | applied t => rw [he] at heval; exact heval.trans ⟨by simp [Evaluation.state], by simp [Evaluation.state]⟩
  | retired t => rw [he] at heval; exact heval.trans (.of_aqp (by simp [Evaluation.state]))

/-- The next state of a meaning has the exchanges of the state it met. -/
def SameExchangesTo (s : State) (o : Out) : Prop := ∀ t, o = .next t → SameExchanges s t

theorem sameExchangesTo_next (h : SameExchanges s t) : SameExchangesTo s (.next t) := by
  intro u hu
  obtain rfl := Host.Outcome.next.inj hu
  exact h

/-- An event that leaves the exchanges alone where its condition holds, and everything where it does not. -/
theorem sameExchangesTo_ite {b : Prop} [Decidable b] (h : SameExchanges s t) :
    SameExchangesTo s (.next (if b then t else s)) := by
  refine sameExchangesTo_next ?_
  split
  · exact h
  · exact .refl s

/-! ## Requests -/

section
variable {h : Hdr} {kind n : Nat} {cls : ReqClass}

theorem State.frame_sameExchanges {act : State → State × Reply} (hact : ∀ u, SameExchanges u (act u).1) :
    SameExchanges s (s.frame h kind act) := by
  unfold State.frame
  split
  · exact .refl s
  · exact .of_aqp (State.countFraming_aqp ..)
  · exact .of_aqp (State.countOverrun_aqp ..)
  · exact .of_aqp (State.answer_aqp ..)
  · exact (SameExchanges.of_aqp (s.hear_aqp h.term)).trans ((hact _).trans (.of_aqp (by simp)))

theorem sameExchangesTo_request {act : State → State × Reply} (hact : ∀ u, SameExchanges u (act u).1) :
    SameExchangesTo s (.next (s.request h kind cls act)) := by
  refine sameExchangesTo_next (State.frame_sameExchanges fun u => ?_)
  split
  · exact hact u
  · exact .refl u

/-- A request that leaves the exchanges alone, whatever its judgement. -/
theorem sameExchangesTo_judged {tests : State → List (Bool × Reply)} {act : State → State × Reply}
    (hact : ∀ u, SameExchanges u (act u).1) :
    SameExchangesTo s (.next (s.request h kind cls fun u => judged u (tests u) (act u))) :=
  sameExchangesTo_request fun u => judged_fst (.refl u) fun _ => hact u

/-- A request on a check is judged and acted on with the check in its slot. -/
theorem sameExchangesTo_onCheck {k : State → Nat → Check → State × Reply}
    (hk : ∀ u slot c, SameExchanges u (k u slot c).1) :
    SameExchangesTo s (.next (s.request h kind cls fun u => u.withCheck n (k u))) :=
  sameExchangesTo_request fun u => State.withCheck_fst (.refl u) fun slot c _ => hk u slot c

/-- What both branches of a request leave alone, the request leaves alone. -/
theorem SameExchanges.ite {p : Prop} [Decidable p] {x y : State × Reply} (hx : SameExchanges s x.1)
    (hy : SameExchanges s y.1) : SameExchanges s (if p then x else y).1 := by
  split
  · exact hx
  · exact hy

theorem sameExchangesTo_malformed (h : Hdr) (kind reason : Nat) :
    SameExchangesTo s (.next (s.malformedFrame h kind reason)) :=
  sameExchangesTo_next (State.frame_sameExchanges fun u => .refl u)

end

/-- No request starts or ends an exchange. -/
theorem execRequest_sameExchangesTo (i : Instr) (s : State) : SameExchangesTo s (execRequest i s) := by
  cases i with
  -- requests that leave the Acquirer Port alone
  | hello h | readPartStatus h => exact sameExchangesTo_request fun u => .refl u
  | readCheck h check | readLines h check first last =>
    exact sameExchangesTo_onCheck fun u _ _ => judged_fst (.refl u) fun _ => .refl u
  | readTable h table | readSetting h number => exact sameExchangesTo_judged fun u => .refl u
  | openCheck h table covers owner => exact sameExchangesTo_judged fun u => .of_aqp (State.placeCheck_aqp ..)
  | updateCheck h check covers =>
    exact sameExchangesTo_onCheck fun u _ _ => judged_fst (.refl u) fun _ => .of_aqp (State.writeFigures_aqp ..)
  | presentCheck h check =>
    exact sameExchangesTo_onCheck fun u _ _ => judged_fst (.refl u) fun _ => .of_aqp (State.handEvent_aqp ..)
  | setSplit h check kind count | setPortion h check portion amount | setWatch h check mask =>
    exact sameExchangesTo_onCheck fun u _ _ => judged_fst (.refl u) fun _ => .of_aqp rfl
  | setTable h first last sect | setSetting h number value | setClock h day minute =>
    exact sameExchangesTo_judged fun u => .of_aqp rfl
  | dropWatch h check | ackNoticeStartup h source | saveSettings h =>
    exact sameExchangesTo_judged fun u => .of_aqp rfl
  | fetchHits h | ackNoticeAged h => exact sameExchangesTo_request fun u => .of_aqp rfl
  | transferCheck h check table owner =>
    exact sameExchangesTo_onCheck fun u slot c => judged_fst (.refl u) fun _ =>
      .ite (.of_aqp (State.park_aqp ..)) (.of_aqp (u.moveCheck_aqp slot c table owner))
  | voidCheck h check =>
    exact sameExchangesTo_onCheck fun u slot _ => judged_fst (.refl u) fun _ =>
      .ite (.of_aqp (State.park_aqp ..)) (.of_aqp (u.retire_aqp slot))
  | addLines h check entries =>
    simp only [execRequest, execAddLines]
    split
    · exact sameExchangesTo_malformed h _ _
    · exact sameExchangesTo_onCheck fun u _ _ => judged_fst (.refl u) fun _ => .of_aqp (State.takeLines_aqp ..)
  | voidLine h check line | discountLine h check line amount =>
    refine sameExchangesTo_onCheck fun u _ _ => .ite (.refl u) ?_
    split
    · exact .refl u
    · exact judged_fst (.refl u) fun _ => .ite (.of_aqp (State.park_aqp ..)) (.of_aqp (State.writeFigures_aqp ..))
  | lockSplit h check =>
    refine sameExchangesTo_onCheck fun u _ _ => .ite (.refl u) (.ite ?_ (judged_fst (.refl u) fun _ => .of_aqp rfl))
    dsimp only
    split <;> exact .of_aqp rfl
  | fetchStatus h check tender =>
    exact sameExchangesTo_onCheck fun u _ _ => State.withTender_fst (.refl u) fun i _ _ =>
      judged_fst (.refl u) fun _ => .of_aqp (u.collect_aqp i)
  | abandonTender h check tender =>
    exact sameExchangesTo_onCheck fun u slot _ => State.withTender_fst (.refl u) fun i _ _ =>
      judged_fst (.refl u) fun _ => .of_aqp (State.writeOff_aqp u slot i)
  | holdCheck h check =>
    refine sameExchangesTo_onCheck fun u slot _ => judged_fst (.refl u) fun _ => ?_
    dsimp only [State.takenSummary]
    split
    · exact .refl u
    · exact .of_aqp (u.addHold_aqp slot .manager)
  | fetchNextPending h =>
    refine sameExchangesTo_request fun u => ?_
    split
    · exact .refl u
    · exact .of_aqp (State.collect_aqp ..)
  | setTerminal h terminal role mask => exact sameExchangesTo_judged fun u => .of_aqp (by simp)
  | forgetTerminal h terminal => exact sameExchangesTo_judged fun u => .of_aqp (u.releaseTerminal_aqp terminal)
  | loadSettings h source =>
    refine sameExchangesTo_request fun u => ?_
    split
    · exact .refl u
    · split
      · exact .refl u
      · exact judged_fst (.refl u) fun _ => .of_aqp (State.loadCopy_aqp ..)
  -- requests that reach the link or the wait queue
  | clearLinkFault h =>
    exact sameExchangesTo_request fun u => ⟨u.clearFault_aqp_entries, u.clearFault_aqp_tagCounter⟩
  | closeCheck h check =>
    exact sameExchangesTo_onCheck fun u slot _ => judged_fst (.refl u) fun _ =>
      .ite (.of_aqp (u.retire_aqp slot)) ⟨State.startClose_aqp_entries .., State.startClose_aqp_tagCounter ..⟩
  | startTender h check portion kind amount token =>
    simp only [execRequest, execStartTender]
    split
    · exact sameExchangesTo_malformed h _ _
    · exact sameExchangesTo_onCheck fun u _ _ => judged_fst (.refl u) fun _ =>
        ⟨State.startTender_aqp_entries .., State.startTender_aqp_tagCounter ..⟩
  | submitTip h check tender form figure =>
    exact sameExchangesTo_onCheck fun u _ _ => .ite (.refl u) (State.withTender_fst (.refl u) fun _ _ _ =>
      judged_fst (.refl u) fun _ => ⟨State.takeTip_aqp_entries .., State.takeTip_aqp_tagCounter ..⟩)
  | withdrawTender h check tender =>
    exact sameExchangesTo_onCheck fun u _ _ => State.withTender_fst (.refl u) fun i _ _ =>
      judged_fst (.refl u) fun _ => .ite (.of_aqp rfl) ⟨u.withdraw_aqp_entries i, u.withdraw_aqp_tagCounter i⟩
  | releaseCheck h check =>
    exact sameExchangesTo_onCheck fun u slot _ => judged_fst (.refl u) fun _ =>
      ⟨State.removeHold_aqp_entries .., State.removeHold_aqp_tagCounter ..⟩
  | approve h check number =>
    exact sameExchangesTo_request fun u => State.withApproval_fst (.refl u) fun _ c a =>
      judged_fst (.refl u) fun _ => u.approveRecord_sameExchanges a c
  | reject h check number =>
    exact sameExchangesTo_request fun u => State.withApproval_fst (.refl u) fun _ _ a =>
      judged_fst (.refl u) fun _ => ⟨State.endApproval_aqp_entries .., State.endApproval_aqp_tagCounter ..⟩
  -- frames that are no well-formed request
  | malformedRequest h kind bodyLen =>
    simp only [execRequest, execMalformedRequest]
    split
    · exact sameExchangesTo_next (.refl s)
    · exact sameExchangesTo_malformed h kind _
  | tagZeroFrame port => exact sameExchangesTo_ite (.of_aqp (State.countFraming_aqp ..))
  | crcErrorFrame _ | frameLenError _ _ | frameIdleTimeout _ _ | requestOverrun _ | fhpTransaction _
  | outputFrameSent _ | result _ _ | nonResultFrame _ | exchangeTimeout _ | grant | noLinkCompletion
  | linkOkFall | linkOkRise | leaseExpiry _ _ | approvalExpiry _ | terminalSilence _ | checkAged _
  | secondTick | minuteTick | saveEnd _ | resetAssert _ | coldStart _ | warmStart _
  | clockAdvanceWithoutPower _ | retentionIndicatorLost => exact sameExchangesTo_next (.refl s)

end
end Sys2Proof.Machine
end

section
/-! Every event keeps the exchange entries under distinct tags, and so does every step (07 R134). -/

namespace Sys2Proof.Machine

section
variable {s t : State}

/-! ## Events that leave the exchanges alone -/

theorem State.departUp_sameExchanges (s : State) : SameExchanges s s.departUp :=
  ⟨foldl_keeps (fun u : State => u.aqp.entries) _ (by simp) _ _,
    foldl_keeps (fun u : State => u.aqp.tagCounter) _ (by simp) _ _⟩

theorem State.raiseTimeouts_sameExchanges (s : State) : SameExchanges s s.raiseTimeouts := by
  simp only [State.raiseTimeouts]
  split
  · exact ⟨rfl, rfl⟩
  · split
    · exact State.departUp_sameExchanges { s with aqp := { s.aqp with timeouts := s.setting 18, link := .failed } }
    · exact ⟨rfl, rfl⟩

theorem execFhpTransaction_sameExchangesTo (s : State) (bytes : List Byte) :
    SameExchangesTo s (execFhpTransaction bytes s) := by
  have htaken : SameExchanges s (s.takeIncoming bytes) := by
    unfold State.takeIncoming
    split
    · exact .refl s
    · exact .of_aqp rfl
    · exact .of_aqp rfl
    · split
      · exact .refl s
      next i _ =>
        cases ho : execRequest i s with
        | next t => exact execRequest_sameExchangesTo i s t ho
        | fault _ | refused _ => exact .refl s
  refine sameExchangesTo_next ?_
  split
  · exact .refl s
  · split
    · exact .of_aqp rfl
    · exact htaken.trans (.of_aqp (by simp))

theorem execFrameIdleTimeout_sameExchangesTo (s : State) (port : StreamPort) (count : Nat) :
    SameExchangesTo s (execFrameIdleTimeout port count s) := by
  refine sameExchangesTo_next ?_
  split
  · exact .refl s
  · split
    · exact .of_aqp (State.assemblerIdle_aqp ..)
    · split
      · exact .refl s
      · exact .of_aqp (State.framingError_aqp ..)
    · exact .of_aqp (State.framingError_aqp ..)
    · exact .of_aqp (State.framingError_aqp ..)

theorem execOutputFrameSent_sameExchangesTo (s : State) (port : StreamPort) :
    SameExchangesTo s (execOutputFrameSent port s) := by
  refine sameExchangesTo_next ?_
  split
  · exact .refl s
  · cases port with
    | flp => dsimp only; split <;> exact .of_aqp rfl
    | aqp => exact .of_aqp rfl

theorem execNoLinkCompletion_sameExchangesTo (s : State) : SameExchangesTo s (execNoLinkCompletion s) := by
  refine sameExchangesTo_ite ?_
  split
  · exact .refl s
  · exact ⟨by simp, by simp⟩

theorem execLinkOkFall_sameExchangesTo (s : State) : SameExchangesTo s (execLinkOkFall s) := by
  refine sameExchangesTo_next ?_
  dsimp only
  split
  · exact State.departUp_sameExchanges ((s.setLinkOk false).setLink .down)
  · exact ⟨rfl, rfl⟩

theorem execLinkOkRise_sameExchangesTo (s : State) : SameExchangesTo s (execLinkOkRise s) := by
  refine sameExchangesTo_next ?_
  dsimp only
  split <;> exact ⟨rfl, rfl⟩

theorem execLeaseExpiry_sameExchangesTo (s : State) (check tender : Nat) :
    SameExchangesTo s (execLeaseExpiry check tender s) := by
  refine sameExchangesTo_next ?_
  split
  · exact .refl s
  · split
    · exact .refl s
    · split
      · exact .of_aqp (by simp)
      · exact .refl s

theorem execApprovalExpiry_sameExchangesTo (s : State) (number : Nat) :
    SameExchangesTo s (execApprovalExpiry number s) := by
  refine sameExchangesTo_next ?_
  split
  · exact .refl s
  · split
    · exact ⟨by simp, by simp⟩
    · exact .refl s

theorem execCheckAged_sameExchangesTo (s : State) (check : Nat) : SameExchangesTo s (execCheckAged check s) := by
  refine sameExchangesTo_next ?_
  split
  · exact .refl s
  · split
    · exact .refl s
    · split <;> exact .of_aqp rfl

theorem execSecondTick_sameExchangesTo (s : State) : SameExchangesTo s (execSecondTick s) := by
  refine sameExchangesTo_ite ?_
  dsimp only
  split <;> exact .of_aqp rfl

theorem execClockAdvanceWithoutPower_sameExchangesTo (s : State) (seconds : Nat) :
    SameExchangesTo s (execClockAdvanceWithoutPower seconds s) := by
  refine sameExchangesTo_ite (.of_aqp ?_)
  dsimp only
  split
  · rw [State.passMinutes_frame]
  · rfl

/-- A command outside those that the table of frames names for the exchanges leaves them alone (07 R134). -/
theorem exec_sameExchangesTo (i : Instr) (s : State) (hi : touches .exchanges i = false) :
    SameExchangesTo s (exec i s) := by
  by_cases hrequest : (requestOf i).isSome = true
  · rw [exec_eq_execRequest hrequest]
    exact execRequest_sameExchangesTo i s
  cases i with
  | malformedRequest h kind bodyLen => exact execRequest_sameExchangesTo (.malformedRequest h kind bodyLen) s
  | tagZeroFrame port => exact execRequest_sameExchangesTo (.tagZeroFrame port) s
  | crcErrorFrame port => exact sameExchangesTo_ite (.of_aqp (State.countCrc_aqp ..))
  | frameLenError port len => exact sameExchangesTo_ite (.of_aqp (State.framingError_aqp ..))
  | frameIdleTimeout port count => exact execFrameIdleTimeout_sameExchangesTo s port count
  | requestOverrun port => exact sameExchangesTo_ite (.of_aqp (State.countOverrun_aqp ..))
  | fhpTransaction bytes => exact execFhpTransaction_sameExchangesTo s bytes
  | outputFrameSent port => exact execOutputFrameSent_sameExchangesTo s port
  | nonResultFrame kind => exact sameExchangesTo_ite ⟨rfl, rfl⟩
  | noLinkCompletion => exact execNoLinkCompletion_sameExchangesTo s
  | linkOkFall => exact execLinkOkFall_sameExchangesTo s
  | linkOkRise => exact execLinkOkRise_sameExchangesTo s
  | leaseExpiry check tender => exact execLeaseExpiry_sameExchangesTo s check tender
  | approvalExpiry number => exact execApprovalExpiry_sameExchangesTo s number
  | terminalSilence terminal | minuteTick | saveEnd matched => exact sameExchangesTo_ite (.of_aqp rfl)
  | checkAged check => exact execCheckAged_sameExchangesTo s check
  | secondTick => exact execSecondTick_sameExchangesTo s
  | resetAssert cause => cases cause <;> exact sameExchangesTo_next (.of_aqp rfl)
  | clockAdvanceWithoutPower seconds => exact execClockAdvanceWithoutPower_sameExchangesTo s seconds
  | result tag body | exchangeTimeout tag | grant => cases hi
  | coldStart selLow | warmStart selLow | retentionIndicatorLost => cases hi
  | _ => exact absurd rfl hrequest

/-! ## Events that free, take or clear entries -/

/-- An entry is freed, and the tag counter stays (07 R136, R137). -/
theorem ExchangesTagged.freed (hs : ExchangesTagged s) (j : Nat) (hfree : SameExchanges (s.setEntry j none) t) :
    ExchangesTagged t := by
  obtain ⟨htagged, hcounter⟩ := exchangesTagged_iff.mp hs
  exact hfree.tagged (exchangesTagged_iff.mpr ⟨htagged.free j, hcounter⟩)

/-- Cleared memory has the exchanges of the state at reset (11 R197). -/
theorem ExchangesTagged.of_cleared (h : SameExchanges State.reset t) : ExchangesTagged t :=
  h.tagged State.reset_exchangesTagged

theorem SameExchanges.endExchange (h : SameExchanges s t) (k : NeedKind) (i : Nat) (e : ExchangeEnd) :
    SameExchanges s (t.endExchange k i e).flushPushes :=
  h.trans ⟨by simp, by simp⟩

theorem execResult_exchangesTagged (hs : ExchangesTagged s) {tag : Nat} {body : List Byte}
    (ht : execResult tag body s = .next t) : ExchangesTagged t := by
  obtain rfl := Host.Outcome.next.inj ht
  have hdiscarded : SameExchanges s s.clearTimeouts.discardFrame := ⟨rfl, rfl⟩
  split
  · exact hs
  · split
    · exact hdiscarded.tagged hs
    · unfold State.matchResult
      split
      · exact hdiscarded.tagged hs
      next j _ =>
        split
        · exact hdiscarded.tagged hs
        · split
          · exact hdiscarded.tagged hs
          · have hfreed : SameExchanges (s.setEntry j none) (s.clearTimeouts.setEntry j none) := ⟨rfl, rfl⟩
            exact hs.freed j (hfreed.endExchange _ _ _)

theorem execExchangeTimeout_exchangesTagged (hs : ExchangesTagged s) {tag : Nat}
    (ht : execExchangeTimeout tag s = .next t) : ExchangesTagged t := by
  obtain rfl := Host.Outcome.next.inj ht
  split
  · exact hs
  next j _ =>
    split
    · exact hs
    · split
      · have hfreed : SameExchanges (s.setEntry j none) ((s.doneExchange tag).setEntry j none) := ⟨rfl, rfl⟩
        exact hs.freed j ((hfreed.trans (State.raiseTimeouts_sameExchanges _)).endExchange _ _ _)
      · exact hs

theorem execGrant_exchangesTagged (hs : ExchangesTagged s) (ht : execGrant s = .next t) : ExchangesTagged t := by
  obtain rfl := Host.Outcome.next.inj ht
  split
  · split
    · exact hs
    · split
      · exact hs
      · obtain ⟨hfresh, hrange⟩ := State.nextTag_spec hs
        exact exchangesTagged_iff.mpr
          ⟨(exchangesTagged_iff.mp hs).1.take _ hfresh hrange, cycleSucc_range (by decide)⟩
  · exact hs

theorem execColdStart_exchangesTagged (hs : ExchangesTagged s) {selLow : Bool}
    (ht : execColdStart selLow s = .next t) : ExchangesTagged t := by
  obtain rfl := Host.Outcome.next.inj ht
  split
  · exact .of_cleared ⟨rfl, rfl⟩
  · exact hs

theorem execWarmStart_exchangesTagged (hs : ExchangesTagged s) {selLow : Bool}
    (ht : execWarmStart selLow s = .next t) : ExchangesTagged t := by
  obtain rfl := Host.Outcome.next.inj ht
  split
  · have hstarted : ExchangesTagged ((s.startCommon selLow).latchStart .warm) :=
      exchangesTagged_iff.mpr ⟨tagged_reset, (exchangesTagged_iff.mp hs).2⟩
    refine SameExchanges.tagged ?_ hstarted
    exact ⟨by rw [State.recoverAll_aqp], by rw [State.recoverAll_aqp]⟩
  · exact hs

theorem execRetentionIndicatorLost_exchangesTagged (hs : ExchangesTagged s)
    (ht : execRetentionIndicatorLost s = .next t) : ExchangesTagged t := by
  obtain rfl := Host.Outcome.next.inj ht
  split
  · exact .of_cleared ⟨rfl, rfl⟩
  · exact hs

/-! ## Every command -/

theorem exec_exchangesTagged (hs : ExchangesTagged s) {i : Instr} (ht : exec i s = .next t) : ExchangesTagged t := by
  cases hi : touches .exchanges i with
  | false => exact (exec_sameExchangesTo i s hi t ht).tagged hs
  | true =>
    cases i with
    | result tag body => exact execResult_exchangesTagged hs ht
    | exchangeTimeout tag => exact execExchangeTimeout_exchangesTagged hs ht
    | grant => exact execGrant_exchangesTagged hs ht
    | coldStart selLow => exact execColdStart_exchangesTagged hs ht
    | warmStart selLow => exact execWarmStart_exchangesTagged hs ht
    | retentionIndicatorLost => exact execRetentionIndicatorLost_exchangesTagged hs ht
    | _ => cases hi

end

/-- Settles O53: a grant alone takes an entry, under a tag that is not in use, and every other command leaves the
exchanges alone, frees an entry or clears the table. -/
theorem exchangesStayTagged : Obligations.ExchangesStayTagged := by
  intro s t hstep hs
  unfold step at hstep
  split at hstep
  · obtain rfl := Host.Outcome.next.inj hstep
    exact hs
  next c rest _ => exact exec_exchangesTagged (s := { s with pending := rest }) hs hstep

end Sys2Proof.Machine
end

section
/-! RESULT and EXCHANGE TIMEOUT as they are carried out (07 R126, R128, R129, R136, R137). -/

namespace Sys2Proof.Machine

section
variable {s : State} {tag j : Nat} {e : Exchange} {body : List Byte}

/-! ## RESULT (07 R136) -/

/-- The receive side of a running part that is ready for a frame takes every RESULT. -/
theorem execResult_eq (hrun : s.running = true) (hidle : s.gwp.assembler = .idle) :
    execResult tag body s = .next (if body.length ≠ 20 then s.clearTimeouts.discardFrame
      else s.clearTimeouts.matchResult tag body) := by
  simp [execResult, State.acquirerReceives, hrun, hidle]

theorem State.matchResult_of_match (hindex : s.entryIndex tag = some j) (hentry : s.exchange? j = some e)
    (hkind : (body.getD 0 0).toNat = e.kind.toNat) :
    s.matchResult tag body = ((s.setEntry j none).endExchange e.kind e.tender (resultEnd body)).flushPushes := by
  simp only [State.matchResult, hindex, hentry]
  exact if_neg (not_not_intro hkind)

theorem State.matchResult_of_mismatch (h : s.entryIndex tag = none
    ∨ ∃ j e, s.entryIndex tag = some j ∧ s.exchange? j = some e ∧ (body.getD 0 0).toNat ≠ e.kind.toNat) :
    s.matchResult tag body = s.discardFrame := by
  obtain hnone | ⟨j, e, hindex, hentry, hkind⟩ := h
  · simp only [State.matchResult, hnone]
  · simp only [State.matchResult, hindex, hentry]
    exact if_pos hkind

/-! ## EXCHANGE TIMEOUT (07 R137) -/

/-- A timeout found due and still due frees its entry, is counted, and then ends its exchange. -/
theorem execExchangeTimeout_eq (hrun : s.running = true) (hdue : tag ∈ s.due.exchanges)
    (hindex : s.entryIndex tag = some j) (hentry : s.exchange? j = some e) (hdeadline : e.deadline ≤ s.fck.timebase) :
    execExchangeTimeout tag s = .next
      ((((s.doneExchange tag).setEntry j none).raiseTimeouts).endExchange e.kind e.tender .timeout).flushPushes := by
  have hstill : s.exchangeDue tag e = true := by simp [State.exchangeDue, State.now, hrun, hdue, hdeadline]
  simp only [execExchangeTimeout, hindex, hentry]
  rw [if_pos hstill]

theorem State.raiseTimeouts_below (h : s.aqp.timeouts + 1 < s.setting 18) :
    s.raiseTimeouts = { s with aqp := { s.aqp with timeouts := s.aqp.timeouts + 1 } } := if_pos h

theorem State.raiseTimeouts_at_limit (h : s.setting 18 ≤ s.aqp.timeouts + 1) :
    s.raiseTimeouts = (fun t : State => if s.aqp.link = .up then t.departUp else t)
      { s with aqp := { s.aqp with timeouts := s.setting 18, link := .failed } } := by
  simp only [State.raiseTimeouts, if_neg (Nat.not_lt_of_le h), decide_eq_true_eq]

end

/-- Settles O24: each case finds its condition, and what it does is what the model's steps do in their order. -/
theorem resultsAndTimeoutsEndExchanges : Obligations.ResultsAndTimeoutsEndExchanges := by
  refine ⟨fun s tag j e body hrun hidle hlength hindex hentry hkind => ?_,
    fun s tag body hrun hidle hcase => ?_,
    fun s tag j e hrun hdue hindex hentry hdeadline => ⟨fun hbelow => ?_, fun hlimit => ?_⟩⟩
  · refine (execResult_eq hrun hidle).trans ?_
    rw [if_neg (not_not_intro hlength), State.matchResult_of_match (s := s.clearTimeouts) hindex hentry hkind]
    rfl
  · refine (execResult_eq hrun hidle).trans ?_
    obtain hlength | hmismatch := hcase
    · rw [if_pos hlength]
      rfl
    · rw [State.matchResult_of_mismatch (s := s.clearTimeouts) hmismatch, ite_self]
      rfl
  · refine (execExchangeTimeout_eq hrun hdue hindex hentry hdeadline).trans ?_
    rw [State.raiseTimeouts_below (s := (s.doneExchange tag).setEntry j none) hbelow]
    rfl
  · refine (execExchangeTimeout_eq hrun hdue hindex hentry hdeadline).trans ?_
    rw [State.raiseTimeouts_at_limit (s := (s.doneExchange tag).setEntry j none) hlimit]
    rfl

end Sys2Proof.Machine
end

section
/-! Refutation of NeedsStayMatched: a lease left running on a tender whose need waits in the queue. -/
namespace Sys2Proof.Machine

/-- A tender in AUTHORIZING (AUTH) with its need not yet sent and a lease still running: no premise of the statement speaks
of leases. -/
def leasedTender : Tender :=
  { newTender 0 1 1 .tipLater none 1 500 with
    state := .authorizing .auth, authAmount := some 500, lease := .running 0 }

/-- The one portion of the check, claimed by the leased tender and settled by its amount. -/
def leasedPortion : Portion := { number := 1, share := 500, seat := none, counted := 500, claim := some 0 }

/-- A check in SETTLING with the leased tender as its only one. -/
def leasedCheck : Check :=
  { newCheck 1 1 2 0 0 0 with
    state := .settling, tenders := [0]
    totals := { subtotal := 500, taxes := List.replicate 8 0, service := 0, total := 500 }
    plan := { kind := .unsplit, count := 1, state := .locked, portions := [leasedPortion] } }

/-- The tender's need waits in the queue, and its lease, found due by the tick, is about to expire. -/
def leasedState : State :=
  { State.reset with
    ckt := { slots := State.reset.ckt.slots.set 0 (some leasedCheck), nextNumber := 2 }
    tdu := { pool := State.reset.tdu.pool.set 0 (some leasedTender), pendingList := [] }
    fmp := { State.reset.fmp with lists := State.reset.fmp.lists.set 0 [0] }
    aqp := { State.reset.aqp with queue := [{ tender := 0, kind := .auth }] }
    due := { State.reset.due with leases := [0] }
    pending := [.leaseExpiry 1 1] }

theorem leasedState_check? (i : Nat) : leasedState.check? i = if i = 0 then some leasedCheck else none :=
  getElem?_replicate_set_zero leasedCheck (by decide) i

theorem leasedState_tender? (i : Nat) : leasedState.tender? i = if i = 0 then some leasedTender else none :=
  getElem?_replicate_set_zero leasedTender (by decide) i

theorem leasedState_check?_eq_some {i : Nat} {c : Check} (h : leasedState.check? i = some c) :
    i = 0 ∧ c = leasedCheck := by
  rw [leasedState_check?] at h
  split at h <;> simp_all

theorem leasedState_tender?_eq_some {i : Nat} {x : Tender} (h : leasedState.tender? i = some x) :
    i = 0 ∧ x = leasedTender := by
  rw [leasedState_tender?] at h
  split at h <;> simp_all

theorem leasedState_liveChecks : leasedState.liveChecks = [leasedCheck] := by decide +kernel

theorem leasedState_tendersOf : leasedState.tendersOf leasedCheck = [leasedTender] := by
  simp [State.tendersOf, leasedCheck, leasedState_tender?]

/-- The table lists are those of the stranded state. -/
theorem leasedState_tableList (n : Nat) : leasedState.tableList n = if n = 1 then [0] else [] :=
  strandedState_tableList n

theorem leasedState_checksSeated : ChecksSeated leasedState := by
  refine ⟨by decide +kernel, ?_, by decide +kernel, fun table => ?_, by simp [leasedState, State.reset]⟩
  · rw [leasedState_liveChecks]
    exact ⟨by simp, by decide⟩
  · rw [leasedState_tableList]
    by_cases ht : table = 1
    · subst ht
      refine ⟨by simp, by decide, fun slot => ?_⟩
      by_cases hs : slot = 0 <;> simp [leasedState_check?, hs, leasedCheck, newCheck]
    · refine ⟨by simp [ht], by simp [ht], fun slot => ?_⟩
      by_cases hs : slot = 0 <;> simp [leasedState_check?, hs, leasedCheck, newCheck, ht]
      omega

theorem leasedState_tendersListed : TendersListed leasedState := by
  refine ⟨by decide +kernel, fun slot c hc => ?_, fun i t ht => ?_⟩
  · obtain ⟨rfl, rfl⟩ := leasedState_check?_eq_some hc
    refine ⟨by decide, fun k i hk => ?_⟩
    cases k with
    | zero => exact ⟨leasedTender, by simp_all [leasedCheck, leasedState_tender?], rfl, rfl⟩
    | succ k => simp [leasedCheck] at hk
  · obtain ⟨rfl, rfl⟩ := leasedState_tender?_eq_some ht
    exact ⟨leasedCheck, 0, leasedState_check? 0, rfl, rfl⟩

theorem leasedState_approvalsHeld : ApprovalsHeld leasedState := by
  refine ⟨by decide, by simp [leasedState, State.reset], by simp [leasedState, State.reset], fun slot => ?_⟩
  constructor
  · simp [leasedState, State.reset]
  · rintro ⟨c, hc, ha⟩
    obtain ⟨-, rfl⟩ := leasedState_check?_eq_some hc
    simp [leasedCheck, newCheck] at ha

theorem leasedState_tendersFitChecks : TendersFitChecks leasedState := by
  refine ⟨fun slot c hc => ?_, by simp [leasedState, State.reset]⟩
  obtain ⟨rfl, rfl⟩ := leasedState_check?_eq_some hc
  rw [leasedState_tendersOf]
  exact ⟨by decide, by decide⟩

theorem leasedState_portionsCounted : PortionsCounted leasedState := by
  intro slot c hc
  obtain ⟨rfl, rfl⟩ := leasedState_check?_eq_some hc
  refine ⟨by decide, by rw [leasedState_tendersOf]; decide, ?_⟩
  simp only [State.countedSum, leasedState_tendersOf]
  intro p hp
  obtain rfl : p = leasedPortion := by simpa [leasedCheck] using hp
  refine ⟨by decide, by decide, fun i => ⟨fun hclaim => ?_, fun ⟨hmem, _⟩ => ?_⟩⟩
  · obtain rfl : 0 = i := by simpa [leasedPortion] using hclaim
    exact ⟨by decide, leasedTender, leasedState_tender? 0, rfl, rfl⟩
  · obtain rfl : i = 0 := by simpa [leasedCheck] using hmem
    rfl

theorem leasedState_needsMatched : NeedsMatched leasedState := by
  have hneeding : leasedState.needing = [0] := by decide
  have hqueue : leasedState.aqp.queue = [{ tender := 0, kind := .auth }] := rfl
  have hentries : leasedState.aqp.entries.filterMap id = [] := by decide
  refine ⟨by simp [hneeding], fun n hn => ?_, by rw [hentries]; simp, fun i x hx _ => ?_⟩
  · obtain rfl : n = { tender := 0, kind := .auth } := by simpa [hqueue] using hn
    exact ⟨leasedTender, leasedState_tender? 0, rfl, rfl⟩
  · obtain ⟨rfl, -⟩ := leasedState_tender?_eq_some hx
    simp [hneeding]

/-- The state after LEASE EXPIRY: the tender is withdrawn. -/
def leasedExpired : State := Out.orElse (step leasedState) leasedState

theorem step_leasedState : step leasedState = .next leasedExpired := rfl

/-- The tender is DONE, and its need is still in the queue. -/
theorem leasedExpired_records :
    (leasedExpired.aqp.queue.map fun n => (leasedExpired.tender? n.tender).map Tender.state)
      = [some (.done .withdrawn)] := by decide +kernel

/-- Refutes O59: LEASE EXPIRY asks only that the tender's lease is still running and past its deadline (R93), not that the
tender is in TIP_WAIT, and withdraws it without taking a need out of the wait queue. No premise rules out a running lease on
a tender in AUTHORIZING, whose need then stays in the queue of a DONE tender. No run reaches such a state: a lease ends
when its tender leaves TIP_WAIT. -/
theorem not_needsStayMatched : ¬ Obligations.NeedsStayMatched := by
  intro h
  obtain ⟨-, hqueue, -⟩ := h leasedState leasedExpired step_leasedState leasedState_checksSeated leasedState_tendersListed
    leasedState_approvalsHeld leasedState_tendersFitChecks leasedState_portionsCounted leasedState_needsMatched
  obtain ⟨n, hn, hdone⟩ : ∃ n ∈ leasedExpired.aqp.queue,
      (leasedExpired.tender? n.tender).map Tender.state = some (.done .withdrawn) :=
    List.mem_map.mp (leasedExpired_records ▸ List.mem_singleton_self _)
  obtain ⟨x, hx, hstate, -⟩ := hqueue n hn
  rw [hx, Option.map_some, hstate] at hdone
  revert hdone
  cases n.kind <;> decide

end Sys2Proof.Machine
end

section
/-! RESET_N, main power, the battery clock, a cold start and the loss of retention (11 R194, R196, R197). -/

namespace Sys2Proof.Machine

section
variable {s : State} {n m seconds : Nat}

/-! ## The minute clock -/

theorem FloorClock.advance_advance (c : FloorClock) (a b : Nat) : (c.advance a).advance b = c.advance (a + b) := by
  simp only [FloorClock.advance, FloorClock.mk.injEq, and_true]
  omega

/-- The minutes of the cycle of 65,536 days rise by the whole minutes that the seconds complete (11 R194). -/
theorem FloorClock.advance_minutes (c : FloorClock) (seconds : Nat) :
    (c.advance seconds).day * 1440 + (c.advance seconds).minute
      = (c.day * 1440 + c.minute + (c.second + seconds) / 60) % (65536 * 1440) := by
  simp only [FloorClock.advance]
  omega

theorem FloorClock.advance_whole_minutes (c : FloorClock) (k : Nat) (hsecond : c.second ≤ 59) :
    (c.advance (60 * k)).day * 1440 + (c.advance (60 * k)).minute = (c.day * 1440 + c.minute + k) % (65536 * 1440) := by
  have hminutes : (c.second + 60 * k) / 60 = k := by omega
  rw [FloorClock.advance_minutes, hminutes]

/-! ## Minutes that pass while the part is halted (11 R194; log entry 7) -/

/-- The state after one minute with its minute tick. -/
def State.minutePassed (s : State) : State := ({ s with fck := s.fck.advance 60 } : State).minuteTested

theorem State.passMinutes_succ : s.passMinutes (m + 1) = s.minutePassed.passMinutes m := rfl

/-- The age of the check reaches the alarm at one of the next m minutes. -/
def State.ageAlarmWithin (s : State) (m : Nat) (c : Check) : Prop :=
  s.setting 21 ≠ 0 ∧ ∃ k, 1 ≤ k ∧ k ≤ m ∧ s.setting 21 ≤ ({ s with fck := s.fck.advance (60 * k) } : State).age c

/-- The age of the check k minutes after the next is its age k + 1 minutes from now. -/
theorem State.minutePassed_age (k : Nat) (c : Check) :
    ({ s.minutePassed with fck := s.minutePassed.fck.advance (60 * k) } : State).age c
      = ({ s with fck := s.fck.advance (60 * (k + 1)) } : State).age c := by
  have hclock : s.minutePassed.fck.advance (60 * k) = s.fck.advance (60 * (k + 1)) := by
    rw [Nat.mul_succ, Nat.add_comm (60 * k)]
    exact s.fck.advance_advance 60 (60 * k)
  simp only [State.age, hclock]

/-- The alarm comes within the next minute, or within the minutes after that one. -/
theorem State.ageAlarmWithin_succ {c : Check} :
    s.ageAlarmWithin (m + 1) c ↔ s.ageAlarmWithin 1 c ∨ s.minutePassed.ageAlarmWithin m c := by
  have hsetting : s.minutePassed.setting 21 = s.setting 21 := rfl
  simp only [State.ageAlarmWithin, State.minutePassed_age, hsetting, ← and_or_left]
  refine and_congr_right fun _ => ⟨?_, ?_⟩
  · rintro ⟨k, hlow, hhigh, hage⟩
    obtain rfl | ⟨j, rfl⟩ : k = 1 ∨ ∃ j, k = j + 2 := by
      obtain h | h : k = 1 ∨ 2 ≤ k := by omega
      · exact .inl h
      · exact .inr ⟨k - 2, by omega⟩
    · exact .inl ⟨1, Nat.le_refl 1, Nat.le_refl 1, hage⟩
    · exact .inr ⟨j + 1, by omega, by omega, hage⟩
  · rintro (⟨k, hlow, hhigh, hage⟩ | ⟨k, -, hhigh, hage⟩)
    · exact ⟨k, hlow, by omega, hage⟩
    · exact ⟨k + 1, by omega, by omega, hage⟩

theorem State.mem_minutePassed_ages : n ∈ s.minutePassed.due.ages ↔
    ∃ c ∈ s.liveChecks, c.number = n ∧ c.aged = false ∧ (n ∈ s.due.ages ∨ s.ageAlarmWithin 1 c) := by
  refine State.mem_minuteTests.trans ?_
  refine exists_congr fun c => and_congr_right fun _ => and_congr_right fun _ => and_congr_right fun _ =>
    or_congr_right (and_congr_right fun _ => ⟨fun hage => ⟨1, Nat.le_refl 1, Nat.le_refl 1, hage⟩, ?_⟩)
  rintro ⟨k, hlow, hhigh, hage⟩
  obtain rfl := Nat.le_antisymm hhigh hlow
  exact hage

/-- The ageings that the minute ticks find due: an ageing found at one tick stays due at the next (01 R22). -/
theorem State.mem_passMinutes_ages : n ∈ (s.passMinutes (m + 1)).due.ages ↔
    ∃ c ∈ s.liveChecks, c.number = n ∧ c.aged = false ∧ (n ∈ s.due.ages ∨ s.ageAlarmWithin (m + 1) c) := by
  induction m generalizing s with
  | zero => exact State.mem_minutePassed_ages
  | succ m ih =>
    have hlive : s.minutePassed.liveChecks = s.liveChecks := rfl
    rw [State.passMinutes_succ, ih, hlive]
    constructor
    · rintro ⟨c, hc, hnumber, haged, hdue | halarm⟩
      · obtain ⟨d, hd, hdnumber, hdaged, hddue⟩ := State.mem_minutePassed_ages.mp hdue
        exact ⟨d, hd, hdnumber, hdaged, hddue.imp_right fun h => State.ageAlarmWithin_succ.mpr (.inl h)⟩
      · exact ⟨c, hc, hnumber, haged, .inr (State.ageAlarmWithin_succ.mpr (.inr halarm))⟩
    · rintro ⟨c, hc, hnumber, haged, hdue⟩
      refine ⟨c, hc, hnumber, haged, ?_⟩
      rw [State.ageAlarmWithin_succ, ← or_assoc] at hdue
      exact hdue.imp_left fun h => State.mem_minutePassed_ages.mpr ⟨c, hc, hnumber, haged, h⟩

/-! ## The battery clock (11 R194, R196) -/

/-- The state that the minute ticks of the battery clock leave; without main power there are none. -/
def State.batteryTicked (s : State) (seconds : Nat) : State :=
  if s.powered then s.passMinutes ((s.fck.second + seconds) / 60) else s

theorem State.batteryTicked_frame (seconds : Nat) : s.batteryTicked seconds =
    { s with
      fck := (s.batteryTicked seconds).fck
      due := { s.due with ages := (s.batteryTicked seconds).due.ages } } := by
  unfold State.batteryTicked
  split
  · exact s.passMinutes_frame _
  · rfl

theorem State.batteryTicked_of_no_minute (h : s.power.mainLow = true ∨ s.fck.second + seconds < 60) :
    s.batteryTicked seconds = s := by
  unfold State.batteryTicked
  rcases h with hmain | hsecond
  · exact if_neg (by simp [State.powered, hmain])
  · rw [Nat.div_eq_of_lt hsecond]
    exact ite_self s

theorem State.mem_batteryTicked_ages (hmain : s.power.mainLow = false) (hminute : 60 ≤ s.fck.second + seconds) :
    n ∈ (s.batteryTicked seconds).due.ages ↔ ∃ c ∈ s.liveChecks, c.number = n ∧ c.aged = false
      ∧ (n ∈ s.due.ages ∨ s.ageAlarmWithin ((s.fck.second + seconds) / 60) c) := by
  obtain ⟨m, hm⟩ : ∃ m, (s.fck.second + seconds) / 60 = m + 1 :=
    Nat.exists_eq_succ_of_ne_zero (Nat.ne_of_gt (Nat.div_pos hminute (by decide)))
  have hpowered : s.powered = true := by simp [State.powered, hmain]
  unfold State.batteryTicked
  rw [if_pos hpowered, hm]
  exact State.mem_passMinutes_ages

theorem execClockAdvanceWithoutPower_eq (hhalted : s.running = false) (hretention : s.power.retention = true) :
    execClockAdvanceWithoutPower seconds s
      = .next { s.batteryTicked seconds with fck := s.fck.advance seconds } := by
  simp only [execClockAdvanceWithoutPower, hhalted, hretention, Bool.not_false, Bool.and_self, if_true,
    State.batteryTicked]

theorem clockAdvanceWithoutPower_completes (hhalted : s.running = false) (hretention : s.power.retention = true) : ∃ t,
    exec (.clockAdvanceWithoutPower seconds) s = .next t
    ∧ t = { s with fck := t.fck, due := { s.due with ages := t.due.ages } }
    ∧ (s.power.mainLow = true ∨ s.fck.second + seconds < 60 → t.due = s.due)
    ∧ (s.power.mainLow = false → 60 ≤ s.fck.second + seconds → ∀ n, n ∈ t.due.ages ↔
        ∃ c ∈ s.liveChecks, c.number = n ∧ c.aged = false
          ∧ (n ∈ s.due.ages ∨ s.ageAlarmWithin ((s.fck.second + seconds) / 60) c))
    ∧ t.fck.second = (s.fck.second + seconds) % 60 ∧ t.fck.unset = s.fck.unset ∧ t.fck.timebase = s.fck.timebase
    ∧ t.fck.minute ≤ 1439 ∧ t.fck.day ≤ 65535
    ∧ t.fck.day * 1440 + t.fck.minute
        = (s.fck.day * 1440 + s.fck.minute + (s.fck.second + seconds) / 60) % (65536 * 1440) := by
  obtain ⟨hday, hminute, -⟩ := s.fck.advance_inRange seconds
  refine ⟨_, execClockAdvanceWithoutPower_eq hhalted hretention, ?_, fun hnone => ?_,
    fun hmain hsome _ => State.mem_batteryTicked_ages hmain hsome, rfl, rfl, rfl, hminute, hday,
    s.fck.advance_minutes seconds⟩
  · exact congrArg (fun t : State => { t with fck := s.fck.advance seconds }) (State.batteryTicked_frame seconds)
  · show (s.batteryTicked seconds).due = s.due
    rw [State.batteryTicked_of_no_minute hnone]

/-! ## Cold start and the loss of retention (11 R196, R197) -/

theorem execColdStart_eq (selLow : Bool) (hhalted : s.running = false) (hlost : s.power.retention = false) :
    execColdStart selLow s = .next ((({ s.clearRetained with
      sst := { s.sst with work := s.sst.fallback.1, loaded := s.sst.fallback.2 } } : State).startCommon
        selLow).latchStart .cold) := by
  simp only [execColdStart, hhalted, hlost, Bool.not_false, Bool.and_self, if_true]

/-- Of what stood before it, a cold start keeps the stored areas, LINK_OK and the levels of the lines driven out. -/
theorem coldStart_completes (selLow : Bool) (hhalted : s.running = false) (hlost : s.power.retention = false) :
    exec (.coldStart selLow) s = .next
      { State.reset with
        aqp := { State.reset.aqp with linkOk := s.aqp.linkOk, link := if s.aqp.linkOk then .up else .down }
        sst := { s.sst with work := s.sst.fallback.1, loaded := s.sst.fallback.2, save := .idle, saveCopy := none }
        flp := { State.reset.flp with sent := s.flp.sent }
        fhp := { State.reset.fhp with sdo := s.fhp.sdo, ignore := selLow }
        gwp := { State.reset.gwp with txd := s.gwp.txd }
        pending := s.pending } :=
  (execColdStart_eq selLow hhalted hlost).trans rfl

theorem execRetentionIndicatorLost_eq (hmain : s.power.mainLow = true) :
    execRetentionIndicatorLost s = .next { s.clearRetained with power := { s.power with retention := false } } := by
  simp only [execRetentionIndicatorLost, hmain, if_true]

end

/-- Settles O27: each event by the equation of its command; the ageings found due by induction on the minutes that
pass. -/
theorem powerEventsComplete : Obligations.PowerEventsComplete :=
  ⟨fun _ => ⟨rfl, rfl⟩,
    fun _ _ hhalted hretention _ _ => clockAdvanceWithoutPower_completes hhalted hretention,
    fun c k hsecond _ => c.advance_whole_minutes k hsecond,
    fun _ selLow hhalted hlost => coldStart_completes selLow hhalted hlost,
    fun _ hmain => ⟨_, execRetentionIndicatorLost_eq hmain, rfl, rfl, rfl, rfl, rfl, rfl, rfl, rfl⟩⟩

end Sys2Proof.Machine
end

section
/-! The approval records and the checks that await approval: each operation leaves both alone, or changes both together
(08 R144, R150). -/

namespace Sys2Proof.Machine

/-! ## What the invariant looks at -/

/-- The check in a slot holds APPROVAL; a free slot does not (08 R144). -/
def CheckTable.awaiting (t : CheckTable) (slot : Nat) : Bool :=
  (t.slots[slot]?).join.any fun c => c.holds.approval

/-- What ApprovalsHeld speaks of: the counter, the numbers and the slots of the records, and the checks that hold
APPROVAL. -/
def State.approvalFigures (s : State) : Nat × List Nat × List Nat × (Nat → Bool) :=
  (s.apu.counter, s.apu.table.map Approval.number, s.apu.table.map Approval.slot, s.ckt.awaiting)

theorem approvalsHeld_iff {s : State} : ApprovalsHeld s ↔
    ((s.apu.table.map Approval.number).length ≤ Config.approvalRecords ∧ 1 ≤ s.apu.counter ∧ s.apu.counter ≤ 255)
    ∧ ((s.apu.table.map Approval.number).Nodup ∧ ∀ n ∈ s.apu.table.map Approval.number, 1 ≤ n ∧ n ≤ 255)
    ∧ (s.apu.table.map Approval.slot).Nodup
    ∧ ∀ slot, slot ∈ s.apu.table.map Approval.slot ↔ s.ckt.awaiting slot = true := by
  simp only [ApprovalsHeld, List.length_map, List.forall_mem_map, CheckTable.awaiting, Option.any_eq_true, State.check?]

/-- What leaves these figures alone keeps the invariant. -/
theorem ApprovalsHeld.of_eq {s t : State} (hs : ApprovalsHeld s) (h : t.approvalFigures = s.approvalFigures) :
    ApprovalsHeld t := by
  simp only [State.approvalFigures, Prod.mk.injEq] at h
  obtain ⟨hcounter, hnumbers, hslots, hawaiting⟩ := h
  rw [approvalsHeld_iff, hcounter, hnumbers, hslots, hawaiting]
  exact approvalsHeld_iff.mp hs

/-- The check of a slot that has no record does not hold APPROVAL, and the other way round. -/
theorem ApprovalsHeld.not_awaiting_iff {s : State} (hs : ApprovalsHeld s) {slot : Nat} :
    s.ckt.awaiting slot = false ↔ slot ∉ s.apu.table.map Approval.slot := by
  obtain ⟨-, -, -, hmarked⟩ := approvalsHeld_iff.mp hs
  rw [hmarked, Bool.not_eq_true]

section
variable {s : State} {slot : Nat} {c : Check}

theorem State.awaiting_of_check? (hc : s.check? slot = some c) : s.ckt.awaiting slot = c.holds.approval := by
  rw [State.check?] at hc
  rw [CheckTable.awaiting, hc, Option.any_some]

theorem State.awaiting_of_free (hc : s.check? slot = none) : s.ckt.awaiting slot = false := by
  rw [State.check?] at hc
  rw [CheckTable.awaiting, hc, Option.any_none]

/-- The records of the Check Table tell which checks hold APPROVAL. -/
theorem State.awaiting_eq (s : State) :
    s.ckt.awaiting = fun slot => (s.check? slot).any fun c => c.holds.approval := rfl

/-- A change of a check sets or clears APPROVAL in its slot alone. -/
theorem State.modCheck_awaiting_eq (hc : s.check? slot = some c) (f : Check → Check) :
    (s.modCheck slot f).ckt.awaiting = Function.update s.ckt.awaiting slot (f c).holds.approval := by
  funext j
  by_cases hj : slot = j
  · subst hj
    simp [State.awaiting_eq, hc]
  · simp [State.awaiting_eq, State.modCheck_check?, hj, Function.update_of_ne (Ne.symm hj)]

theorem State.modCheck_awaiting_of {f : Check → Check}
    (hf : ∀ c, s.check? slot = some c → (f c).holds.approval = c.holds.approval) :
    (s.modCheck slot f).ckt.awaiting = s.ckt.awaiting := by
  cases hc : s.check? slot with
  | none =>
    funext j
    by_cases hj : slot = j
    · subst hj
      simp [State.awaiting_eq, hc]
    · simp [State.awaiting_eq, State.modCheck_check?, hj]
  | some c => rw [State.modCheck_awaiting_eq hc, hf c hc, ← State.awaiting_of_check? hc, Function.update_eq_self]

end

section
variable (s : State)

@[simp] theorem State.modCheck_awaiting (slot : Nat) {f : Check → Check}
    (hf : ∀ c, (f c).holds.approval = c.holds.approval) : (s.modCheck slot f).ckt.awaiting = s.ckt.awaiting :=
  State.modCheck_awaiting_of fun c _ => hf c

@[simp] theorem Check.stepVersion_holds (c : Check) : c.stepVersion.holds = c.holds := rfl

@[simp] theorem State.stepVersion_awaiting (slot : Nat) :
    (s.modCheck slot Check.stepVersion).ckt.awaiting = s.ckt.awaiting :=
  s.modCheck_awaiting slot fun c => by rw [c.stepVersion_holds]

/-! ## Operations that leave APPROVAL as it is -/

@[simp] theorem State.derive_awaiting (b : Bool) (slot : Nat) : (s.derive b slot).ckt.awaiting = s.ckt.awaiting := by
  simp only [State.derive]; (repeat' split) <;> simp

@[simp] theorem State.moveTender_awaiting (i : Nat) (f : Tender → Tender) :
    (s.moveTender i f).ckt.awaiting = s.ckt.awaiting := by
  unfold State.moveTender; split <;> simp

@[simp] theorem State.tenderEvent_awaiting (i : Nat) (f : Tender → Tender) :
    (s.tenderEvent i f).ckt.awaiting = s.ckt.awaiting := by
  unfold State.tenderEvent; split <;> simp

@[simp] theorem State.reverseTender_awaiting (i : Nat) (f : Tender → Tender) :
    (s.reverseTender i f).ckt.awaiting = s.ckt.awaiting := by
  simp [State.reverseTender]

@[simp] theorem State.settleAuthorized_awaiting (i : Nat) (b : Bool) (f : Tender → Tender) :
    (s.settleAuthorized i b f).ckt.awaiting = s.ckt.awaiting := by
  unfold State.settleAuthorized; split <;> simp

@[simp] theorem State.endAuth_awaiting (i : Nat) (t : Tender) (e : ExchangeEnd) :
    (s.endAuth i t e).ckt.awaiting = s.ckt.awaiting := by
  cases e <;> simp [State.endAuth]

@[simp] theorem State.endIncrement_awaiting (i : Nat) (t : Tender) (e : ExchangeEnd) :
    (s.endIncrement i t e).ckt.awaiting = s.ckt.awaiting := by
  cases e <;> simp [State.endIncrement]

@[simp] theorem State.endReverse_awaiting (i : Nat) (t : Tender) (e : ExchangeEnd) :
    (s.endReverse i t e).ckt.awaiting = s.ckt.awaiting := by
  cases e <;> simp only [State.endReverse] <;> (repeat' split) <;> simp

@[simp] theorem State.withdraw_awaiting (i : Nat) : (s.withdraw i).ckt.awaiting = s.ckt.awaiting := by
  unfold State.withdraw; (repeat' split) <;> simp

@[simp] theorem State.expireLease_awaiting (i : Nat) : (s.expireLease i).ckt.awaiting = s.ckt.awaiting := by
  simp [State.expireLease]

@[simp] theorem State.actDeferred_awaiting (i : Nat) : (s.actDeferred i).ckt.awaiting = s.ckt.awaiting := by
  unfold State.actDeferred; (repeat' split) <;> simp

@[simp] theorem State.releaseHeld_awaiting (slot : Nat) : (s.releaseHeld slot).ckt.awaiting = s.ckt.awaiting := by
  unfold State.releaseHeld
  split
  · rfl
  next c _ =>
    simpa using foldl_keeps (fun u => u.ckt.awaiting) State.actDeferred (by simp) c.tenders
      (s.handEvent c.number .released)

/-- A MANAGER hold is no APPROVAL (08 R144, R145). -/
@[simp] theorem State.addHold_manager_awaiting (slot : Nat) :
    (s.addHold slot .manager).ckt.awaiting = s.ckt.awaiting := by
  simp only [State.addHold]; (repeat' split) <;> simp [Holds.put]

@[simp] theorem State.moveCheck_awaiting (slot : Nat) (c : Check) (table owner : Nat) :
    (s.moveCheck slot c table owner).ckt.awaiting = s.ckt.awaiting := by
  simp only [State.moveCheck]; split <;> simp

@[simp] theorem State.releaseTerminal_awaiting (t : Nat) :
    (s.releaseTerminal t).1.ckt.awaiting = s.ckt.awaiting := by
  rw [State.releaseTerminal_fst]
  exact ((s.withLeasesExpired t).withNoHolder_keeps t (fun u => u.ckt.awaiting) (by simp)).trans
    (s.withLeasesExpired_keeps t (fun u => u.ckt.awaiting) (by simp))

@[simp] theorem State.startClose_awaiting (slot : Nat) (l : List Nat) :
    (s.startClose slot l).ckt.awaiting = s.ckt.awaiting := by
  unfold State.startClose
  rw [foldl_keeps (fun u => u.ckt.awaiting) State.startCapture (by simp)]
  simp

@[simp] theorem State.beginTender_awaiting (i : Nat) (t : Tender) :
    (s.beginTender i t).ckt.awaiting = s.ckt.awaiting := by
  simp [State.beginTender]

@[simp] theorem State.startTender_awaiting (i : Nat) (t : Tender) (kind : TenderKind) (asked balance : Nat)
    (token : List Byte) : (s.startTender i t kind asked balance token).ckt.awaiting = s.ckt.awaiting := by
  cases kind <;> simp [State.startTender]

@[simp] theorem State.takeTip_awaiting (i : Nat) (t : Tender) (tip : Nat) :
    (s.takeTip i t tip).ckt.awaiting = s.ckt.awaiting := by
  unfold State.takeTip; (repeat' split) <;> simp

@[simp] theorem State.writeOff_awaiting (slot i : Nat) : (s.writeOff slot i).ckt.awaiting = s.ckt.awaiting := by
  simp [State.writeOff]

@[simp] theorem State.ackAged_awaiting : s.ackAged.ckt.awaiting = s.ckt.awaiting := by
  funext j
  simp only [State.awaiting_eq, State.ackAged_check?]
  cases s.check? j with
  | none => rfl
  | some c => rw [Option.map_some, Option.any_some, Option.any_some]; split <;> rfl

@[simp] theorem State.recoverAll_awaiting : s.recoverAll.ckt.awaiting = s.ckt.awaiting := by
  funext j
  simp only [State.awaiting_eq, State.recoverAll_check?]
  cases s.check? j with
  | none => rfl
  | some c =>
    obtain ⟨-, -, hholds⟩ := (c.unclaimed s j).settled_kept (decide (j ∈ s.recovering)) (s.recoverAll.tendersOf c)
    rw [Option.map_some, Option.any_some, Option.any_some, hholds]
    rfl

end

section
variable {s : State} {slot : Nat} {c : Check}

/-- The release of a MANAGER hold leaves APPROVAL where it is (08 R146). -/
@[simp] theorem State.removeHold_manager_awaiting (s : State) (slot : Nat) :
    (s.removeHold slot .manager).ckt.awaiting = s.ckt.awaiting := by
  simp only [State.removeHold]
  split
  · rfl
  next c hc =>
    have hput : (s.modCheck slot fun c' =>
        { c' with holds := c.holds.put .manager false, version := nextVersion c'.version }).ckt.awaiting
          = s.ckt.awaiting := State.modCheck_awaiting_of fun c' hc' => by
      obtain rfl := Option.some.inj (hc.symm.trans hc')
      rfl
    split
    · exact hput
    · exact (State.releaseHeld_awaiting _ slot).trans hput

theorem State.addHold_approval_awaiting (hc : s.check? slot = some c) :
    (s.addHold slot .approval).ckt.awaiting = Function.update s.ckt.awaiting slot true := by
  have hput : (s.modCheck slot fun c' =>
      { c' with holds := c'.holds.put .approval true, version := nextVersion c'.version }).ckt.awaiting
        = Function.update s.ckt.awaiting slot true := State.modCheck_awaiting_eq hc _
  simp only [State.addHold, hc]
  split
  · exact hput
  · rw [State.mapLeases_ckt, State.handEvent_ckt, hput]

theorem State.removeHold_approval_awaiting (s : State) (slot : Nat) :
    (s.removeHold slot .approval).ckt.awaiting = Function.update s.ckt.awaiting slot false := by
  simp only [State.removeHold]
  split
  next hc => rw [← State.awaiting_of_free hc, Function.update_eq_self]
  next c hc =>
    have hput : (s.modCheck slot fun c' =>
        { c' with holds := c.holds.put .approval false, version := nextVersion c'.version }).ckt.awaiting
          = Function.update s.ckt.awaiting slot false := State.modCheck_awaiting_eq hc _
    split
    · exact hput
    · exact (State.releaseHeld_awaiting _ slot).trans hput

theorem State.retire_awaiting (s : State) (slot : Nat) :
    (s.retire slot).ckt.awaiting = Function.update s.ckt.awaiting slot false := by
  cases hc : s.check? slot with
  | none => rw [State.retire_of_free hc, ← State.awaiting_of_free hc, Function.update_eq_self]
  | some c =>
    funext j
    simp only [State.awaiting_eq, State.retire_check? hc, Function.update_apply]
    split <;> rfl

/-- A new check does not hold APPROVAL (01 R11). -/
theorem State.placeCheck_awaiting (hslot : s.freeSlot = some slot) (hc : c.holds.approval = false) :
    (s.placeCheck slot c).ckt.awaiting = s.ckt.awaiting := by
  obtain ⟨hlt, hnone⟩ := State.freeSlot_spec hslot
  funext j
  simp only [State.awaiting_eq, State.placeCheck_check? hlt]
  split
  next hj => subst hj; simp [hnone, hc]
  · rfl

theorem recompute_holds {w : Settings} {c₁ c₂ : Check} (h : recompute w c₁ = .ok c₂) : c₂.holds = c₁.holds := by
  obtain ⟨-, -, rfl⟩ := recompute_eq_ok h
  rfl

/-- Figures written for a check whose holds stay as they were (01 R4, 03 R43). -/
theorem State.writeFigures_awaiting (hc : s.check? slot = some c) {c₁ : Check} (hholds : c₁.holds = c.holds)
    (w : Settings) : (s.writeFigures slot (recompute w c₁)).ckt.awaiting = s.ckt.awaiting := by
  unfold State.writeFigures
  split
  next c₂ hok =>
    rw [State.modCheck_awaiting_eq hc, Check.stepVersion_holds, recompute_holds hok, hholds,
      ← State.awaiting_of_check? hc, Function.update_eq_self]
  · rfl

theorem State.takeLines_awaiting (hc : s.check? slot = some c) {c₁ : Check} (hholds : c₁.holds = c.holds)
    (w : Settings) (n : Nat) : (s.takeLines slot c n (recompute w c₁)).ckt.awaiting = s.ckt.awaiting := by
  have hwritten := State.writeFigures_awaiting (s := { s with freeLines := s.freeLines - n }) hc hholds w
  simp only [State.takeLines]
  split
  · rw [State.handEvent_ckt]
    refine Eq.trans (State.modCheck_awaiting _ slot ?_) hwritten
    exact fun _ => rfl
  · exact hwritten

end
end Sys2Proof.Machine
end

section
/-! A record is made together with its hold, and ends together with it (08 R144, R150, R155; 01 R21). -/

namespace Sys2Proof.Machine

section
variable {s t : State} {slot : Nat} {a : Approval} {c : Check}

/-! ## The end of a record -/

/-- The records and the hold of one slot leave together. -/
theorem ApprovalsHeld.clearSlot (hs : ApprovalsHeld s) (slot : Nat) (hcounter : t.apu.counter = s.apu.counter)
    (htable : t.apu.table = s.apu.table.filter fun b => b.slot != slot)
    (hawaiting : t.ckt.awaiting = Function.update s.ckt.awaiting slot false) : ApprovalsHeld t := by
  obtain ⟨-, -, -, hmarked⟩ := approvalsHeld_iff.mp hs
  obtain ⟨⟨hlength, hlow, hhigh⟩, ⟨hnumbers, hrange⟩, hslots, -⟩ := hs
  have hsub : t.apu.table.Sublist s.apu.table := htable ▸ List.filter_sublist
  refine approvalsHeld_iff.mpr ⟨⟨?_, hcounter ▸ hlow, hcounter ▸ hhigh⟩, ⟨hnumbers.sublist (hsub.map _), ?_⟩,
    hslots.sublist (hsub.map _), fun j => ?_⟩
  · rw [List.length_map]
    exact hsub.length_le.trans hlength
  · exact List.forall_mem_map.mpr fun b hb => hrange b (hsub.subset hb)
  · have hmem : j ∈ t.apu.table.map Approval.slot ↔ j ∈ s.apu.table.map Approval.slot ∧ j ≠ slot := by
      simp only [htable, List.mem_map, List.mem_filter, bne_iff_ne]
      constructor
      · rintro ⟨b, ⟨hb, hne⟩, rfl⟩
        exact ⟨⟨b, hb, rfl⟩, hne⟩
      · rintro ⟨⟨b, hb, rfl⟩, hne⟩
        exact ⟨b, ⟨hb, hne⟩, rfl⟩
    rw [hmem, hmarked, hawaiting, Function.update_apply]
    split
    next hj => simp [hj]
    next hj => simp [hj]

/-- The record that leaves by its number is the one of its slot (08 R150). -/
theorem ApprovalsHeld.dropApproval_table (hs : ApprovalsHeld s) (ha : a ∈ s.apu.table) :
    (s.dropApproval a).apu.table = s.apu.table.filter fun b => b.slot != a.slot := by
  obtain ⟨-, ⟨hnumbers, -⟩, hslots, -⟩ := hs
  refine List.filter_congr fun b hb => ?_
  have hiff : b.number = a.number ↔ b.slot = a.slot :=
    ⟨fun h => congrArg _ (List.inj_on_of_nodup_map hnumbers hb ha h),
      fun h => congrArg _ (List.inj_on_of_nodup_map hslots hb ha h)⟩
  rw [Bool.eq_iff_iff, bne_iff_ne, bne_iff_ne, ne_eq, ne_eq, hiff]

/-- No record of a slot is left once one has been dropped. -/
theorem ApprovalsHeld.dropApproval_approvalOf (hs : ApprovalsHeld s) (ha : a ∈ s.apu.table) :
    (s.dropApproval a).approvalOf a.slot = none := by
  rw [State.approvalOf, hs.dropApproval_table ha, List.find?_eq_none]
  intro b hb
  simpa using (List.mem_filter.mp hb).2

/-- A record that leaves the table takes its hold along (08 R155). -/
theorem ApprovalsHeld.endRecord (hs : ApprovalsHeld s) (ha : a ∈ s.apu.table) (hapu : t.apu = (s.dropApproval a).apu)
    (hawaiting : t.ckt.awaiting = Function.update s.ckt.awaiting a.slot false) : ApprovalsHeld t :=
  hs.clearSlot a.slot (hapu ▸ s.dropApproval_apu_counter a)
    ((congrArg ApprovalUnit.table hapu).trans (hs.dropApproval_table ha)) hawaiting

theorem ApprovalsHeld.endApproval (hs : ApprovalsHeld s) (ha : a ∈ s.apu.table) (outcome : Nat) :
    ApprovalsHeld (s.endApproval a outcome) := by
  refine hs.endRecord ha (by simp [State.endApproval]) ?_
  rw [State.endApproval, State.announceEnding_ckt, State.removeHold_approval_awaiting]
  rfl

/-- A check that retires takes its record along (01 R21 steps 6 and 7). -/
theorem ApprovalsHeld.retire (hs : ApprovalsHeld s) (slot : Nat) : ApprovalsHeld (s.retire slot) := by
  cases hc : s.check? slot with
  | none => rwa [State.retire_of_free hc]
  | some c =>
    refine hs.clearSlot slot (s.retire_apu_counter slot) ?_ (s.retire_awaiting slot)
    rw [State.retire_table hc]
    cases ha : s.approvalOf slot with
    | none => exact (List.filter_eq_self.mpr fun b hb => by simpa using List.find?_eq_none.mp ha b hb).symm
    | some a =>
      obtain ⟨hmem, rfl⟩ := s.approvalOf_spec ha
      exact hs.dropApproval_table hmem

/-! ## The second judgement of a parked change (08 R154, R155) -/

/-- A change that is made leaves the records and the holds to the end of its own record. -/
theorem State.evaluate_applied (hc : s.check? slot = some c) {change : Parked}
    (h : s.evaluate slot c change = .applied t) : t.apu = s.apu ∧ t.ckt.awaiting = s.ckt.awaiting := by
  have hline : ∀ (l : Line) (c₁ : Check), c₁.holds = c.holds → s.applyLine slot l c₁ = .applied t →
      t.apu = s.apu ∧ t.ckt.awaiting = s.ckt.awaiting := by
    intro l c₁ hholds h
    unfold State.applyLine at h
    split at h
    next c₂ hok =>
      split at h
      · cases h
      · obtain rfl := Evaluation.applied.inj h
        exact ⟨rfl, by rw [State.modCheck_awaiting_eq hc, recompute_holds hok, hholds,
          ← State.awaiting_of_check? hc, Function.update_eq_self]⟩
    · cases h
  cases change with
  | voidLine n =>
    simp only [State.evaluate] at h
    split at h
    · cases h
    · exact hline _ (c.withVoid n) rfl h
  | discountLine n d =>
    simp only [State.evaluate] at h
    split at h
    · cases h
    next l _ => exact hline _ (c.withDiscount n (min d l.gross)) rfl h
  | voidCheck =>
    simp only [State.evaluate] at h
    split at h
    · cases h
    · split at h <;> cases h
  | transferCheck table owner =>
    simp only [State.evaluate, State.applyTransfer] at h
    split at h
    · cases h
    · split at h
      · cases h
      · split at h
        · cases h
        · obtain rfl := Evaluation.applied.inj h
          exact ⟨State.moveCheck_apu .., State.moveCheck_awaiting ..⟩

/-- A change that retires its check is a void. -/
theorem State.evaluate_retired {change : Parked} (h : s.evaluate slot c change = .retired t) : t = s.retire slot := by
  have hline : ∀ (l : Line) (c₁ : Check), s.applyLine slot l c₁ ≠ .retired t := by
    intro l c₁ h
    unfold State.applyLine at h
    split at h
    · split at h <;> cases h
    · cases h
  cases change with
  | voidLine n | discountLine n d =>
    simp only [State.evaluate] at h
    split at h
    · cases h
    · exact absurd h (hline _ _)
  | voidCheck =>
    simp only [State.evaluate] at h
    split at h
    · cases h
    · split at h
      · cases h
      · exact (Evaluation.retired.inj h).symm
  | transferCheck table owner =>
    simp only [State.evaluate, State.applyTransfer] at h
    split at h
    · cases h
    · split at h
      · cases h
      · split at h <;> cases h

/-! The three ends of APPROVE by its second judgement (08 R153, R155). -/

theorem State.approveRecord_of_refused {code : Code}
    (heval : (s.dropApproval a).evaluate a.slot c a.change = .refused code) :
    s.approveRecord a c = (((s.dropApproval a).removeHold a.slot .approval).announceEnding a c.number code.toNat,
      code.toNat, false) := by
  rw [State.approveRecord, heval]

theorem State.approveRecord_of_applied (heval : (s.dropApproval a).evaluate a.slot c a.change = .applied t) :
    s.approveRecord a c = ((t.removeHold a.slot .approval).announceEnding a c.number 16, 16, false) := by
  rw [State.approveRecord, heval]

theorem State.approveRecord_of_retired (heval : (s.dropApproval a).evaluate a.slot c a.change = .retired t) :
    s.approveRecord a c = (t.announceEnding a c.number 16, 16, true) := by
  rw [State.approveRecord, heval]

theorem ApprovalsHeld.approveRecord (hs : ApprovalsHeld s) (ha : a ∈ s.apu.table) (hc : s.check? a.slot = some c) :
    ApprovalsHeld (s.approveRecord a c).1 := by
  have hc' : (s.dropApproval a).check? a.slot = some c := hc
  cases heval : (s.dropApproval a).evaluate a.slot c a.change with
  | refused code =>
    rw [State.approveRecord_of_refused heval]
    refine hs.endRecord ha (by simp) ?_
    rw [State.announceEnding_ckt, State.removeHold_approval_awaiting]
    rfl
  | applied t =>
    obtain ⟨hapu, hawaiting⟩ := State.evaluate_applied hc' heval
    rw [State.approveRecord_of_applied heval]
    refine hs.endRecord ha (by simpa using hapu) ?_
    rw [State.announceEnding_ckt, State.removeHold_approval_awaiting, hawaiting]
    rfl
  | retired t =>
    rw [State.approveRecord_of_retired heval]
    obtain rfl := State.evaluate_retired heval
    refine hs.clearSlot a.slot (by simp) ?_ ?_
    · rw [State.announceEnding_apu, State.retire_table hc', hs.dropApproval_approvalOf ha]
      exact hs.dropApproval_table ha
    · rw [State.announceEnding_ckt, State.retire_awaiting]
      rfl

/-! ## A parked change (08 R150) -/

/-- A record that joins the table and the hold of its slot come together. -/
theorem ApprovalsHeld.addRecord (hs : ApprovalsHeld s) (hroom : s.apu.table.length < Config.approvalRecords)
    (hfree : s.ckt.awaiting a.slot = false) (hfresh : a.number ∉ s.apu.table.map Approval.number)
    (hrange : 1 ≤ a.number ∧ a.number ≤ 255) (htable : t.apu.table = s.apu.table ++ [a])
    (hcounter : 1 ≤ t.apu.counter ∧ t.apu.counter ≤ 255)
    (hawaiting : t.ckt.awaiting = Function.update s.ckt.awaiting a.slot true) : ApprovalsHeld t := by
  have hunlisted := hs.not_awaiting_iff.mp hfree
  obtain ⟨-, ⟨hnumbers, hnumbersRange⟩, hslots, hmarked⟩ := approvalsHeld_iff.mp hs
  rw [approvalsHeld_iff, htable, hawaiting, List.map_append, List.map_append, List.map_singleton, List.map_singleton]
  refine ⟨⟨by simpa using hroom, hcounter⟩, ⟨?_, ?_⟩, ?_, fun j => ?_⟩
  · rw [← List.concat_eq_append, List.nodup_concat]
    exact ⟨hfresh, hnumbers⟩
  · exact List.forall_mem_append.mpr ⟨hnumbersRange, by simpa using hrange⟩
  · rw [← List.concat_eq_append, List.nodup_concat]
    exact ⟨hunlisted, hslots⟩
  · rw [List.mem_append, List.mem_singleton, hmarked, Function.update_apply]
    split
    next hj => simp [hj]
    next hj => simp [hj]

theorem State.approvalsFull_eq_false_iff : s.approvalsFull = false ↔ s.apu.table.length < Config.approvalRecords := by
  rw [State.approvalsFull, decide_eq_false_iff_not, Nat.not_le]

/-- The number of a new record is in range and not in use: at most 15 of the 255 numbers are (08 R150). -/
theorem ApprovalsHeld.parkRecord_number (hs : ApprovalsHeld s) (hroom : s.apu.table.length < Config.approvalRecords)
    (slot term : Nat) (change : Parked) :
    (s.parkRecord slot term change).number ∉ s.apu.table.map Approval.number
      ∧ 1 ≤ (s.parkRecord slot term change).number ∧ (s.parkRecord slot term change).number ≤ 255 := by
  obtain ⟨⟨-, hlow, hhigh⟩, -, -, -⟩ := hs
  have hused : (s.apu.table.map Approval.number).length < 255 := by
    rw [List.length_map]
    exact hroom.trans (by decide)
  obtain ⟨k, heq, hfresh, -, hrange⟩ := firstFreeNumber _ 255 s.apu.counter hlow hhigh hused
  rw [List.length_map] at heq
  rw [State.parkRecord, heq]
  exact ⟨hfresh, hrange⟩

/-- A change parked on a check that is not held makes the record and the hold together (08 R150). -/
theorem ApprovalsHeld.park (hs : ApprovalsHeld s) (hc : s.check? slot = some c) (hheld : c.held = false)
    (hfull : s.approvalsFull = false) (term : Nat) (change : Parked) : ApprovalsHeld (s.park slot term change).1 := by
  have hroom := State.approvalsFull_eq_false_iff.mp hfull
  obtain ⟨hfresh, hrange⟩ := hs.parkRecord_number hroom slot term change
  have hapu : (s.park slot term change).1.apu = (s.withRecord (s.parkRecord slot term change)).apu := by
    rw [State.park_fst]
    dsimp only
    split <;> simp
  have hfree : s.ckt.awaiting slot = false := by
    simp only [Check.held, Holds.any, Bool.or_eq_false_iff] at hheld
    rw [State.awaiting_of_check? hc, hheld.2]
  refine hs.addRecord hroom (a := s.parkRecord slot term change) hfree hfresh hrange (by rw [hapu]; rfl) ?_ ?_
  · rw [hapu]
    exact cycleSucc_range (by decide)
  · have hhold : ((s.withRecord (s.parkRecord slot term change)).addHold slot .approval).ckt.awaiting
        = Function.update s.ckt.awaiting slot true := State.addHold_approval_awaiting hc
    rw [State.park_fst]
    dsimp only
    split
    · rw [State.announceWaiting_ckt, hhold]
      rfl
    · exact hhold

/-! ## Ends of exchanges (06, 6.5) -/

theorem ApprovalsHeld.closeStep (hs : ApprovalsHeld s) (slot : Nat) : ApprovalsHeld (s.closeStep slot) := by
  simp only [State.closeStep]
  split
  · exact hs
  · split
    · exact hs
    · split
      · exact hs.retire slot
      · exact hs.of_eq (by simp [State.approvalFigures])

theorem ApprovalsHeld.endExchange (hs : ApprovalsHeld s) (k : NeedKind) (i : Nat) (e : ExchangeEnd) :
    ApprovalsHeld (s.endExchange k i e) := by
  unfold State.endExchange
  split
  · exact hs
  next x _ =>
    cases k with
    | auth | increment | reverse => exact hs.of_eq (by simp [State.approvalFigures])
    | capture =>
      refine ApprovalsHeld.closeStep (hs.of_eq ?_) _
      simp [State.approvalFigures]

theorem ApprovalsHeld.completeNoLink (hs : ApprovalsHeld s) (n : Need) : ApprovalsHeld (s.completeNoLink n) :=
  have hremoved : ApprovalsHeld (s.removeNeed n.tender) := hs.of_eq rfl
  hremoved.endExchange n.kind n.tender .noLink

/-- What each step keeps, a fold keeps. -/
theorem ApprovalsHeld.foldl {α : Type} {f : State → α → State}
    (hf : ∀ {s : State} (a : α), ApprovalsHeld s → ApprovalsHeld (f s a)) (l : List α) (hs : ApprovalsHeld s) :
    ApprovalsHeld (l.foldl f s) := by
  induction l generalizing s with
  | nil => exact hs
  | cons a l ih => exact ih (hf a hs)

theorem ApprovalsHeld.departUp (hs : ApprovalsHeld s) : ApprovalsHeld s.departUp :=
  ApprovalsHeld.foldl (fun n hu => hu.completeNoLink n) _ hs

theorem ApprovalsHeld.raiseTimeouts (hs : ApprovalsHeld s) : ApprovalsHeld s.raiseTimeouts := by
  simp only [State.raiseTimeouts]
  split
  · exact hs.of_eq rfl
  · split
    · exact ApprovalsHeld.departUp (hs.of_eq rfl)
    · exact hs.of_eq rfl

theorem ApprovalsHeld.matchResult (hs : ApprovalsHeld s) (tag : Nat) (body : List Byte) :
    ApprovalsHeld (s.matchResult tag body) := by
  unfold State.matchResult
  split
  · exact hs.of_eq rfl
  next j _ =>
    split
    · exact hs.of_eq rfl
    next e _ =>
      split
      · exact hs.of_eq rfl
      · have hfreed : ApprovalsHeld (s.setEntry j none) := hs.of_eq rfl
        exact (hfreed.endExchange e.kind e.tender (resultEnd body)).of_eq rfl

/-! ## Releases of terminals and warm starts -/

/-- A released terminal leaves its records without a requester, and all else of them alone (02 R35 step 7). -/
theorem ApprovalsHeld.releaseTerminal (hs : ApprovalsHeld s) (n : Nat) : ApprovalsHeld (s.releaseTerminal n).1 := by
  refine hs.of_eq ?_
  have hnumbers : (fun a : Approval => (if a.requester = some n then { a with requester := none } else a).number)
      = Approval.number := by
    funext a
    split <;> rfl
  have hslots : (fun a : Approval => (if a.requester = some n then { a with requester := none } else a).slot)
      = Approval.slot := by
    funext a
    split <;> rfl
  simp only [State.approvalFigures, State.releaseTerminal_apu, State.releaseTerminal_awaiting, List.map_map,
    Function.comp_def, hnumbers, hslots]

theorem ApprovalsHeld.roleChanged (hs : ApprovalsHeld s) (n : Nat) (old new : Role) :
    ApprovalsHeld (s.roleChanged n old new) := by
  cases new with
  | off =>
    simp only [State.roleChanged]
    split
    · exact hs.of_eq rfl
    · exact hs.releaseTerminal n
  | server => exact hs
  | manager =>
    simp only [State.roleChanged]
    split
    · exact hs.of_eq (by simp [State.approvalFigures])
    · exact hs

theorem ApprovalsHeld.loadCopy (hs : ApprovalsHeld s) (w : Settings) (loaded : LoadedFrom) :
    ApprovalsHeld (s.loadCopy w loaded) :=
  ApprovalsHeld.foldl (f := fun u n => (u.releaseTerminal n).1) (fun n hu => hu.releaseTerminal n) _ (hs.of_eq rfl)

/-- Deadlines that start anew change no number and no slot (08 R150). -/
theorem ApprovalsHeld.recoverAll (hs : ApprovalsHeld s) : ApprovalsHeld s.recoverAll := by
  refine hs.of_eq ?_
  simp only [State.approvalFigures, State.recoverAll_apu, State.recoverAll_awaiting, List.map_map, Function.comp_def]

/-- Cleared memory holds no record and no check (11 R197). -/
theorem ApprovalsHeld.of_cleared (hapu : t.apu = State.reset.apu) (hckt : t.ckt = State.reset.ckt) :
    ApprovalsHeld t := by
  have hcheck : ∀ slot, t.check? slot = none := fun slot =>
    (State.check?_congr hckt slot).trans (State.reset_check? slot)
  rw [ApprovalsHeld, hapu]
  exact ⟨by decide, ⟨List.nodup_nil, nofun⟩, List.nodup_nil,
    fun slot => ⟨nofun, fun ⟨_, hc, _⟩ => by simp [hcheck] at hc⟩⟩

end
end Sys2Proof.Machine
end

section
/-! Every request keeps APPROVAL on exactly the checks with an approval record (08 R144, R150). -/

namespace Sys2Proof.Machine

section
variable {s t : State}

/-! ## Taken frames -/

/-- A meaning whose next state has APPROVAL on exactly the checks with a record. -/
def ApprovalsHeldTo (o : Out) : Prop := ∀ t, o = .next t → ApprovalsHeld t

theorem approvalsHeldTo_next (h : ApprovalsHeld t) : ApprovalsHeldTo (.next t) := by
  rintro u hu
  obtain rfl := Host.Outcome.next.inj hu
  exact h

theorem State.frame_approvalsHeld (hs : ApprovalsHeld s) {h : Hdr} {kind : Nat} {act : State → State × Reply}
    (hact : ∀ u, ApprovalsHeld u → ApprovalsHeld (act u).1) : ApprovalsHeld (s.frame h kind act) := by
  have hheard : ApprovalsHeld (s.hear h.term) := hs.of_eq (by simp [State.approvalFigures])
  unfold State.frame
  split
  · exact hs
  · exact hs.of_eq (by simp [State.approvalFigures])
  · exact hs.of_eq (by simp [State.approvalFigures])
  · exact hs.of_eq (by simp [State.approvalFigures])
  · exact (hact _ hheard).of_eq (by simp [State.approvalFigures])

variable {h : Hdr} {kind n : Nat} {cls : ReqClass}

theorem approvalsHeldTo_request (hs : ApprovalsHeld s) {act : State → State × Reply}
    (hact : ∀ u, ApprovalsHeld u → ApprovalsHeld (act u).1) : ApprovalsHeldTo (.next (s.request h kind cls act)) := by
  refine approvalsHeldTo_next (State.frame_approvalsHeld hs fun u hu => ?_)
  split
  · exact hact u hu
  · exact hu

/-- A request is judged, and acted on where no test refuses it. -/
theorem approvalsHeldTo_judged (hs : ApprovalsHeld s) {tests : State → List (Bool × Reply)}
    {act : State → State × Reply}
    (hact : ∀ u, ApprovalsHeld u → judge (tests u) = none → ApprovalsHeld (act u).1) :
    ApprovalsHeldTo (.next (s.request h kind cls fun u => judged u (tests u) (act u))) :=
  approvalsHeldTo_request hs fun u hu => judged_fst hu fun ht => hact u hu ht

/-- A request on a check is judged and acted on with the check in its slot. -/
theorem approvalsHeldTo_onCheck (hs : ApprovalsHeld s) {k : State → Nat → Check → State × Reply}
    (hk : ∀ u slot c, ApprovalsHeld u → u.check? slot = some c → ApprovalsHeld (k u slot c).1) :
    ApprovalsHeldTo (.next (s.request h kind cls fun u => u.withCheck n (k u))) :=
  approvalsHeldTo_request hs fun u hu => State.withCheck_fst hu fun slot c hc => hk u slot c hu hc

/-- A request on a tender of a check that leaves the records and the holds alone. -/
theorem approvalsHeldTo_onTender (hs : ApprovalsHeld s) {number : Nat}
    {tests : State → Check → Nat → Tender → List (Bool × Reply)}
    {act : State → Nat → Check → Nat → Tender → State × Reply}
    (hact : ∀ u slot c i x, (act u slot c i x).1.approvalFigures = u.approvalFigures) :
    ApprovalsHeldTo (.next (s.request h kind cls fun u => u.withCheck n fun slot c =>
      u.withTender c number fun i x => judged u (tests u c i x) (act u slot c i x))) :=
  approvalsHeldTo_onCheck hs fun u slot c hu _ => State.withTender_fst hu fun i x _ =>
    judged_fst hu fun _ => hu.of_eq (hact u slot c i x)

theorem approvalsHeldTo_malformed (hs : ApprovalsHeld s) (h : Hdr) (kind reason : Nat) :
    ApprovalsHeldTo (.next (s.malformedFrame h kind reason)) :=
  approvalsHeldTo_next (State.frame_approvalsHeld hs fun _ hu => hu)

/-! ## Requests on checks, lines and plans -/

theorem execOpenCheck_approvalsHeldTo (hs : ApprovalsHeld s) (table covers owner : Nat) :
    ApprovalsHeldTo (execOpenCheck h table covers owner s) := by
  refine approvalsHeldTo_judged hs fun u hu ht => ?_
  simp only [judge_eq_none_cons] at ht
  obtain ⟨-, -, -, -, -, -, hfree, -⟩ := ht
  obtain ⟨slot, hslot⟩ := Option.isSome_iff_exists.mp (by simpa using hfree)
  dsimp only
  rw [hslot]
  refine hu.of_eq ?_
  simp [State.approvalFigures, State.takenSummary, State.placeCheck_awaiting hslot, newCheck]

/-- Figures written for a check whose holds stay keep the records with their holds. -/
theorem ApprovalsHeld.writeFigures (hs : ApprovalsHeld s) {slot : Nat} {c c₁ : Check} (hc : s.check? slot = some c)
    (hholds : c₁.holds = c.holds) (w : Settings) : ApprovalsHeld (s.writeFigures slot (recompute w c₁)) :=
  hs.of_eq (by simp [State.approvalFigures, State.writeFigures_awaiting hc hholds])

theorem execUpdateCheck_approvalsHeldTo (hs : ApprovalsHeld s) (check covers : Nat) :
    ApprovalsHeldTo (execUpdateCheck h check covers s) :=
  approvalsHeldTo_onCheck hs fun u _ c hu hc => judged_fst hu fun _ =>
    hu.writeFigures (c₁ := { c with covers }) hc rfl u.sst.work

theorem execTransferCheck_approvalsHeldTo (hs : ApprovalsHeld s) (check table owner : Nat) :
    ApprovalsHeldTo (execTransferCheck h check table owner s) := by
  refine approvalsHeldTo_onCheck hs fun u slot c hu hc => judged_fst hu fun ht => ?_
  simp only [judge_eq_none_cons] at ht
  obtain ⟨-, -, -, -, -, -, hheld, -, -, hfull, -⟩ := ht
  split
  next hparks => exact hu.park hc hheld (Bool.and_eq_false_imp.mp hfull hparks) _ _
  · exact hu.of_eq (by simp [State.approvalFigures, State.takenSummary])

theorem execVoidCheck_approvalsHeldTo (hs : ApprovalsHeld s) (check : Nat) :
    ApprovalsHeldTo (execVoidCheck h check s) := by
  refine approvalsHeldTo_onCheck hs fun u slot c hu hc => judged_fst hu fun ht => ?_
  simp only [judge_eq_none_cons] at ht
  obtain ⟨-, -, hheld, -, -, hfull, -⟩ := ht
  split
  next hparks => exact hu.park hc hheld (Bool.and_eq_false_imp.mp hfull hparks) _ _
  · exact hu.retire slot

theorem execCloseCheck_approvalsHeldTo (hs : ApprovalsHeld s) (check : Nat) :
    ApprovalsHeldTo (execCloseCheck h check s) := by
  refine approvalsHeldTo_onCheck hs fun u slot c hu _ => judged_fst hu fun _ => ?_
  split
  · exact hu.retire slot
  · exact hu.of_eq (by simp [State.approvalFigures, State.takenSummary])

theorem execAddLines_approvalsHeldTo (hs : ApprovalsHeld s) (check : Nat) (entries : List LineEntry) :
    ApprovalsHeldTo (execAddLines h check entries s) := by
  unfold execAddLines
  split
  · exact approvalsHeldTo_malformed hs h _ _
  · refine approvalsHeldTo_onCheck hs fun u slot c hu hc => judged_fst hu fun _ => hu.of_eq ?_
    have hkept := State.takeLines_awaiting hc (c₁ := c.withLines entries h.term) rfl u.sst.work entries.length
    simp [State.approvalFigures, hkept]

theorem execVoidLine_approvalsHeldTo (hs : ApprovalsHeld s) (check line : Nat) :
    ApprovalsHeldTo (execVoidLine h check line s) := by
  refine approvalsHeldTo_onCheck hs fun u slot c hu hc => ?_
  split
  · exact hu
  · split
    · exact hu
    · refine judged_fst hu fun ht => ?_
      simp only [State.parkTests, Tally.test, judge_append, judge_eq_none_cons] at ht
      obtain ⟨⟨-, -, hheld, -⟩, -, hfull, -⟩ := ht
      split
      next hparks => exact hu.park hc hheld (Bool.and_eq_false_imp.mp hfull hparks) _ _
      · exact hu.writeFigures hc (c₁ := c.withVoid line) rfl u.sst.work

theorem execDiscountLine_approvalsHeldTo (hs : ApprovalsHeld s) (check line amount : Nat) :
    ApprovalsHeldTo (execDiscountLine h check line amount s) := by
  refine approvalsHeldTo_onCheck hs fun u slot c hu hc => ?_
  split
  · exact hu
  · split
    · exact hu
    next l _ =>
      refine judged_fst hu fun ht => ?_
      simp only [State.parkTests, Tally.test, judge_append, judge_eq_none_cons] at ht
      obtain ⟨⟨-, -, -, hheld, -⟩, -, hfull, -⟩ := ht
      split
      next hparks => exact hu.park hc hheld (Bool.and_eq_false_imp.mp hfull hparks) _ _
      · exact hu.writeFigures hc (c₁ := c.withDiscount line (min amount l.gross)) rfl u.sst.work

theorem execLockSplit_approvalsHeldTo (hs : ApprovalsHeld s) (check : Nat) :
    ApprovalsHeldTo (execLockSplit h check s) := by
  refine approvalsHeldTo_onCheck hs fun u slot c hu _ => ?_
  dsimp only
  split
  · exact hu
  · split
    · split
      · exact hu.of_eq (by simp [State.approvalFigures])
      · exact hu
    · exact judged_fst hu fun _ => hu.of_eq (by simp [State.approvalFigures, State.takenSummary])

/-! ## Requests on tenders -/

theorem execStartTender_approvalsHeldTo (hs : ApprovalsHeld s) (check portion kind amount : Nat) (token : List Byte) :
    ApprovalsHeldTo (execStartTender h check portion kind amount token s) := by
  unfold execStartTender
  split
  · exact approvalsHeldTo_malformed hs h _ _
  · exact approvalsHeldTo_onCheck hs fun u slot c hu _ => judged_fst hu fun _ =>
      hu.of_eq (by simp [State.approvalFigures])

theorem execSubmitTip_approvalsHeldTo (hs : ApprovalsHeld s) (check tender form figure : Nat) :
    ApprovalsHeldTo (execSubmitTip h check tender form figure s) := by
  refine approvalsHeldTo_onCheck hs fun u slot c hu _ => ?_
  split
  · exact hu
  · exact State.withTender_fst hu fun i x _ => judged_fst hu fun _ => hu.of_eq (by simp [State.approvalFigures])

/-! ## Requests on holds, approvals, statuses and settings -/

theorem execHoldCheck_approvalsHeldTo (hs : ApprovalsHeld s) (check : Nat) :
    ApprovalsHeldTo (execHoldCheck h check s) := by
  refine approvalsHeldTo_onCheck hs fun u slot c hu _ => judged_fst hu fun _ => ?_
  dsimp only [State.takenSummary]
  split
  · exact hu
  · exact hu.of_eq (by simp [State.approvalFigures])

theorem execApprove_approvalsHeldTo (hs : ApprovalsHeld s) (check number : Nat) :
    ApprovalsHeldTo (execApprove h check number s) :=
  approvalsHeldTo_request hs fun _ hu => State.withApproval_fst_of_listed hu fun _ _ _ ha hc =>
    judged_fst hu fun _ => hu.approveRecord ha hc

theorem execReject_approvalsHeldTo (hs : ApprovalsHeld s) (check number : Nat) :
    ApprovalsHeldTo (execReject h check number s) :=
  approvalsHeldTo_request hs fun _ hu => State.withApproval_fst_of_listed hu fun _ _ _ ha _ =>
    judged_fst hu fun _ => hu.endApproval ha 17

theorem execFetchNextPending_approvalsHeldTo (hs : ApprovalsHeld s) : ApprovalsHeldTo (execFetchNextPending h s) := by
  refine approvalsHeldTo_request hs fun u hu => ?_
  split
  · exact hu
  · exact hu.of_eq (by simp [State.approvalFigures])

theorem execLoadSettings_approvalsHeldTo (hs : ApprovalsHeld s) (source : Nat) :
    ApprovalsHeldTo (execLoadSettings h source s) := by
  refine approvalsHeldTo_request hs fun u hu => ?_
  split
  · exact hu
  · split
    · exact hu
    · exact judged_fst hu fun _ => hu.loadCopy _ _

end

/-- A request that a transaction carries keeps APPROVAL with the records. -/
theorem execRequest_approvalsHeldTo (i : Instr) {s : State} (hs : ApprovalsHeld s) :
    ApprovalsHeldTo (execRequest i s) := by
  cases i with
  -- requests that leave the records and the holds to what their frame does
  | hello h | readPartStatus h => exact approvalsHeldTo_request hs fun _ hu => hu
  | readCheck h check | readLines h check first last =>
    exact approvalsHeldTo_onCheck hs fun _ _ _ hu _ => judged_fst hu fun _ => hu
  | readTable h table | readSetting h number => exact approvalsHeldTo_judged hs fun _ hu _ => hu
  | setWatch h check mask =>
    exact approvalsHeldTo_onCheck hs fun _ _ _ hu _ => judged_fst hu fun _ => hu.of_eq rfl
  | setTable h first last sect | setSetting h number value | setClock h day minute =>
    exact approvalsHeldTo_judged hs fun _ hu _ => hu.of_eq rfl
  | dropWatch h check | ackNoticeStartup h source | saveSettings h =>
    exact approvalsHeldTo_judged hs fun _ hu _ => hu.of_eq rfl
  | fetchHits h => exact approvalsHeldTo_request hs fun _ hu => hu.of_eq rfl
  | ackNoticeAged h | clearLinkFault h =>
    exact approvalsHeldTo_request hs fun _ hu => hu.of_eq (by simp [State.approvalFigures])
  -- requests on checks, lines and plans
  | openCheck h table covers owner => exact execOpenCheck_approvalsHeldTo hs table covers owner
  | updateCheck h check covers => exact execUpdateCheck_approvalsHeldTo hs check covers
  | presentCheck h check | setSplit h check kind count =>
    exact approvalsHeldTo_onCheck hs fun _ _ _ hu _ => judged_fst hu fun _ =>
      hu.of_eq (by simp [State.approvalFigures, State.takenSummary])
  | setPortion h check portion amount =>
    exact approvalsHeldTo_onCheck hs fun _ _ _ hu _ => judged_fst hu fun _ =>
      hu.of_eq (by simp [State.approvalFigures])
  | transferCheck h check table owner => exact execTransferCheck_approvalsHeldTo hs check table owner
  | voidCheck h check => exact execVoidCheck_approvalsHeldTo hs check
  | closeCheck h check => exact execCloseCheck_approvalsHeldTo hs check
  | addLines h check entries => exact execAddLines_approvalsHeldTo hs check entries
  | voidLine h check line => exact execVoidLine_approvalsHeldTo hs check line
  | discountLine h check line amount => exact execDiscountLine_approvalsHeldTo hs check line amount
  | lockSplit h check => exact execLockSplit_approvalsHeldTo hs check
  -- requests on tenders
  | startTender h check portion kind amount token =>
    exact execStartTender_approvalsHeldTo hs check portion kind amount token
  | submitTip h check tender form figure => exact execSubmitTip_approvalsHeldTo hs check tender form figure
  | withdrawTender h check tender =>
    exact approvalsHeldTo_onTender hs fun _ _ _ _ _ => by split <;> simp [State.approvalFigures]
  | fetchStatus h check tender | abandonTender h check tender =>
    exact approvalsHeldTo_onTender hs fun _ _ _ _ _ => by simp [State.approvalFigures]
  -- requests on holds, approvals, statuses and terminals
  | holdCheck h check => exact execHoldCheck_approvalsHeldTo hs check
  | releaseCheck h check =>
    exact approvalsHeldTo_onCheck hs fun _ _ _ hu _ => judged_fst hu fun _ =>
      hu.of_eq (by simp [State.approvalFigures, State.takenSummary])
  | approve h check number => exact execApprove_approvalsHeldTo hs check number
  | reject h check number => exact execReject_approvalsHeldTo hs check number
  | fetchNextPending h => exact execFetchNextPending_approvalsHeldTo hs
  | setTerminal h terminal role mask =>
    exact approvalsHeldTo_judged hs fun u hu _ =>
      ApprovalsHeld.roleChanged (s := u.writeTerminal terminal _ _) (hu.of_eq rfl) terminal _ _
  | forgetTerminal h terminal => exact approvalsHeldTo_judged hs fun _ hu _ => hu.releaseTerminal terminal
  | loadSettings h source => exact execLoadSettings_approvalsHeldTo hs source
  -- frames that are no well-formed request
  | malformedRequest h kind bodyLen =>
    simp only [execRequest, execMalformedRequest]
    split
    · exact approvalsHeldTo_next hs
    · exact approvalsHeldTo_malformed hs h kind _
  | tagZeroFrame port =>
    simp only [execRequest, execTagZeroFrame]
    split
    · exact approvalsHeldTo_next (hs.of_eq (by simp [State.approvalFigures]))
    · exact approvalsHeldTo_next hs
  | crcErrorFrame _ | frameLenError _ _ | frameIdleTimeout _ _ | requestOverrun _ | fhpTransaction _
  | outputFrameSent _ | result _ _ | nonResultFrame _ | exchangeTimeout _ | grant | noLinkCompletion
  | linkOkFall | linkOkRise | leaseExpiry _ _ | approvalExpiry _ | terminalSilence _ | checkAged _
  | secondTick | minuteTick | saveEnd _ | resetAssert _ | coldStart _ | warmStart _
  | clockAdvanceWithoutPower _ | retentionIndicatorLost => exact approvalsHeldTo_next hs

end Sys2Proof.Machine
end

section
/-! Every event keeps APPROVAL on exactly the checks with an approval record, and so does every step (08 R144, R150). -/

namespace Sys2Proof.Machine

section
variable {s t : State} (hs : ApprovalsHeld s)
include hs

/-! ## Events at the ports -/

theorem State.takeIncoming_approvalsHeld (bytes : List Byte) : ApprovalsHeld (s.takeIncoming bytes) := by
  unfold State.takeIncoming
  split
  · exact hs
  · exact hs.of_eq rfl
  · exact hs.of_eq rfl
  · split
    · exact hs
    next i _ =>
      cases ho : execRequest i s with
      | next t => exact execRequest_approvalsHeldTo i hs t ho
      | fault _ | refused _ => exact hs

theorem execFhpTransaction_approvalsHeldTo (bytes : List Byte) : ApprovalsHeldTo (execFhpTransaction bytes s) := by
  refine approvalsHeldTo_next ?_
  split
  · exact hs
  · split
    · exact hs.of_eq rfl
    · exact (State.takeIncoming_approvalsHeld hs bytes).of_eq (by simp [State.approvalFigures])

theorem execFrameIdleTimeout_approvalsHeldTo (port : StreamPort) (count : Nat) :
    ApprovalsHeldTo (execFrameIdleTimeout port count s) := by
  refine approvalsHeldTo_next ?_
  split
  · exact hs
  · split
    · exact hs.of_eq (by simp [State.approvalFigures])
    · split
      · exact hs
      · exact hs.of_eq (by simp [State.approvalFigures])
    · exact hs.of_eq (by simp [State.approvalFigures])
    · exact hs.of_eq (by simp [State.approvalFigures])

theorem execOutputFrameSent_approvalsHeldTo (port : StreamPort) : ApprovalsHeldTo (execOutputFrameSent port s) := by
  refine approvalsHeldTo_next ?_
  split
  · exact hs
  · cases port with
    | flp => dsimp only; split <;> exact hs.of_eq rfl
    | aqp => exact hs.of_eq rfl

/-! ## Events at the acquirer -/

theorem execResult_approvalsHeldTo (tag : Nat) (body : List Byte) : ApprovalsHeldTo (execResult tag body s) := by
  refine approvalsHeldTo_next ?_
  split
  · exact hs
  · split
    · exact hs.of_eq rfl
    · exact ApprovalsHeld.matchResult (s := s.clearTimeouts) (hs.of_eq rfl) tag body

theorem execExchangeTimeout_approvalsHeldTo (tag : Nat) : ApprovalsHeldTo (execExchangeTimeout tag s) := by
  refine approvalsHeldTo_next ?_
  split
  · exact hs
  next j _ =>
    split
    · exact hs
    next e _ =>
      split
      · have hfreed : ApprovalsHeld ((s.doneExchange tag).setEntry j none) := hs.of_eq rfl
        exact (hfreed.raiseTimeouts.endExchange e.kind e.tender .timeout).of_eq rfl
      · exact hs

theorem execGrant_approvalsHeldTo : ApprovalsHeldTo (execGrant s) := by
  refine approvalsHeldTo_next ?_
  split
  · split
    · exact hs
    · split
      · exact hs
      · exact hs.of_eq rfl
  · exact hs

theorem execNoLinkCompletion_approvalsHeldTo : ApprovalsHeldTo (execNoLinkCompletion s) := by
  refine approvalsHeldTo_next ?_
  split
  · split
    · exact hs
    next n _ => exact (hs.completeNoLink n).of_eq rfl
  · exact hs

theorem execLinkOkFall_approvalsHeldTo : ApprovalsHeldTo (execLinkOkFall s) := by
  have hdown : ApprovalsHeld ((s.setLinkOk false).setLink .down) := hs.of_eq rfl
  refine approvalsHeldTo_next ?_
  dsimp only
  split
  · exact hdown.departUp.of_eq rfl
  · exact hs.of_eq rfl

theorem execLinkOkRise_approvalsHeldTo : ApprovalsHeldTo (execLinkOkRise s) := by
  refine approvalsHeldTo_next ?_
  dsimp only
  split <;> exact hs.of_eq rfl

/-! ## Expiries and ticks -/

theorem execLeaseExpiry_approvalsHeldTo (check tender : Nat) : ApprovalsHeldTo (execLeaseExpiry check tender s) := by
  refine approvalsHeldTo_next ?_
  split
  · exact hs
  · split
    · exact hs
    · split
      · exact hs.of_eq (by simp [State.approvalFigures])
      · exact hs

/-- The record that expires stands in the table under its number (08 R152). -/
theorem execApprovalExpiry_approvalsHeldTo (number : Nat) : ApprovalsHeldTo (execApprovalExpiry number s) := by
  refine approvalsHeldTo_next ?_
  split
  · exact hs
  next a ha =>
    split
    · have hdone : ApprovalsHeld (s.doneApproval number) := hs.of_eq rfl
      have hlisted : a ∈ (s.doneApproval number).apu.table := List.mem_of_find?_eq_some ha
      exact (hdone.endApproval hlisted 18).of_eq rfl
    · exact hs

theorem execCheckAged_approvalsHeldTo (check : Nat) : ApprovalsHeldTo (execCheckAged check s) := by
  refine approvalsHeldTo_next ?_
  split
  · exact hs
  · split
    · exact hs
    · split
      · exact hs.of_eq (by simp [State.approvalFigures])
      · exact hs

theorem execSecondTick_approvalsHeldTo : ApprovalsHeldTo (execSecondTick s) := by
  refine approvalsHeldTo_next ?_
  split
  · dsimp only
    split <;> exact hs.of_eq rfl
  · exact hs

theorem execClockAdvanceWithoutPower_approvalsHeldTo (seconds : Nat) :
    ApprovalsHeldTo (execClockAdvanceWithoutPower seconds s) := by
  refine approvalsHeldTo_next ?_
  split
  · dsimp only
    split
    · rw [State.passMinutes_frame]
      exact hs.of_eq rfl
    · exact hs.of_eq rfl
  · exact hs

/-! ## Starts and the loss of retention -/

theorem execColdStart_approvalsHeldTo (selLow : Bool) : ApprovalsHeldTo (execColdStart selLow s) := by
  refine approvalsHeldTo_next ?_
  split
  · exact .of_cleared rfl rfl
  · exact hs

theorem execRetentionIndicatorLost_approvalsHeldTo : ApprovalsHeldTo (execRetentionIndicatorLost s) := by
  refine approvalsHeldTo_next ?_
  split
  · exact .of_cleared rfl rfl
  · exact hs

theorem execWarmStart_approvalsHeldTo (selLow : Bool) : ApprovalsHeldTo (execWarmStart selLow s) := by
  have hstarted : ApprovalsHeld ((s.startCommon selLow).latchStart .warm) := hs.of_eq rfl
  refine approvalsHeldTo_next ?_
  split
  · exact hstarted.recoverAll
  · exact hs

/-- An event that leaves the records and the holds alone where its condition holds, and everything where it does
not. -/
theorem approvalsHeldTo_ite {b : Prop} [Decidable b] (h : t.approvalFigures = s.approvalFigures) :
    ApprovalsHeldTo (.next (if b then t else s)) := by
  refine approvalsHeldTo_next ?_
  split
  · exact hs.of_eq h
  · exact hs

end

/-! ## Every command -/

theorem exec_approvalsHeldTo (i : Instr) {s : State} (hs : ApprovalsHeld s) : ApprovalsHeldTo (exec i s) := by
  by_cases hi : (requestOf i).isSome = true
  · rw [exec_eq_execRequest hi]
    exact execRequest_approvalsHeldTo i hs
  cases i with
  | malformedRequest h kind bodyLen => exact execRequest_approvalsHeldTo (.malformedRequest h kind bodyLen) hs
  | tagZeroFrame port => exact execRequest_approvalsHeldTo (.tagZeroFrame port) hs
  | crcErrorFrame port => exact approvalsHeldTo_ite hs (by simp [State.approvalFigures])
  | frameLenError port len => exact approvalsHeldTo_ite hs (by simp [State.approvalFigures])
  | frameIdleTimeout port count => exact execFrameIdleTimeout_approvalsHeldTo hs port count
  | requestOverrun port => exact approvalsHeldTo_ite hs (by simp [State.approvalFigures])
  | fhpTransaction bytes => exact execFhpTransaction_approvalsHeldTo hs bytes
  | outputFrameSent port => exact execOutputFrameSent_approvalsHeldTo hs port
  | result tag body => exact execResult_approvalsHeldTo hs tag body
  | nonResultFrame kind => exact approvalsHeldTo_ite hs rfl
  | exchangeTimeout tag => exact execExchangeTimeout_approvalsHeldTo hs tag
  | grant => exact execGrant_approvalsHeldTo hs
  | noLinkCompletion => exact execNoLinkCompletion_approvalsHeldTo hs
  | linkOkFall => exact execLinkOkFall_approvalsHeldTo hs
  | linkOkRise => exact execLinkOkRise_approvalsHeldTo hs
  | leaseExpiry check tender => exact execLeaseExpiry_approvalsHeldTo hs check tender
  | approvalExpiry number => exact execApprovalExpiry_approvalsHeldTo hs number
  | terminalSilence terminal => exact approvalsHeldTo_ite hs rfl
  | checkAged check => exact execCheckAged_approvalsHeldTo hs check
  | secondTick => exact execSecondTick_approvalsHeldTo hs
  | minuteTick => exact approvalsHeldTo_ite hs rfl
  | saveEnd matched => exact approvalsHeldTo_ite hs rfl
  | resetAssert cause => cases cause <;> exact approvalsHeldTo_next (hs.of_eq rfl)
  | coldStart selLow => exact execColdStart_approvalsHeldTo hs selLow
  | warmStart selLow => exact execWarmStart_approvalsHeldTo hs selLow
  | clockAdvanceWithoutPower seconds => exact execClockAdvanceWithoutPower_approvalsHeldTo hs seconds
  | retentionIndicatorLost => exact execRetentionIndicatorLost_approvalsHeldTo hs
  | _ => exact absurd rfl hi

/-- Settles O54: a change is parked with its hold on a check that has none, a record ends with its hold or with its
check, and every other operation leaves the records and APPROVAL alone. -/
theorem approvalsStayHeld : Obligations.ApprovalsStayHeld := by
  intro s t hstep hs
  unfold step at hstep
  split at hstep
  · obtain rfl := Host.Outcome.next.inj hstep
    exact hs
  next c rest _ =>
    have hfront : ApprovalsHeld { s with pending := rest } := hs.of_eq rfl
    exact exec_approvalsHeldTo c hfront t hstep

end Sys2Proof.Machine
end

section
/-! HOLD CHECK, RELEASE CHECK, APPROVE and REJECT as they are carried out, and the second judgement of each kind of
parked change (03 R53; 08 R145, R146, R153 to R156). -/

namespace Sys2Proof.Machine

/-! ## The requests -/

section
variable {s : State} {h : Hdr} {number slot n : Nat} {c : Check} {a : Approval}

/-- Nothing refuses HOLD CHECK of a check that is not CLOSING; where MANAGER is there already it changes nothing
(08 R145). -/
theorem holdCheck_completes (hj : Judged s h .manager) (hn : Named s number slot c) (hstale : c.isStale h.ver = false)
    (hopen : c.state ≠ .closing) :
    exec (.holdCheck h number) s = .next
      ((fun t : State => t.finish h 0x50 .taken (t.summaryAt slot))
        (if c.holds.manager then s.hear h.term else (s.hear h.term).addHold slot .manager)) := by
  refine congrArg Host.Outcome.next (request_eq_finish hj ?_)
  rw [withCheck_of_named (hn.hear _), judged_of_pass]
  · rfl
  · simp [judge_eq_none_cons, judge_nil, hstale, hopen]

/-- RELEASE CHECK of a check that holds MANAGER removes it (08 R146). -/
theorem releaseCheck_completes (hj : Judged s h .manager) (hn : Named s number slot c)
    (hstale : c.isStale h.ver = false) (hmanager : c.holds.manager = true) :
    exec (.releaseCheck h number) s = .next
      ((fun t : State => t.finish h 0x51 .taken (t.summaryAt slot)) ((s.hear h.term).removeHold slot .manager)) := by
  refine congrArg Host.Outcome.next (request_eq_finish hj ?_)
  rw [withCheck_of_named (hn.hear _), judged_of_pass]
  · rfl
  · simp [judge_eq_none_cons, judge_nil, hstale, hmanager]

/-- A request that names the record of a check is acted on with the check and the record (08 R153). -/
theorem withApproval_of_named (hn : Named s number slot c) (ha : s.approvalOf slot = some a)
    (k : Nat → Check → Approval → State × Reply) : s.withApproval number k = k slot c a := by
  rw [State.withApproval, withCheck_of_named hn, ha]

theorem Approval.misnamed_eq_false (hnumber : n = 0 ∨ n = a.number) : a.misnamed n = false := by
  rcases hnumber with rfl | rfl <;> simp [Approval.misnamed]

/-- APPROVE by another requester of a check without MANAGER ends the record with what the second judgement gives
(08 R153, R155). -/
theorem approve_completes (hj : Judged s h .manager) (hn : Named s number slot c) (ha : s.approvalOf slot = some a)
    (hnumber : n = 0 ∨ n = a.number) (hown : h.term = 0 ∨ a.requester ≠ some h.term)
    (hmanager : c.holds.manager = false) {t : State} {outcome : Nat} {retired : Bool}
    (hend : (s.hear h.term).approveRecord a c = (t, outcome, retired)) :
    exec (.approve h number n) s = .next
      (t.finish h 0x52 .taken (t.approvedBody slot a number outcome retired)) := by
  refine congrArg Host.Outcome.next (request_eq_finish hj ?_)
  rw [withApproval_of_named (hn.hear _) (by rw [State.hear_approvalOf, ha]), judged_of_pass, hend, hn.number_eq]
  have hother : (h.term != 0 && decide (a.requester = some h.term)) = false := by
    rcases hown with hown | hown <;> simp [hown]
  simp only [judge_eq_none_cons, judge_nil, hother, Approval.misnamed_eq_false hnumber, hmanager, and_self]

/-- REJECT ends the record with its change unmade (08 R156). -/
theorem reject_completes (hj : Judged s h .manager) (hn : Named s number slot c) (ha : s.approvalOf slot = some a)
    (hnumber : n = 0 ∨ n = a.number) :
    exec (.reject h number n) s = .next
      ((fun t : State => t.finish h 0x53 .taken (be1 a.number ++ t.summaryAt slot))
        ((((s.hear h.term).dropApproval a).removeHold slot .approval).announceEnding a number 17)) := by
  obtain ⟨-, rfl⟩ := s.approvalOf_spec ha
  have hnamed : (s.hear h.term).numberAt a.slot = number := by
    rw [State.numberAt, (hn.hear _).2, Option.map_some, Option.getD_some, hn.number_eq]
  refine congrArg Host.Outcome.next (request_eq_finish hj ?_)
  rw [withApproval_of_named (hn.hear _) (by rw [State.hear_approvalOf, ha]), judged_of_pass]
  · simp only [State.endApproval, hnamed]
  · simp only [judge_eq_none_cons, judge_nil, Approval.misnamed_eq_false hnumber, and_self]

end

/-! ## The second judgement (03 R53, 08 R154) -/

section
variable {s : State} {slot line : Nat} {c changed c' : Check} {l : Line}

theorem State.applyLine_of_ok (hok : recompute s.sst.work changed = .ok c') :
    s.applyLine slot l changed = if l.void = true then .refused .busy else .applied (s.modCheck slot fun _ => c') := by
  rw [State.applyLine, hok]

theorem State.applyLine_of_refused (hbad : ∀ c', recompute s.sst.work changed ≠ .ok c') :
    s.applyLine slot l changed = .refused .range := by
  unfold State.applyLine
  split
  next c' hok => exact absurd hok (hbad c')
  · rfl

/-- A parked void of a line that is there is judged on the figures found without it. -/
theorem State.evaluate_voidLine (hline : c.line? line = some l) :
    s.evaluate slot c (.voidLine line) = s.applyLine slot l (c.withVoid line) := by
  rw [State.evaluate, hline]

/-- A parked discount of a line that is there is cut to its gross. -/
theorem State.evaluate_discountLine (hline : c.line? line = some l) (applied : Nat) :
    s.evaluate slot c (.discountLine line applied)
      = s.applyLine slot l (c.withDiscount line (min applied l.gross)) := by
  rw [State.evaluate, hline]

theorem State.evaluate_voidCheck : s.evaluate slot c .voidCheck =
    if s.anyPending c = true then .refused .pending
    else if c.orderable = false then .refused .busy
    else .retired (s.retire slot) := by
  simp only [State.evaluate, Bool.not_eq_true']

theorem State.tableFull_iff (table : Nat) : s.tableFull table = true ↔ 4 ≤ (s.tableList table).length :=
  decide_eq_true_iff

theorem State.evaluate_transferCheck (table owner : Nat) : s.evaluate slot c (.transferCheck table owner) =
    if changesOwner c owner = true ∧ s.mayOwn owner = false ∨ movesTable c table = false ∧ changesOwner c owner = false
    then .refused .range
    else if c.closeRunning = true ∨ movesTable c table = true ∧ s.sectionOf table = 0 then .refused .busy
    else if movesTable c table = true ∧ 4 ≤ (s.tableList table).length then .refused .full
    else .applied (s.moveCheck slot c table owner) := by
  simp only [State.evaluate, State.applyTransfer, State.tableFull_iff, Bool.or_eq_true, Bool.and_eq_true,
    Bool.not_eq_true', beq_iff_eq]

end

/-- Settles O17: no test refuses the four requests, APPROVE ends its record with what the second judgement gives, and
each kind of parked change is judged by the tests of its own request. -/
theorem holdAndApprovalRequestsComplete : Obligations.HoldAndApprovalRequestsComplete := by
  refine ⟨fun s h number slot c hj hn hstale hopen hfree => ?_, fun s h number slot c hj hn hstale hopen hmanager => ?_,
    fun s h number slot c hj hn hstale hmanager => releaseCheck_completes hj hn hstale hmanager,
    fun s h number slot n c a hj hn ha hnumber hown hmanager => ?_,
    fun s h number slot n c a hj hn ha hnumber => reject_completes hj hn ha hnumber,
    fun s slot line c l hline => ?_, fun _ _ _ => State.evaluate_voidCheck,
    fun _ _ table owner _ => State.evaluate_transferCheck table owner⟩
  · simpa only [hfree, Bool.false_eq_true, if_false] using holdCheck_completes hj hn hstale hopen
  · have hsummary : (s.hear h.term).summaryAt slot = s.summary c := by
      rw [State.hear_summaryAt, State.summaryAt, hn.2]
    simpa only [hmanager, if_true, hsummary] using holdCheck_completes hj hn hstale hopen
  · obtain rfl := (s.approvalOf_spec ha).2
    obtain rfl := hn.number_eq
    exact ⟨fun _ heval =>
        approve_completes hj hn ha hnumber hown hmanager (State.approveRecord_of_refused heval),
      fun _ heval => approve_completes hj hn ha hnumber hown hmanager (State.approveRecord_of_applied heval),
      fun _ heval =>
        (approve_completes hj hn ha hnumber hown hmanager (State.approveRecord_of_retired heval)).trans
          (by simp [State.approvedBody, retiredBody])⟩
  · refine ⟨fun c' hok => ?_, fun hbad => ?_, fun applied => ⟨fun c' hok => ?_, fun hbad => ?_⟩⟩
    · rw [State.evaluate_voidLine hline, State.applyLine_of_ok hok]
    · rw [State.evaluate_voidLine hline, State.applyLine_of_refused hbad]
    · rw [State.evaluate_discountLine hline, State.applyLine_of_ok hok]
    · rw [State.evaluate_discountLine hline, State.applyLine_of_refused hbad]

end Sys2Proof.Machine
end
